-- ==== Sys2Proof/Word.lean ====
section
/-! DEFINITION. The word types of the BK-4720: what a link or the show-memory bus carries as bits. -/

namespace Sys2Proof

/-- One byte of a control-link transaction (R169). -/
abbrev Byte := BitVec 8

/-- A two-byte field of a payload: a level, a time or a count (R178). -/
abbrev Half := BitVec 16

/-- One 32-bit word of show memory or of a record (R178). -/
abbrev Word := BitVec 32

/-- A cue number as three bytes: the 16-bit major number, then the 8-bit point (R178).
The order of cue numbers, by major and then by point, is the order of these bits as a number. -/
abbrev CueNum := BitVec 24

end Sys2Proof
end

