-- ==== Sys2Proof/Config.lean ====
section
/-! DEFINITION. The fixed constants of the part: capacities, ranges and fixed times, from the tables of
00_scope.md, and the values that the manual leaves without a number. Nothing here is chosen by the model. -/

namespace Sys2Proof.Config

/-- Words of show memory (R10, R11). -/
def memoryWords : Nat := 16777216
/-- The most words one transfer moves (R5). -/
def blockWords : Nat := 256
/-- The largest access delay in ns (R2). -/
def maxAccessDelay : Nat := 2550
/-- The access delay after reset in ns (R19). -/
def resetAccessDelay : Nat := 200
/-- Cues in the store (R22). -/
def maxCues : Nat := 600
/-- Actions of all cues (R22). -/
def maxActions : Nat := 4096
/-- Actions of one cue (R21). -/
def maxCueActions : Nat := 32
/-- Scenes in the store (R25). -/
def maxScenes : Nat := 128
/-- Entries of all scenes (R25). -/
def maxEntries : Nat := 4096
/-- Entries of one scene (R25). -/
def maxSceneEntries : Nat := 128
/-- Regions of the image (R10). -/
def maxRegions : Nat := 1024
/-- RELAY outputs of the image (R10). -/
def maxRelay : Nat := 16
/-- The longest pre-wait, follow delay or fade time in ms (R21, R23). -/
def maxTime : Nat := 600000
/-- Characters of a label (R21). -/
def maxLabel : Nat := 24
/-- Instances in the running cue table (R46). -/
def maxInstances : Nat := 24
/-- Entries of a voice's FIFO (R64). -/
def fifoEntries : Nat := 1024
/-- Frames that prime a voice, and below which its request is urgent (R4, R73). -/
def primeFrames : Nat := 256
/-- Frames of the declick and blanking ramps (R85, R117). -/
def rampFrames : Nat := 240
/-- Entries of the fade list (R91). -/
def maxFades : Nat := 256
/-- Waiting calls (R145). -/
def maxWaiting : Nat := 8
/-- Event records in one link's queue (R174). -/
def queueRecords : Nat := 64
/-- Event records that one READ EVENTS returns (R176). -/
def readEventsMax : Nat := 16
/-- Frames of one millisecond (R125). -/
def framesPerMs : Nat := 48
/-- Frames of a leveler window (R142). -/
def windowFrames : Nat := 4800
/-- Milliseconds of qualification before lock (R123). -/
def lockMs : Nat := 1000
/-- The largest payload of a request in bytes (R170). -/
def maxPayload : Nat := 1024
/-- The protocol revision that ATTACH accepts (R171). -/
def protocolRevision : Nat := 1
/-- Where the 16-bit counters of underruns, clips and stem saturations stay (R64, R87, R119). -/
def counterTop : Nat := 65535
/-- The code of the result END_OF_LIST. R39 and R41 refuse with that name, and the results of R178 hold no code for
it: a free value, of which nothing can be proved (log 20). -/
opaque endOfListCode : Byte
/-- The call state that the response to CALL carries where the call's scan has already ended it (a recorded call that
got no voice). R146 names PLAYING and WAITING only: a free value, of which nothing can be proved (log 21). -/
opaque endedCallState : Byte

end Sys2Proof.Config
end

