-- ==== Sys2Proof/Syntax.lean ====
section
/-! DEFINITION. The commands of the BK-4720: one constructor of Instr for each row of spec/opcode_table.json.
A link request carries its link, its tag and its payload fields with the widths of R178; an event of the part
or of an attached device carries what identifies it. -/

namespace Sys2Proof

/-- The role that a link's port fixes (R168). -/
inductive Role where
  | console
  | prompt
  | monitor
  deriving DecidableEq, Repr

/-- The level of SHOWSTOP_n as the part takes it (R159). -/
inductive LineState where
  | deasserted
  | asserted
  deriving DecidableEq, Repr

/-- A matrix source: S0..S23 are 0..23, L0..L15 are 24..39. -/
abbrev SourceNo := Fin 40
/-- An output O0..O31. -/
abbrev OutputNo := Fin 32
/-- A voice V0..V31. -/
abbrev VoiceNo := Fin 32
/-- A stem S0..S23. -/
abbrev StemNo := Fin 24
/-- A live input L0..L15. -/
abbrev LiveNo := Fin 16
/-- A relay zone number 0..15. -/
abbrev ZoneNo := Fin 16

/-- What a fade moves (R90). -/
inductive FadeTarget where
  | crosspoint (source : SourceNo) (output : OutputNo)
  | trim (output : OutputNo)
  | voice (voice : VoiceNo)
  | duck (zone : ZoneNo)
  | stopMute
  deriving DecidableEq, Repr

/-- The six words A0..A5 of one action (R178). -/
structure ActionWords where
  a0 : Word
  a1 : Word
  a2 : Word
  a3 : Word
  a4 : Word
  a5 : Word
  deriving DecidableEq, Repr

/-- The payload of CALL (R178). -/
structure CallPayload where
  kind : Byte
  input : Byte
  region : Half
  inWord : Word
  outWord : Word
  zones : BitVec 16
  priority : Byte
  page : Half
  depth : Half
  deriving DecidableEq, Repr

/-- The payload of SET LEVELER (R141, R178). -/
structure LevelerPayload where
  target : Half
  up : Half
  down : Half
  leap : Half
  gate : Half
  deriving DecidableEq, Repr

/-- The commands that change the part's state. Requests come first, then the events of the show-memory port,
the show-stop line, RESET_n, the clock reference, the timers, the fade list, the audio frame and the voices. -/
inductive Instr where
  | readResponse (l : Role)
  | badFrame (l : Role) (tx : List Byte)
  | unknownRequest (l : Role) (code tag : Byte)
  | attach (l : Role) (tag revision : Byte)
  | detach (l : Role) (tag : Byte)
  | setPresence (l : Role) (tag : Byte) (period : Half)
  | setEventMask (l : Role) (tag : Byte) (mask : Word)
  | readEvents (l : Role) (tag count : Byte)
  | readStatus (l : Role) (tag : Byte)
  | editHold (l : Role) (tag : Byte)
  | editRelease (l : Role) (tag : Byte)
  | putCue (l : Role) (tag : Byte) (words : List Word)
  | deleteCue (l : Role) (tag : Byte) (cue : CueNum)
  | putScene (l : Role) (tag : Byte) (words : List Word)
  | deleteScene (l : Role) (tag : Byte) (id : Half)
  | readCue (l : Role) (tag : Byte) (cue : CueNum) (direction : Byte)
  | readScene (l : Role) (tag : Byte) (id : Half) (direction : Byte)
  | loadShow (l : Role) (tag : Byte)
  | loadAbort (l : Role) (tag : Byte)
  | setAccessDelay (l : Role) (tag : Byte) (ns : Half)
  | go (l : Role) (tag : Byte) (expected : Option CueNum)
  | standby (l : Role) (tag : Byte)
  | fire (l : Role) (tag : Byte) (cue : CueNum)
  | setPlayhead (l : Role) (tag : Byte) (cue : CueNum)
  | setGoAuthority (l : Role) (tag value : Byte)
  | setStandbyRequired (l : Role) (tag value : Byte)
  | setGuard (l : Role) (tag : Byte) (ms : Half)
  | stopCue (l : Role) (tag : Byte) (cue : CueNum) (fade : Word)
  | stopAll (l : Role) (tag : Byte) (fade : Option Word)
  | readRunning (l : Role) (tag : Byte)
  | play (l : Role) (tag : Byte) (action : ActionWords)
  | stopVoice (l : Role) (tag voice : Byte) (fade : Word)
  | readVoices (l : Role) (tag : Byte)
  | setLevel (l : Role) (tag source output : Byte) (level : Half) (time : Word)
  | setTrim (l : Role) (tag output : Byte) (level : Half) (time : Word)
  | readLevels (l : Role) (tag output : Byte)
  | blank (l : Role) (tag output : Byte)
  | openOutput (l : Role) (tag output : Byte)
  | readMeters (l : Role) (tag : Byte)
  | setReference (l : Role) (tag value : Byte)
  | setFollow (l : Role) (tag output mode main : Byte)
  | setOffset (l : Role) (tag source output : Byte) (offset : Half)
  | setCeiling (l : Role) (tag output : Byte) (ceiling : Half)
  | talkOn (l : Role) (tag input : Byte) (set : BitVec 32) (level : Half)
  | talkOff (l : Role) (tag : Byte)
  | setLeveler (l : Role) (tag : Byte) (settings : LevelerPayload)
  | setDuckTimes (l : Role) (tag : Byte) (attack release : Half)
  | setGate (l : Role) (tag : Byte) (threshold : Half) (seconds : Byte)
  | call (l : Role) (tag : Byte) (payload : CallPayload)
  | callEnd (l : Role) (tag id : Byte)
  | cancelCall (l : Role) (tag id : Byte)
  | readCalls (l : Role) (tag : Byte)
  | showStop (l : Role) (tag : Byte)
  | resume (l : Role) (tag : Byte)
  | setStopTimes (l : Role) (tag : Byte) (stop resume : Half)
  | setAnnounce (l : Role) (tag input : Byte) (level : Half)
  /-- MHREQ is asserted (R7). -/
  | mhreqAsserted
  /-- MHREQ is deasserted (R8). -/
  | mhend
  /-- SM_RDY is seen asserted (R1). -/
  | smRdySeen
  /-- The access delay of the transfer in flight expires (R1). -/
  | taccExpiry
  /-- The arbiter arbitrates on the idle bus (R4). -/
  | arbitrate
  /-- The last word of a voice fetch has arrived; the words are those the show memory delivered (R6). -/
  | voiceFetchComplete (words : List Word)
  /-- The last word of a load read has arrived; the words are those the show memory delivered (R15). -/
  | loadReadComplete (words : List Word)
  /-- A debounced change of SHOWSTOP_n to ASSERTED (R159, R160). -/
  | showstopAsserted
  /-- A debounced change of SHOWSTOP_n to DEASSERTED (R159). -/
  | showstopDeasserted
  /-- RESET_n is asserted (R19, R89, R107, R126, R139, R158, R167). -/
  | resetAsserted
  /-- RESET_n is released with SHOWSTOP_n and MHREQ at the levels given (R19, R167). -/
  | resetReleased (line : LineState) (mhreq : Bool)
  /-- The word-clock reference is lost; `rate` is the rate measured over the last lock, in mHz (R123). -/
  | referenceLost (rate : Nat)
  /-- Qualification has reached 1,000 ms (R123). -/
  | lockAchieved
  /-- A link's presence timer has reached 0 (R172). -/
  | presenceExpiry (l : Role)
  /-- The pre-wait of an instance has reached 0 (R49). -/
  | prewaitEnd (id : Byte)
  /-- The pending follow of an instance expires (R55). -/
  | followExpiry (id : Byte)
  /-- The gate timer of a live call has reached 0 (R155). -/
  | callGateExpiry (id : Byte)
  /-- The talk gate timer has reached 0 (R137). -/
  | talkGateExpiry
  /-- 48 frames have passed; `sample` is SHOWSTOP_n as sampled in this millisecond (R125, R159). -/
  | millisecondTick (sample : LineState)
  /-- The fade of a target takes its last step (R95). -/
  | fadeComplete (target : FadeTarget)
  /-- One frame; `live` are the samples received in the input slots of this TDM frame, and `first` the voices
  that are taken first, in this order, before the others in voice-number order (R56, R79, R113, R121). -/
  | audioFrame (live : Vector (BitVec 24) 16) (first : List VoiceNo)
  /-- The leveler window ends (R143). -/
  | windowEnd
  /-- A STOPPING voice completes its ramp (R85). -/
  | declickRampEnd (v : VoiceNo)
  /-- A RECLAIMING voice completes its ramp (R69). -/
  | reclaimRampEnd (v : VoiceNo)
  /-- An output's blanking ramp reaches 240 frames (R117). -/
  | blankingRampEnd (o : OutputNo)
  /-- A voice reaches its natural end (R81). -/
  | voiceNaturalEnd (v : VoiceNo)
  /-- A STARTING voice enters PLAYING (R73). -/
  | enterPlaying (v : VoiceNo)
  /-- A PLAYING voice enters STARVED (R80). -/
  | enterStarved (v : VoiceNo)
  /-- A STARVED voice returns to PLAYING (R80). -/
  | returnToPlaying (v : VoiceNo)
  /-- The decoder of a voice runs (R76). -/
  | decoderRun (v : VoiceNo)
  /-- The word-clock reference is present and in range again (R123). -/
  | referencePresentAndInRange
  deriving DecidableEq, Repr

end Sys2Proof
end

