-- ==== Sys2Proof/Decode.lean ====
section
/-! DEFINITION. The wire forms of R169, R170 and R178: the bytes of a field, the table of requests and permissions,
the reading of one link transaction into a command (malformed ones by the name badFrame), and the writing of a
request as a transaction. The opcode table gives no row any bits, so no table word spells a command. -/

namespace Sys2Proof

/-- The command that a word of the opcode table spells. Every row of the table has an empty list of fields and no
fixed bits (spec/98_reader.md counts 87 rows without bits), so no word spells one. -/
def decodeTableWord (_nbits _w : Nat) : Option Instr := none

/-! ### Bytes, most significant first (R178) -/

/-- The two bytes of a half word. -/
def bytes16 (x : BitVec 16) : List Byte :=
  [x.extractLsb' 8 8, x.extractLsb' 0 8]

/-- The three bytes of a cue number. -/
def bytes24 (x : BitVec 24) : List Byte :=
  [x.extractLsb' 16 8, x.extractLsb' 8 8, x.extractLsb' 0 8]

/-- The four bytes of a word. -/
def bytes32 (x : BitVec 32) : List Byte :=
  [x.extractLsb' 24 8, x.extractLsb' 16 8, x.extractLsb' 8 8, x.extractLsb' 0 8]

/-- The bytes of a list of words, in order. -/
def bytesOfWords : List Word → List Byte
  | [] => []
  | w :: ws => bytes32 w ++ bytesOfWords ws

/-- Reads one byte. -/
def take8 : List Byte → Option (Byte × List Byte)
  | a :: r => some (a, r)
  | _ => none

/-- Reads a two-byte field. -/
def take16 : List Byte → Option (BitVec 16 × List Byte)
  | a :: b :: r => some (a ++ b, r)
  | _ => none

/-- Reads a three-byte cue number. -/
def take24 : List Byte → Option (BitVec 24 × List Byte)
  | a :: b :: c :: r => some (a ++ b ++ c, r)
  | _ => none

/-- Reads a four-byte field. -/
def take32 : List Byte → Option (BitVec 32 × List Byte)
  | a :: b :: c :: d :: r => some (a ++ b ++ c ++ d, r)
  | _ => none

/-- Reads bytes as whole words; `none` when bytes are left over. -/
def wordsOfBytes : List Byte → Option (List Word)
  | [] => some []
  | a :: b :: c :: d :: r => (wordsOfBytes r).map ((a ++ b ++ c ++ d) :: ·)
  | _ => none

/-- Answers `i` when no byte is left: the payload has exactly the length of its layout (R170). -/
def finish (i : Instr) : List Byte → Option Instr
  | [] => some i
  | _ => none

/-! ### Requests and permissions (10.5) -/

/-- The roles of a row of the permissions table. -/
inductive Grant where
  | all
  | c
  | p
  | m
  | cm
  | cp
  deriving DecidableEq, Repr

/-- Whether a row grants its request to a role. -/
def Grant.permits : Grant → Role → Bool
  | .all, _ => true
  | .c, .console => true
  | .p, .prompt => true
  | .m, .monitor => true
  | .cm, .console => true
  | .cm, .monitor => true
  | .cp, .console => true
  | .cp, .prompt => true
  | _, _ => false

/-- The permissions table of 10.5: each request code with the roles that may make it. -/
def permissions : List (Nat × Grant) :=
  [(0x01, .all), (0x02, .all), (0x03, .all), (0x04, .all), (0x05, .all), (0x06, .all),
   (0x10, .cm), (0x11, .cm), (0x12, .cm), (0x13, .cm), (0x14, .cm), (0x15, .cm),
   (0x16, .all), (0x17, .all), (0x18, .cm), (0x19, .cm), (0x1A, .c)] ++
  [(0x20, .cp), (0x21, .p), (0x22, .c), (0x23, .cp), (0x24, .p), (0x25, .p), (0x26, .p),
   (0x27, .cp), (0x28, .cp), (0x29, .all), (0x30, .c), (0x31, .c), (0x32, .all)] ++
  [(0x40, .cm), (0x41, .cm), (0x42, .all), (0x48, .cm), (0x49, .cm), (0x4A, .all), (0x4B, .c),
   (0x50, .cm), (0x51, .cm), (0x52, .cm), (0x53, .m), (0x54, .m)] ++
  [(0x60, .c), (0x61, .c), (0x62, .cp), (0x63, .p), (0x64, .p), (0x65, .p), (0x66, .all),
   (0x70, .p), (0x71, .p), (0x72, .p), (0x73, .p)]

/-- The row of the permissions table for a code, if it has one (R170). -/
def grantOf (code : Byte) : Option Grant :=
  (permissions.find? fun row => row.1 == code.toNat).map (·.2)

/-- Whether the permissions table grants a code to a role (R170). -/
def permitted (code : Byte) (r : Role) : Bool :=
  match grantOf code with
  | some g => g.permits r
  | none => false

/-! ### Reading a transaction (R169, R170, R178) -/

/-- The length in words that a record states in bits 31-16 of its word 0 (R178). -/
def statedLength (words : List Word) : Nat :=
  match words with
  | [] => 0
  | w :: _ => (w.extractLsb' 16 16).toNat

/-- Whether a record's words are a payload that R178 allows: its length is the one its word 0 states, and its
bytes are at most 1,024 (R170). -/
def recordFramed (words : List Word) : Bool :=
  words != [] && statedLength words == words.length && decide (4 * words.length ≤ Config.maxPayload)

/-- The command of a PUT request, when its bytes are one record as framed. -/
def finishRecord (mk : List Word → Instr) (p : List Byte) : Option Instr :=
  match wordsOfBytes p with
  | some ws => if recordFramed ws then some (mk ws) else none
  | none => none

/-- The command that a request's payload spells, by the layouts of R178; `none` when the payload's length is not
one that the code's layout allows. -/
def decodePayload (l : Role) (tag : Byte) (code : Nat) (p : List Byte) : Option Instr :=
  match code with
  | 0x01 => do let (r, p) ← take8 p; finish (.attach l tag r) p
  | 0x02 => finish (.detach l tag) p
  | 0x03 => do let (t, p) ← take16 p; finish (.setPresence l tag t) p
  | 0x04 => do let (m, p) ← take32 p; finish (.setEventMask l tag m) p
  | 0x05 => do let (c, p) ← take8 p; finish (.readEvents l tag c) p
  | 0x06 => finish (.readStatus l tag) p
  | 0x10 => finish (.editHold l tag) p
  | 0x11 => finish (.editRelease l tag) p
  | 0x12 => finishRecord (.putCue l tag) p
  | 0x13 => do let (c, p) ← take24 p; finish (.deleteCue l tag c) p
  | 0x14 => finishRecord (.putScene l tag) p
  | 0x15 => do let (i, p) ← take16 p; finish (.deleteScene l tag i) p
  | 0x16 => do let (c, p) ← take24 p; let (d, p) ← take8 p; finish (.readCue l tag c d) p
  | 0x17 => do let (i, p) ← take16 p; let (d, p) ← take8 p; finish (.readScene l tag i d) p
  | 0x18 => finish (.loadShow l tag) p
  | 0x19 => finish (.loadAbort l tag) p
  | 0x1A => do let (n, p) ← take16 p; finish (.setAccessDelay l tag n) p
  | 0x20 => if p = [] then some (.go l tag none)
            else do let (c, p) ← take24 p; finish (.go l tag (some c)) p
  | 0x21 => finish (.standby l tag) p
  | 0x22 => do let (c, p) ← take24 p; finish (.fire l tag c) p
  | 0x23 => do let (c, p) ← take24 p; finish (.setPlayhead l tag c) p
  | 0x24 => do let (v, p) ← take8 p; finish (.setGoAuthority l tag v) p
  | 0x25 => do let (v, p) ← take8 p; finish (.setStandbyRequired l tag v) p
  | 0x26 => do let (t, p) ← take16 p; finish (.setGuard l tag t) p
  | 0x27 => do let (c, p) ← take24 p; let (t, p) ← take32 p; finish (.stopCue l tag c t) p
  | 0x28 => if p = [] then some (.stopAll l tag none)
            else do let (t, p) ← take32 p; finish (.stopAll l tag (some t)) p
  | 0x29 => finish (.readRunning l tag) p
  | 0x30 => do
      let (a0, p) ← take32 p; let (a1, p) ← take32 p; let (a2, p) ← take32 p
      let (a3, p) ← take32 p; let (a4, p) ← take32 p; let (a5, p) ← take32 p
      finish (.play l tag ⟨a0, a1, a2, a3, a4, a5⟩) p
  | 0x31 => do let (v, p) ← take8 p; let (t, p) ← take32 p; finish (.stopVoice l tag v t) p
  | 0x32 => finish (.readVoices l tag) p
  | 0x40 => do
      let (i, p) ← take8 p; let (o, p) ← take8 p; let (lv, p) ← take16 p; let (t, p) ← take32 p
      finish (.setLevel l tag i o lv t) p
  | 0x41 => do
      let (o, p) ← take8 p; let (lv, p) ← take16 p; let (t, p) ← take32 p
      finish (.setTrim l tag o lv t) p
  | 0x42 => do let (o, p) ← take8 p; finish (.readLevels l tag o) p
  | 0x48 => do let (o, p) ← take8 p; finish (.blank l tag o) p
  | 0x49 => do let (o, p) ← take8 p; finish (.openOutput l tag o) p
  | 0x4A => finish (.readMeters l tag) p
  | 0x4B => do let (v, p) ← take8 p; finish (.setReference l tag v) p
  | 0x50 => do
      let (o, p) ← take8 p; let (k, p) ← take8 p; let (m, p) ← take8 p
      finish (.setFollow l tag o k m) p
  | 0x51 => do
      let (i, p) ← take8 p; let (o, p) ← take8 p; let (f, p) ← take16 p
      finish (.setOffset l tag i o f) p
  | 0x52 => do let (o, p) ← take8 p; let (c, p) ← take16 p; finish (.setCeiling l tag o c) p
  | 0x53 => do
      let (i, p) ← take8 p; let (set, p) ← take32 p; let (lv, p) ← take16 p
      finish (.talkOn l tag i set lv) p
  | 0x54 => finish (.talkOff l tag) p
  | 0x60 => do
      let (t, p) ← take16 p; let (u, p) ← take16 p; let (d, p) ← take16 p
      let (lp, p) ← take16 p; let (g, p) ← take16 p
      finish (.setLeveler l tag ⟨t, u, d, lp, g⟩) p
  | 0x61 => do let (a, p) ← take16 p; let (r, p) ← take16 p; finish (.setDuckTimes l tag a r) p
  | 0x62 => do let (t, p) ← take16 p; let (s, p) ← take8 p; finish (.setGate l tag t s) p
  | 0x63 => do
      let (k, p) ← take8 p; let (i, p) ← take8 p; let (r, p) ← take16 p
      let (a, p) ← take32 p; let (b, p) ← take32 p; let (z, p) ← take16 p
      let (pr, p) ← take8 p; let (pg, p) ← take16 p; let (d, p) ← take16 p
      finish (.call l tag ⟨k, i, r, a, b, z, pr, pg, d⟩) p
  | 0x64 => do let (i, p) ← take8 p; finish (.callEnd l tag i) p
  | 0x65 => do let (i, p) ← take8 p; finish (.cancelCall l tag i) p
  | 0x66 => finish (.readCalls l tag) p
  | 0x70 => finish (.showStop l tag) p
  | 0x71 => finish (.resume l tag) p
  | 0x72 => do let (a, p) ← take16 p; let (r, p) ← take16 p; finish (.setStopTimes l tag a r) p
  | 0x73 => do let (i, p) ← take8 p; let (lv, p) ← take16 p; finish (.setAnnounce l tag i lv) p
  | _ => none

/-- The command that a request frame spells (R170): malformed frames first, then codes that the permissions
table does not hold, then the request. `tx` is the whole transaction. -/
def decodeFrame (l : Role) (tx : List Byte) : List Byte → Instr
  | code :: tag :: hi :: lo :: payload =>
    let len := (hi ++ lo).toNat
    if Config.maxPayload < len ∨ payload.length ≠ len then .badFrame l tx
    else if grantOf code = none then .unknownRequest l code tag
    else match decodePayload l tag code.toNat payload with
      | some i => i
      | none => .badFrame l tx
  | _ => .badFrame l tx

/-- The command of one transaction on a link (R169): 0x10 is followed by a request frame, 0x20 reads the response,
and any other command byte is a malformed frame. R169 and R170 say nothing of a transaction with no byte at all: that it
too is a malformed frame, answered BAD_FRAME with code and tag 0 over the response in the slot, is a DESIGN CHOICE
(log 27). -/
def decodeTransaction (l : Role) (tx : List Byte) : Instr :=
  match tx with
  | [] => .badFrame l []
  | c :: rest =>
    if c = 0x10#8 then decodeFrame l tx rest
    else if c = 0x20#8 then .readResponse l
    else .badFrame l tx

/-- The bytes of the request frame of a transaction: those after the command byte (R169). -/
def frameBytes (tx : List Byte) : List Byte := tx.drop 1

/-! ### Writing a transaction -/

/-- A WRITE REQUEST transaction: command byte, code, tag, payload length and payload (R169, R178). -/
def writeRequest (code tag : Byte) (payload : List Byte) : List Byte :=
  0x10#8 :: code :: tag :: (bytes16 (.ofNat 16 payload.length) ++ payload)

/-- The bytes of the six words of an action. -/
def ActionWords.bytes (a : ActionWords) : List Byte :=
  bytes32 a.a0 ++ bytes32 a.a1 ++ bytes32 a.a2 ++ bytes32 a.a3 ++ bytes32 a.a4 ++ bytes32 a.a5

/-- The transaction that makes a link command, by the layouts of R178. A command that is no well-formed request
has none here: a malformed or unknown frame is its own bytes, and an event of the part comes on no link. -/
def encodeTransaction : Instr → Option (List Byte)
  | .readResponse _ => some [0x20#8]
  | .attach _ tag r => some (writeRequest 0x01 tag [r])
  | .detach _ tag => some (writeRequest 0x02 tag [])
  | .setPresence _ tag t => some (writeRequest 0x03 tag (bytes16 t))
  | .setEventMask _ tag m => some (writeRequest 0x04 tag (bytes32 m))
  | .readEvents _ tag c => some (writeRequest 0x05 tag [c])
  | .readStatus _ tag => some (writeRequest 0x06 tag [])
  | .editHold _ tag => some (writeRequest 0x10 tag [])
  | .editRelease _ tag => some (writeRequest 0x11 tag [])
  | .putCue _ tag ws => some (writeRequest 0x12 tag (bytesOfWords ws))
  | .deleteCue _ tag c => some (writeRequest 0x13 tag (bytes24 c))
  | .putScene _ tag ws => some (writeRequest 0x14 tag (bytesOfWords ws))
  | .deleteScene _ tag i => some (writeRequest 0x15 tag (bytes16 i))
  | .readCue _ tag c d => some (writeRequest 0x16 tag (bytes24 c ++ [d]))
  | .readScene _ tag i d => some (writeRequest 0x17 tag (bytes16 i ++ [d]))
  | .loadShow _ tag => some (writeRequest 0x18 tag [])
  | .loadAbort _ tag => some (writeRequest 0x19 tag [])
  | .setAccessDelay _ tag n => some (writeRequest 0x1A tag (bytes16 n))
  | .go _ tag none => some (writeRequest 0x20 tag [])
  | .go _ tag (some c) => some (writeRequest 0x20 tag (bytes24 c))
  | .standby _ tag => some (writeRequest 0x21 tag [])
  | .fire _ tag c => some (writeRequest 0x22 tag (bytes24 c))
  | .setPlayhead _ tag c => some (writeRequest 0x23 tag (bytes24 c))
  | .setGoAuthority _ tag v => some (writeRequest 0x24 tag [v])
  | .setStandbyRequired _ tag v => some (writeRequest 0x25 tag [v])
  | .setGuard _ tag t => some (writeRequest 0x26 tag (bytes16 t))
  | .stopCue _ tag c t => some (writeRequest 0x27 tag (bytes24 c ++ bytes32 t))
  | .stopAll _ tag none => some (writeRequest 0x28 tag [])
  | .stopAll _ tag (some t) => some (writeRequest 0x28 tag (bytes32 t))
  | .readRunning _ tag => some (writeRequest 0x29 tag [])
  | .play _ tag a => some (writeRequest 0x30 tag a.bytes)
  | .stopVoice _ tag v t => some (writeRequest 0x31 tag (v :: bytes32 t))
  | .readVoices _ tag => some (writeRequest 0x32 tag [])
  | .setLevel _ tag i o lv t => some (writeRequest 0x40 tag (i :: o :: (bytes16 lv ++ bytes32 t)))
  | .setTrim _ tag o lv t => some (writeRequest 0x41 tag (o :: (bytes16 lv ++ bytes32 t)))
  | .readLevels _ tag o => some (writeRequest 0x42 tag [o])
  | .blank _ tag o => some (writeRequest 0x48 tag [o])
  | .openOutput _ tag o => some (writeRequest 0x49 tag [o])
  | .readMeters _ tag => some (writeRequest 0x4A tag [])
  | .setReference _ tag v => some (writeRequest 0x4B tag [v])
  | .setFollow _ tag o k m => some (writeRequest 0x50 tag [o, k, m])
  | .setOffset _ tag i o f => some (writeRequest 0x51 tag (i :: o :: bytes16 f))
  | .setCeiling _ tag o c => some (writeRequest 0x52 tag (o :: bytes16 c))
  | .talkOn _ tag i set lv => some (writeRequest 0x53 tag (i :: (bytes32 set ++ bytes16 lv)))
  | .talkOff _ tag => some (writeRequest 0x54 tag [])
  | .setLeveler _ tag p =>
      some (writeRequest 0x60 tag
        (bytes16 p.target ++ bytes16 p.up ++ bytes16 p.down ++ bytes16 p.leap ++ bytes16 p.gate))
  | .setDuckTimes _ tag a r => some (writeRequest 0x61 tag (bytes16 a ++ bytes16 r))
  | .setGate _ tag t s => some (writeRequest 0x62 tag (bytes16 t ++ [s]))
  | .call _ tag p =>
      some (writeRequest 0x63 tag
        (p.kind :: p.input :: (bytes16 p.region ++ bytes32 p.inWord ++ bytes32 p.outWord ++
          bytes16 p.zones ++ [p.priority] ++ bytes16 p.page ++ bytes16 p.depth)))
  | .callEnd _ tag i => some (writeRequest 0x64 tag [i])
  | .cancelCall _ tag i => some (writeRequest 0x65 tag [i])
  | .readCalls _ tag => some (writeRequest 0x66 tag [])
  | .showStop _ tag => some (writeRequest 0x70 tag [])
  | .resume _ tag => some (writeRequest 0x71 tag [])
  | .setStopTimes _ tag a r => some (writeRequest 0x72 tag (bytes16 a ++ bytes16 r))
  | .setAnnounce _ tag i lv => some (writeRequest 0x73 tag (i :: bytes16 lv))
  | .badFrame _ _ | .unknownRequest _ _ _ => none
  | .mhreqAsserted | .mhend | .smRdySeen | .taccExpiry | .arbitrate => none
  | .voiceFetchComplete _ | .loadReadComplete _ | .showstopAsserted | .showstopDeasserted => none
  | .resetAsserted | .resetReleased _ _ | .referenceLost _ | .lockAchieved => none
  | .presenceExpiry _ | .prewaitEnd _ | .followExpiry _ | .callGateExpiry _ | .talkGateExpiry => none
  | .millisecondTick _ | .fadeComplete _ | .audioFrame _ _ | .windowEnd | .declickRampEnd _ => none
  | .reclaimRampEnd _ | .blankingRampEnd _ | .voiceNaturalEnd _ | .enterPlaying _ => none
  | .enterStarved _ | .returnToPlaying _ | .decoderRun _ | .referencePresentAndInRange => none

/-- The link on which a command comes, for the commands that come on a link. -/
def Instr.sender : Instr → Option Role
  | .readResponse l | .badFrame l _ | .unknownRequest l _ _ => some l
  | .attach l _ _ | .detach l _ | .setPresence l _ _ | .setEventMask l _ _ => some l
  | .readEvents l _ _ | .readStatus l _ | .editHold l _ | .editRelease l _ => some l
  | .putCue l _ _ | .deleteCue l _ _ | .putScene l _ _ | .deleteScene l _ _ => some l
  | .readCue l _ _ _ | .readScene l _ _ _ | .loadShow l _ | .loadAbort l _ => some l
  | .setAccessDelay l _ _ | .go l _ _ | .standby l _ | .fire l _ _ | .setPlayhead l _ _ => some l
  | .setGoAuthority l _ _ | .setStandbyRequired l _ _ | .setGuard l _ _ => some l
  | .stopCue l _ _ _ | .stopAll l _ _ | .readRunning l _ | .play l _ _ => some l
  | .stopVoice l _ _ _ | .readVoices l _ | .setLevel l _ _ _ _ _ | .setTrim l _ _ _ _ => some l
  | .readLevels l _ _ | .blank l _ _ | .openOutput l _ _ | .readMeters l _ => some l
  | .setReference l _ _ | .setFollow l _ _ _ _ | .setOffset l _ _ _ _ | .setCeiling l _ _ _ => some l
  | .talkOn l _ _ _ _ | .talkOff l _ | .setLeveler l _ _ | .setDuckTimes l _ _ _ => some l
  | .setGate l _ _ _ | .call l _ _ | .callEnd l _ _ | .cancelCall l _ _ | .readCalls l _ => some l
  | .showStop l _ | .resume l _ | .setStopTimes l _ _ _ | .setAnnounce l _ _ _ => some l
  | .mhreqAsserted | .mhend | .smRdySeen | .taccExpiry | .arbitrate => none
  | .voiceFetchComplete _ | .loadReadComplete _ | .showstopAsserted | .showstopDeasserted => none
  | .resetAsserted | .resetReleased _ _ | .referenceLost _ | .lockAchieved => none
  | .presenceExpiry _ | .prewaitEnd _ | .followExpiry _ | .callGateExpiry _ | .talkGateExpiry => none
  | .millisecondTick _ | .fadeComplete _ | .audioFrame _ _ | .windowEnd | .declickRampEnd _ => none
  | .reclaimRampEnd _ | .blankingRampEnd _ | .voiceNaturalEnd _ | .enterPlaying _ => none
  | .enterStarved _ | .returnToPlaying _ | .decoderRun _ | .referencePresentAndInRange => none

end Sys2Proof
end

