-- ==== Sys2Proof/Machine/State.lean ====
section
/-! DEFINITION. Everything the manual gives the BK-4720 to hold, block by block (00_scope.md, "Device overview"),
as plain data, and the state right after reset. Levels, times, counts and positions are numbers; what software sees
as bytes or words is bits. What another part of the state already says is computed, not stored: the request set
(R3), the hold state and MHACK (R7), the attention lines (R175), the owned-voice counts (R57) and a call's voice
(R145). -/

namespace Sys2Proof.Machine

/-- A level in tenths of a decibel, or OFF, which is distinct from every number (00_scope.md, "Levels"). -/
inductive Level where
  | off
  | db (tenths : Int)
  deriving DecidableEq, Repr

/-! ### Show Memory Interface (chapter 1) -/

/-- The phases of a transfer (R1). -/
inductive TransferPhase where
  | access
  | transfer
  deriving DecidableEq, Repr

/-- Whose transfer is in flight; a load read may carry the discard mark of LOAD ABORT (R18). -/
inductive TransferUser where
  | voice (v : VoiceNo)
  | load (discard : Bool)
  deriving DecidableEq, Repr

/-- The transfer in flight: its block is fixed when it starts (R1, R5). `tacc` is the delay it started with,
in ns; `ready` and `taccExpired` are the two events that end ACCESS. -/
structure Transfer where
  phase : TransferPhase
  user : TransferUser
  start : Nat
  len : Nat
  tacc : Nat
  ready : Bool
  taccExpired : Bool
  deriving DecidableEq, Repr

/-- The show-memory port (1.1). HELD is the bus lent to the external loader, with MHACK asserted. -/
inductive Port where
  | idle
  | fetch (t : Transfer)
  | held
  deriving DecidableEq, Repr

/-- The states of the external loader's hold (1.3). -/
inductive HoldState where
  | released
  | pending
  | granted
  deriving DecidableEq, Repr

/-- An entry of the region table (R11). -/
structure Region where
  base : Nat
  len : Nat
  deriving DecidableEq, Repr

/-- The class of an output (R109). -/
inductive OutClass where
  | unused
  | main
  | foldback
  | relay
  deriving DecidableEq, Repr

/-- The fields of the image header that a load uses (R10). -/
structure Header where
  classes : Vector OutClass 32
  regionCount : Nat
  sceneCount : Nat
  entryCount : Nat
  cueCount : Nat
  actionCount : Nat
  regionOffset : Nat
  sceneOffset : Nat
  sceneLen : Nat
  cueOffset : Nat
  cueLen : Nat
  deriving DecidableEq, Repr

/-- The phases of a load (1.5). -/
inductive LoadPhase where
  | header
  | regions
  | scenes
  | cues
  deriving DecidableEq, Repr

/-- Why a load failed (R16). -/
inductive LoadFailure where
  | badFormat
  | overCapacity
  | tooManyRelay
  | pastEnd
  | badRecord
  | duplicate
  | badReference
  | countMismatch
  | aborted
  deriving DecidableEq, Repr

/-- A load that is READING (1.5): the loading link, the phase, the next unread word and the words remaining in it;
the words taken and not yet judged; whether the records of the block have ended with words left over (R12);
the header once judged; and the regions read, which become the region table at success (R11). -/
structure Load where
  link : Role
  phase : LoadPhase
  next : Nat
  remaining : Nat
  words : List Word
  ended : Bool
  header : Option Header
  regions : List Region
  deriving DecidableEq, Repr

/-- The Show Memory Interface. `load` is none while the load state is IDLE. -/
structure Smi where
  port : Port
  mhreq : Bool
  lastServed : VoiceNo
  load : Option Load
  regions : List Region
  tacc : Nat
  deriving DecidableEq, Repr

/-! ### Cue Store (chapter 2) -/

/-- What fires a cue (R21). -/
inductive Trigger where
  | go
  | follow
  | marker (source : CueNum) (id : Byte)
  deriving DecidableEq, Repr

/-- The fields of a PLAY action (R23). -/
structure PlaySpec where
  region : Nat
  inWord : Nat
  out : Option Nat
  loop : Option Nat
  loops : Nat
  stem : StemNo
  priority : Nat
  level : Level
  fadeIn : Nat
  group : Nat
  stopAtEnd : Bool
  deriving DecidableEq, Repr

/-- The target of a STOP action (R23). -/
inductive StopTarget where
  | group (g : Nat)
  | cue (n : CueNum)
  | all
  deriving DecidableEq, Repr

/-- The mode of a foldback output (R127). -/
inductive FoldMode where
  | independent
  | follow (m : OutputNo)
  deriving DecidableEq, Repr

/-- The fields of a CALL action (R23). -/
structure CallSpec where
  region : Nat
  inWord : Nat
  out : Option Nat
  zones : BitVec 16
  priority : Nat
  page : Int
  depth : Nat
  deriving DecidableEq, Repr

/-- One step of a cue (R23). -/
inductive Action where
  | play (p : PlaySpec)
  | stop (target : StopTarget) (fade : Nat)
  | voiceFade (group : Nat) (level : Level) (time : Nat) (stopAtEnd : Bool)
  | level (source : SourceNo) (output : OutputNo) (level : Level) (time : Nat)
  | scene (id : Nat) (time : Nat)
  | trim (output : OutputNo) (level : Level) (time : Nat)
  | foldbackMode (output : OutputNo) (mode : FoldMode)
  | call (c : CallSpec)
  deriving DecidableEq, Repr

/-- A cue record (R21). -/
structure Cue where
  num : CueNum
  label : List Byte
  trigger : Trigger
  preWait : Nat
  followDelay : Nat
  actions : List Action
  deriving DecidableEq, Repr

/-- One entry of a scene (R25). -/
structure SceneEntry where
  source : SourceNo
  output : OutputNo
  level : Level
  deriving DecidableEq, Repr

/-- A scene record (R25). -/
structure Scene where
  id : Nat
  entries : List SceneEntry
  deriving DecidableEq, Repr

/-- The store state (R20). -/
inductive StoreState where
  | noShow
  | loading
  | ready
  deriving DecidableEq, Repr

/-- The Cue Store. Cues stand in store order and scenes in identifier order; `holder` is the edit hold's holder,
none while the hold is FREE (R26). -/
structure CueStore where
  state : StoreState
  cues : List Cue
  scenes : List Scene
  holder : Option Role
  deriving DecidableEq, Repr

/-! ### Cue Sequencer (chapter 3) -/

/-- The cause of a fire, with the link's role where a request made it (R46). -/
inductive Cause where
  | go (role : Role)
  | fire (role : Role)
  | follow
  | marker
  deriving DecidableEq, Repr

/-- The phases of an instance. PREWAIT and RUNNING are the states of R46; `dispatching` is RUNNING while the
instance's own actions are handed over, and stands in no state between two commands. -/
inductive InstancePhase where
  | prewait
  | dispatching
  | running
  deriving DecidableEq, Repr

/-- A pending follow: the captured number and the delay remaining (R53). -/
structure Follow where
  cue : CueNum
  delay : Nat
  deriving DecidableEq, Repr

/-- An instance of the running cue table (R46). Its owned-voice count is the number of voices it owns (R57). -/
structure CueInstance where
  id : Nat
  cue : CueNum
  phase : InstancePhase
  preWait : Nat
  follow : Option Follow
  cause : Cause
  fireTime : BitVec 32
  stopped : Bool
  deriving DecidableEq, Repr

/-- The GO authority (R40). -/
inductive GoAuthority where
  | promptOnly
  | consoleOnly
  | shared
  deriving DecidableEq, Repr

/-- The guard stamp: when the last accepted GO was, and the cue it fired (R42). -/
structure GuardStamp where
  time : BitVec 32
  cue : CueNum
  deriving DecidableEq, Repr

/-- The Cue Sequencer. A playhead of none is END (R38); instances stand in fire order. -/
structure Sequencer where
  playhead : Option CueNum
  standby : Bool
  instances : List CueInstance
  nextId : Nat
  stamp : Option GuardStamp
  authority : GoAuthority
  standbyRequired : Bool
  guardMs : Nat
  deriving DecidableEq, Repr

/-! ### Stream Engine (chapter 4) -/

/-- Whom a voice plays for; an orphan has no owner (R64). -/
inductive Owner where
  | orphan
  | inst (id : Nat) (cue : CueNum)
  | call (id : Nat)
  deriving DecidableEq, Repr

/-- Where a voice's samples go (R64). -/
inductive Dest where
  | stem (k : StemNo)
  | call
  deriving DecidableEq, Repr

/-- The state of a voice with the fields that it has only there (R64): the pending fade-in of STARTING, the ramp
position of STOPPING with stop mode RAMP, and in RECLAIMING the ramp position, the outgoing destination and level
and the start-cancelled flag. -/
inductive VoiceState where
  | free
  | starting (fadeIn : Option Nat)
  | playing
  | starved
  | stoppingFade
  | stoppingRamp (pos : Nat)
  | reclaiming (pos : Nat) (dest : Dest) (level : Level) (cancelled : Bool)
  deriving DecidableEq, Repr

/-- The fetch state of a voice (R74). -/
inductive FetchState where
  | none
  | waiting
  | inFlight
  deriving DecidableEq, Repr

/-- An entry of a voice's FIFO (R64). -/
inductive FifoEntry where
  | frame (sample : Int)
  | marker (id : Byte)
  deriving DecidableEq, Repr

/-- A voice record (R64). `buf` is the fetch buffer and `bufPos` the word position of its first word; `loops` is
255 for an endless loop. -/
structure Voice where
  state : VoiceState
  owner : Owner
  priority : Nat
  dest : Dest
  group : Nat
  stopAtEnd : Bool
  region : Nat
  inWord : Nat
  startLevel : Level
  fadeIn : Nat
  next : Nat
  out : Nat
  loop : Option Nat
  loops : Nat
  level : Level
  startTime : BitVec 32
  fetch : FetchState
  buf : List Word
  bufPos : Nat
  silence : Nat
  fifo : List FifoEntry
  faultReported : Bool
  underruns : Nat
  deriving DecidableEq, Repr

/-- The record of a FREE voice: no owner, no optional field, nothing buffered (R81, R89). -/
def Voice.freeRecord : Voice :=
  { state := .free, owner := .orphan, priority := 0, dest := .stem 0, group := 0, stopAtEnd := false, region := 0,
    inWord := 0, startLevel := .off, fadeIn := 0, next := 0, out := 0, loop := none, loops := 0, level := .off,
    startTime := 0, fetch := .none, buf := [], bufPos := 0, silence := 0, fifo := [], faultReported := false,
    underruns := 0 }

/-- The Stream Engine: the voice pool and the stem saturation counts (R87). -/
structure Stream where
  voices : Vector Voice 32
  stemSat : Vector Nat 24
  deriving DecidableEq, Repr

/-! ### Fade Engine (chapter 5) -/

/-- What runs when a fade completes (R91). -/
inductive Completion where
  | nothing
  | stopVoice
  | duckReleased
  deriving DecidableEq, Repr

/-- The block or link that posted a fade (R91). -/
inductive Poster where
  | link (r : Role)
  | sequencer
  | stream
  | relay
  | showStop
  deriving DecidableEq, Repr

/-- An entry of the fade list (R91). `due` is the model's: the millisecond of the entry's last step has come, and
FADE_COMPLETE takes that step (R95). -/
structure FadeEntry where
  target : FadeTarget
  start : Level
  goal : Level
  n : Nat
  k : Nat
  due : Bool
  action : Completion
  poster : Poster
  deriving DecidableEq, Repr

/-! ### Mix Matrix (chapter 6) -/

/-- The blanking state of an output (R116). -/
inductive Blanking where
  | opened
  | closing (pos : Nat)
  | blanked
  | opening (pos : Nat)
  deriving DecidableEq, Repr

/-- The meters of an output (R119). -/
structure Meter where
  peak : Nat
  clips : Nat
  reported : Bool
  deriving DecidableEq, Repr

/-- The reference state (R122). -/
inductive RefState where
  | internal
  | acquiring
  | locked
  | holdover
  deriving DecidableEq, Repr

/-- What paces the frame in progress (R122). -/
inductive ClockSource where
  | oscillator
  | reference
  | heldRate
  deriving DecidableEq, Repr

/-- The clock reference (R122, R123): whether WCLK_REF is present and in range, the milliseconds of qualification,
the rate that HOLDOVER holds in mHz, what paces the frame in progress, and whether that frame is being aligned
to a reference edge. -/
structure ClockRef where
  state : RefState
  present : Bool
  qualified : Nat
  holdRate : Option Nat
  pacer : ClockSource
  aligning : Bool
  deriving DecidableEq, Repr

/-- The Mix Matrix. `xpts` holds each output's column of crosspoints; `rx` are the live input samples received in
the last TDM frame, `tx` the samples in the output slots now, and `txNext` those computed for the next TDM frame
(R121). -/
structure Mix where
  classes : Vector OutClass 32
  xpts : Vector (Vector Level 40) 32
  trims : Vector Level 32
  blanking : Vector Blanking 32
  meters : Vector Meter 32
  clock : ClockRef
  rx : Vector Int 16
  txNext : Vector Int 32
  tx : Vector Int 32
  deriving DecidableEq, Repr

/-! ### Foldback Controller (chapter 7) -/

/-- A gate timer: the milliseconds left, and whether the latest frame reloaded it (R137, R155). -/
structure GateTimer where
  left : Nat
  reloaded : Bool
  deriving DecidableEq, Repr

/-- The talk record while ON (R135). -/
structure Talk where
  input : LiveNo
  set : BitVec 32
  level : Int
  gate : GateTimer
  deriving DecidableEq, Repr

/-- Why talk ended (R136). -/
inductive TalkCause where
  | talkOff
  | gate
  | linkLost
  | showStop
  | load
  deriving DecidableEq, Repr

/-- The last end of talk (R135). -/
structure TalkEnd where
  cause : TalkCause
  time : BitVec 32
  deriving DecidableEq, Repr

/-- The Foldback Controller (R127). `offsets` holds each output's 40 monitor offsets; talk is none while OFF. -/
structure Foldback where
  modes : Vector FoldMode 32
  offsets : Vector (Vector Int 40) 32
  ceilings : Vector Int 32
  talk : Option Talk
  lastEnd : Option TalkEnd
  deriving DecidableEq, Repr

/-! ### Relay Controller (chapter 8) -/

/-- The duck phase of a zone (R140). -/
inductive DuckPhase where
  | clear
  | ducked
  | releasing
  deriving DecidableEq, Repr

/-- A zone record (R140); its zone number is its position in the list of zones. -/
structure Zone where
  output : OutputNo
  leveler : Int
  duck : Int
  phase : DuckPhase
  peak : Nat
  carried : Option Nat
  deriving DecidableEq, Repr

/-- The source of a call (R145). -/
inductive CallSource where
  | live (input : LiveNo)
  | recorded (region : Nat) (inWord : Nat) (out : Option Nat)
  | announce
  deriving DecidableEq, Repr

/-- Where a call came from (R145). -/
inductive Origin where
  | prompt
  | cue (inst : Nat) (cue : CueNum) (pos : Nat)
  | showStop
  deriving DecidableEq, Repr

/-- A call record (R145). Its state is the list it stands in, its voice the one that it owns; `arrival` rises in
the order of acceptance. -/
structure Call where
  id : Nat
  priority : Nat
  source : CallSource
  zones : BitVec 16
  page : Int
  depth : Nat
  origin : Origin
  arrival : Nat
  gate : Option GateTimer
  deriving DecidableEq, Repr

/-- Why a call ended (R152). -/
inductive CallEnd where
  | complete
  | voiceStopped
  | voiceLost
  | voiceShortage
  | ended
  | cancelled
  | linkLost
  | gate
  | preempted
  | resumed
  deriving DecidableEq, Repr

/-- A tail: a recorded call's voice ramping after it left the call (R151). -/
structure Tail where
  voice : VoiceNo
  zones : BitVec 16
  page : Int
  deriving DecidableEq, Repr

/-- The leveler settings (R141). -/
structure Leveler where
  target : Int
  up : Int
  down : Int
  leap : Int
  gate : Int
  deriving DecidableEq, Repr

/-- The Relay Controller. `waiting` is the queue in its order and `playing` stands in the order of the starts;
`arrivals` numbers the next accepted call; `gateSeconds` is tGATE; `window` counts frames of the leveler window. -/
structure Relay where
  zones : List Zone
  waiting : List Call
  playing : List Call
  tails : List Tail
  nextId : Nat
  arrivals : Nat
  leveler : Leveler
  attack : Nat
  release : Nat
  gateThreshold : Int
  gateSeconds : Nat
  window : Nat
  deriving DecidableEq, Repr

/-! ### Show Stop Controller (chapter 9) -/

/-- The show state (R159). -/
inductive ShowState where
  | normal
  | stopped
  | resuming
  deriving DecidableEq, Repr

/-- The Show Stop Controller (R159). `sampleNew` and `sampleOld` are the last two samples of SHOWSTOP_n; an announce
input of none is NONE. -/
structure ShowStop where
  state : ShowState
  mute : Level
  line : LineState
  sampleNew : LineState
  sampleOld : LineState
  tStop : Nat
  tResume : Nat
  announceIn : Option LiveNo
  announceLevel : Int
  deriving DecidableEq, Repr

/-! ### Link Controller (chapter 10) -/

/-- The kinds of event (R176). -/
inductive EventKind where
  | standby
  | cueFired
  | cueRunning
  | cueEnded
  | cueRetired
  | playheadMoved
  | followDropped
  | cueTableFull
  | marker
  | actionFault
  | voiceShortage
  | underrun
  | formatFault
  | fadeOverflow
  | clip
  | callStarted
  | callEnded
  | callDropped
  | showStopped
  | showResumed
  | lineChanged
  | loadDone
  | loadFailed
  | holdChanged
  | memoryHold
  | linkLost
  | refLocked
  | refLost
  deriving DecidableEq, Repr

/-- An event record with the fields of its 26 bytes (R174, R178). A field that its kind does not name is 0. -/
structure Event where
  kind : EventKind
  endFlag : Bool := false
  clock : BitVec 32 := 0
  cue : CueNum := 0
  inst : Byte := 0
  voice : Byte := 0
  source : Byte := 0
  output : Byte := 0
  zone : Byte := 0
  call : Byte := 0
  reason : Byte := 0
  aux1 : Half := 0
  aux2 : Half := 0
  aux3 : Word := 0
  zones : BitVec 16 := 0
  deriving DecidableEq, Repr

/-- The results of a request (R178). -/
inductive Result where
  | accepted
  | badFrame
  | unknownRequest
  | notAttached
  | badRevision
  | notPermitted
  | notHolder
  | held
  | noShow
  | loading
  | showStopped
  | doubleGo
  | stale
  | notStandingBy
  | cueTableFull
  | badField
  | badReference
  | storeFull
  | inUse
  | noSuchCue
  | noSuchScene
  | busy
  | memoryHeld
  | noLoad
  | voiceShortage
  | notFoldback
  | noSuchZone
  | queueFull
  | noSuchCall
  | notLive
  | lineActive
  | nonePending
  /-- The refusal of R39 and R41 at END, which R178 gives no code (log 20). -/
  | endOfList
  deriving DecidableEq, Repr

/-- A response (R178): the echoed code and tag, the result and the payload. -/
structure Response where
  code : Byte
  tag : Byte
  result : Result
  payload : List Byte
  deriving DecidableEq, Repr

/-- A link record (R168). `slot` is none while EMPTY; `timer` runs only while ATTACHED; `sdo` are the bytes that
the last READ RESPONSE shifted out on the port (R169). -/
structure Link where
  attached : Bool
  tPres : Nat
  timer : Nat
  queue : List Event
  lost : Bool
  mask : BitVec 28
  slot : Option Response
  sdo : List Byte
  deriving DecidableEq, Repr

/-- The three links, by the role their port fixes (R168). -/
structure Links where
  console : Link
  prompt : Link
  monitor : Link
  deriving DecidableEq, Repr

/-! ### Time, reset and the whole part -/

/-- The part's time: the show clock, the frames counted in the present millisecond (R125), and whether RESET_n is
asserted. -/
structure Timing where
  showClock : BitVec 32
  frames : Nat
  inReset : Bool
  deriving DecidableEq, Repr

/-- The BK-4720. `pending` is the queue of commands that are waiting, first in, first out; it is the model's. -/
structure State where
  smi : Smi
  store : CueStore
  seq : Sequencer
  stream : Stream
  fades : List FadeEntry
  mix : Mix
  foldback : Foldback
  relay : Relay
  showStop : ShowStop
  links : Links
  timing : Timing
  pending : List Instr
  deriving DecidableEq, Repr

/-- Why the machine would stop with a fault: never. No command of the manual stops the part, so there is no
constructor, and no one raises a fault. -/
inductive Fault where
  deriving DecidableEq, Repr

/-- Why a command would have no meaning. -/
inductive Refusal where
  /-- Raised by no arm of exec: every row of the opcode table has its meaning. Raising it would be safe. -/
  | notModelled (mnemonic : String)
  deriving DecidableEq, Repr

/-! ### Reset -/

/-- A link after reset (R168). -/
def Link.reset : Link :=
  { attached := false, tPres := 3000, timer := 0, queue := [], lost := false, mask := 0, slot := none, sdo := [] }

/-- The clock reference after reset (R126). That WCLK_REF has not been found present is a DESIGN CHOICE (log 3). -/
def ClockRef.reset : ClockRef :=
  { state := .internal, present := false, qualified := 0, holdRate := none, pacer := .oscillator, aligning := false }

/-- The machine right after the release of RESET_n with SHOWSTOP_n and MHREQ deasserted: the values of R19, R37,
R63, R89, R107, R126, R139, R158, R167, R168 and R125. -/
def State.reset : State :=
  { smi := { port := .idle, mhreq := false, lastServed := 31, load := none, regions := [],
             tacc := Config.resetAccessDelay },
    store := { state := .noShow, cues := [], scenes := [], holder := none },
    seq := { playhead := none, standby := false, instances := [], nextId := 1, stamp := none, authority := .shared,
             standbyRequired := false, guardMs := 300 },
    stream := { voices := Vector.replicate 32 Voice.freeRecord, stemSat := Vector.replicate 24 0 },
    fades := [],
    mix := { classes := Vector.replicate 32 .unused, xpts := Vector.replicate 32 (Vector.replicate 40 .off),
             trims := Vector.replicate 32 (.db 0), blanking := Vector.replicate 32 .opened,
             meters := Vector.replicate 32 { peak := 0, clips := 0, reported := false },
             clock := ClockRef.reset, rx := Vector.replicate 16 0, txNext := Vector.replicate 32 0,
             tx := Vector.replicate 32 0 },
    foldback := { modes := Vector.replicate 32 .independent, offsets := Vector.replicate 32 (Vector.replicate 40 0),
                  ceilings := Vector.replicate 32 0, talk := none, lastEnd := none },
    relay := { zones := [], waiting := [], playing := [], tails := [], nextId := 1, arrivals := 0,
               leveler := { target := -180, up := 1, down := 5, leap := 30, gate := -500 },
               attack := 100, release := 1000, gateThreshold := -450, gateSeconds := 8, window := 0 },
    showStop := { state := .normal, mute := .db 0, line := .deasserted, sampleNew := .deasserted,
                  sampleOld := .deasserted, tStop := 500, tResume := 2000, announceIn := none, announceLevel := 0 },
    links := { console := Link.reset, prompt := Link.reset, monitor := Link.reset },
    timing := { showClock := 0, frames := 0, inReset := false },
    pending := [] }

end Sys2Proof.Machine
end

