-- ==== Sys2Proof/Machine/Gain.lean ====
section
/-! DEFINITION. Gain and magnitude of levels and the sample arithmetic (R102 to R106): the tables that the part
holds, the domain of conversion, product rounding, sat24 and the truncating scalings of the ramps and fades. -/

namespace Sys2Proof.Machine

/-- The table G of R102, levels -960 to -681, twenty levels a row. -/
def gainRows0 : List (List Nat) :=
  [[0, 0, 0, 0, 0, 0, 0, 0, 0, 0, 0, 0, 0, 0, 0, 0, 0, 0, 0, 0],
   [0, 0, 0, 0, 0, 0, 0, 0, 0, 0, 0, 0, 0, 0, 0, 0, 0, 0, 0, 0],
   [0, 0, 0, 0, 0, 0, 0, 0, 0, 0, 0, 0, 0, 0, 0, 0, 0, 1, 1, 1],
   [1, 1, 1, 1, 1, 1, 1, 1, 1, 1, 1, 1, 1, 1, 1, 1, 1, 1, 1, 1],
   [1, 1, 1, 1, 1, 1, 1, 1, 1, 1, 1, 1, 1, 1, 1, 1, 1, 1, 1, 1],
   [1, 1, 1, 1, 1, 1, 1, 1, 1, 1, 1, 1, 1, 1, 1, 1, 1, 1, 1, 1],
   [1, 1, 1, 1, 1, 1, 1, 1, 1, 1, 1, 1, 1, 1, 1, 1, 1, 1, 1, 1],
   [1, 1, 1, 1, 1, 1, 1, 1, 1, 1, 1, 1, 1, 2, 2, 2, 2, 2, 2, 2],
   [2, 2, 2, 2, 2, 2, 2, 2, 2, 2, 2, 2, 2, 2, 2, 2, 2, 2, 2, 2],
   [2, 2, 2, 2, 2, 2, 2, 2, 2, 2, 2, 2, 2, 2, 2, 2, 2, 3, 3, 3],
   [3, 3, 3, 3, 3, 3, 3, 3, 3, 3, 3, 3, 3, 3, 3, 3, 3, 3, 3, 3],
   [3, 3, 3, 3, 3, 3, 4, 4, 4, 4, 4, 4, 4, 4, 4, 4, 4, 4, 4, 4],
   [4, 4, 4, 4, 4, 4, 4, 4, 5, 5, 5, 5, 5, 5, 5, 5, 5, 5, 5, 5],
   [5, 5, 5, 5, 5, 5, 6, 6, 6, 6, 6, 6, 6, 6, 6, 6, 6, 6, 6, 6]]

/-- The table G of R102, levels -680 to -401, twenty levels a row. -/
def gainRows1 : List (List Nat) :=
  [[7, 7, 7, 7, 7, 7, 7, 7, 7, 7, 7, 7, 7, 8, 8, 8, 8, 8, 8, 8],
   [8, 8, 8, 9, 9, 9, 9, 9, 9, 9, 9, 9, 9, 10, 10, 10, 10, 10, 10, 10],
   [10, 10, 11, 11, 11, 11, 11, 11, 11, 11, 12, 12, 12, 12, 12, 12, 12, 13, 13, 13],
   [13, 13, 13, 13, 14, 14, 14, 14, 14, 14, 15, 15, 15, 15, 15, 15, 16, 16, 16, 16],
   [16, 17, 17, 17, 17, 17, 18, 18, 18, 18, 18, 19, 19, 19, 19, 19, 20, 20, 20, 20],
   [21, 21, 21, 21, 22, 22, 22, 22, 23, 23, 23, 23, 24, 24, 24, 25, 25, 25, 25, 26],
   [26, 26, 27, 27, 27, 28, 28, 28, 28, 29, 29, 29, 30, 30, 31, 31, 31, 32, 32, 32],
   [33, 33, 33, 34, 34, 35, 35, 35, 36, 36, 37, 37, 38, 38, 38, 39, 39, 40, 40, 41],
   [41, 42, 42, 43, 43, 44, 44, 45, 45, 46, 46, 47, 47, 48, 48, 49, 49, 50, 51, 51],
   [52, 52, 53, 54, 54, 55, 56, 56, 57, 57, 58, 59, 59, 60, 61, 62, 62, 63, 64, 64],
   [65, 66, 67, 68, 68, 69, 70, 71, 72, 72, 73, 74, 75, 76, 77, 78, 78, 79, 80, 81],
   [82, 83, 84, 85, 86, 87, 88, 89, 90, 91, 92, 93, 94, 95, 96, 98, 99, 100, 101, 102],
   [103, 105, 106, 107, 108, 110, 111, 112, 113, 115, 116, 117, 119, 120, 121, 123, 124, 126, 127, 129],
   [130, 132, 133, 135, 136, 138, 139, 141, 143, 144, 146, 148, 149, 151, 153, 155, 156, 158, 160, 162]]

/-- The table G of R102, levels -400 to -121, twenty levels a row. -/
def gainRows2 : List (List Nat) :=
  [[164, 166, 168, 170, 172, 174, 176, 178, 180, 182, 184, 186, 188, 190, 192, 195, 197, 199, 202, 204],
   [206, 209, 211, 214, 216, 218, 221, 224, 226, 229, 231, 234, 237, 240, 242, 245, 248, 251, 254, 257],
   [260, 263, 266, 269, 272, 275, 278, 281, 285, 288, 291, 295, 298, 302, 305, 309, 312, 316, 319, 323],
   [327, 331, 335, 338, 342, 346, 350, 354, 358, 363, 367, 371, 375, 380, 384, 389, 393, 398, 402, 407],
   [412, 416, 421, 426, 431, 436, 441, 446, 451, 456, 462, 467, 473, 478, 484, 489, 495, 501, 506, 512],
   [518, 524, 530, 536, 543, 549, 555, 562, 568, 575, 581, 588, 595, 602, 609, 616, 623, 630, 637, 645],
   [652, 660, 667, 675, 683, 691, 699, 707, 715, 723, 732, 740, 749, 758, 766, 775, 784, 793, 802, 812],
   [821, 831, 840, 850, 860, 870, 880, 890, 900, 911, 921, 932, 943, 954, 965, 976, 987, 999, 1010, 1022],
   [1034, 1046, 1058, 1070, 1082, 1095, 1108, 1121, 1133, 1147, 1160, 1173, 1187, 1201, 1215, 1229, 1243, 1257, 1272,
    1287],
   [1301, 1316, 1332, 1347, 1363, 1379, 1395, 1411, 1427, 1444, 1460, 1477, 1494, 1512, 1529, 1547, 1565, 1583, 1601,
    1620],
   [1638, 1657, 1677, 1696, 1716, 1735, 1756, 1776, 1796, 1817, 1838, 1860, 1881, 1903, 1925, 1947, 1970, 1993, 2016,
    2039],
   [2063, 2087, 2111, 2135, 2160, 2185, 2210, 2236, 2262, 2288, 2314, 2341, 2368, 2396, 2423, 2451, 2480, 2509, 2538,
    2567],
   [2597, 2627, 2657, 2688, 2719, 2751, 2782, 2815, 2847, 2880, 2914, 2947, 2981, 3016, 3051, 3086, 3122, 3158, 3195,
    3232],
   [3269, 3307, 3345, 3384, 3423, 3463, 3503, 3543, 3584, 3626, 3668, 3710, 3753, 3797, 3841, 3885, 3930, 3976, 4022,
    4068]]

/-- The table G of R102, levels -120 to 120, twenty levels a row. -/
def gainRows3 : List (List Nat) :=
  [[4115, 4163, 4211, 4260, 4309, 4359, 4410, 4461, 4513, 4565, 4618, 4671, 4725, 4780, 4835, 4891, 4948, 5005, 5063,
    5122],
   [5181, 5241, 5302, 5363, 5425, 5488, 5552, 5616, 5681, 5747, 5813, 5881, 5949, 6018, 6087, 6158, 6229, 6301, 6374,
    6448],
   [6523, 6598, 6675, 6752, 6830, 6909, 6989, 7070, 7152, 7235, 7318, 7403, 7489, 7576, 7663, 7752, 7842, 7933, 8025,
    8117],
   [8211, 8307, 8403, 8500, 8598, 8698, 8799, 8901, 9004, 9108, 9213, 9320, 9428, 9537, 9648, 9759, 9872, 9987, 10102,
    10219],
   [10338, 10457, 10578, 10701, 10825, 10950, 11077, 11205, 11335, 11466, 11599, 11733, 11869, 12007, 12146, 12286,
    12429, 12572, 12718, 12865],
   [13014, 13165, 13317, 13472, 13628, 13785, 13945, 14107, 14270, 14435, 14602, 14771, 14942, 15115, 15290, 15467,
    15647, 15828, 16011, 16196],
   [16384, 16574, 16766, 16960, 17156, 17355, 17556, 17759, 17965, 18173, 18383, 18596, 18811, 19029, 19250, 19472,
    19698, 19926, 20157, 20390],
   [20626, 20865, 21107, 21351, 21598, 21848, 22101, 22357, 22616, 22878, 23143, 23411, 23682, 23956, 24234, 24514,
    24798, 25085, 25376, 25670],
   [25967, 26268, 26572, 26879, 27191, 27506, 27824, 28146, 28472, 28802, 29135, 29473, 29814, 30159, 30508, 30862,
    31219, 31581, 31946, 32316],
   [32690, 33069, 33452, 33839, 34231, 34627, 35028, 35434, 35844, 36259, 36679, 37104, 37534, 37968, 38408, 38853,
    39302, 39758, 40218, 40684],
   [41155, 41631, 42113, 42601, 43094, 43593, 44098, 44609, 45125, 45648, 46176, 46711, 47252, 47799, 48353, 48913,
    49479, 50052, 50631, 51218],
   [51811, 52411, 53018, 53631, 54253, 54881, 55516, 56159, 56809, 57467, 58133, 58806, 59487, 60176, 60872, 61577,
    62290, 63012, 63741, 64479],
   [65226]]

/-- The table G of R102: row r holds the levels −960 + 20r upward. -/
def gainRows : List (List Nat) := gainRows0 ++ gainRows1 ++ gainRows2 ++ gainRows3

/-- The table M of R103, levels -960 to -681, twenty levels a row. -/
def magnitudeRows0 : List (List Nat) :=
  [[133, 134, 136, 138, 139, 141, 142, 144, 146, 147, 149, 151, 153, 154, 156, 158, 160, 162, 164, 165],
   [167, 169, 171, 173, 175, 177, 179, 181, 184, 186, 188, 190, 192, 194, 197, 199, 201, 204, 206, 208],
   [211, 213, 216, 218, 221, 223, 226, 228, 231, 234, 236, 239, 242, 245, 248, 250, 253, 256, 259, 262],
   [265, 268, 271, 275, 278, 281, 284, 288, 291, 294, 298, 301, 305, 308, 312, 315, 319, 323, 326, 330],
   [334, 338, 342, 346, 350, 354, 358, 362, 366, 370, 375, 379, 383, 388, 392, 397, 402, 406, 411, 416],
   [420, 425, 430, 435, 440, 445, 450, 456, 461, 466, 472, 477, 483, 488, 494, 500, 505, 511, 517, 523],
   [529, 535, 542, 548, 554, 561, 567, 574, 580, 587, 594, 601, 608, 615, 622, 629, 636, 644, 651, 659],
   [666, 674, 682, 690, 698, 706, 714, 722, 731, 739, 748, 756, 765, 774, 783, 792, 801, 810, 820, 829],
   [839, 849, 858, 868, 878, 889, 899, 909, 920, 930, 941, 952, 963, 974, 986, 997, 1009, 1020, 1032, 1044],
   [1056, 1068, 1081, 1093, 1106, 1119, 1132, 1145, 1158, 1171, 1185, 1199, 1213, 1227, 1241, 1255, 1270, 1284, 1299,
    1314],
   [1330, 1345, 1360, 1376, 1392, 1408, 1425, 1441, 1458, 1475, 1492, 1509, 1526, 1544, 1562, 1580, 1598, 1617, 1636,
    1655],
   [1674, 1693, 1713, 1733, 1753, 1773, 1793, 1814, 1835, 1856, 1878, 1900, 1922, 1944, 1966, 1989, 2012, 2036, 2059,
    2083],
   [2107, 2132, 2156, 2181, 2206, 2232, 2258, 2284, 2310, 2337, 2364, 2392, 2419, 2447, 2476, 2504, 2533, 2563, 2592,
    2622],
   [2653, 2683, 2715, 2746, 2778, 2810, 2842, 2875, 2909, 2942, 2976, 3011, 3046, 3081, 3117, 3153, 3189, 3226, 3264,
    3301]]

/-- The table M of R103, levels -680 to -401, twenty levels a row. -/
def magnitudeRows1 : List (List Nat) :=
  [[3340, 3378, 3417, 3457, 3497, 3537, 3578, 3620, 3662, 3704, 3747, 3790, 3834, 3879, 3924, 3969, 4015, 4062, 4109,
    4156],
   [4204, 4253, 4302, 4352, 4402, 4453, 4505, 4557, 4610, 4663, 4717, 4772, 4827, 4883, 4940, 4997, 5055, 5113, 5172,
    5232],
   [5293, 5354, 5416, 5479, 5542, 5606, 5671, 5737, 5803, 5871, 5939, 6007, 6077, 6147, 6219, 6291, 6363, 6437, 6512,
    6587],
   [6663, 6740, 6819, 6897, 6977, 7058, 7140, 7223, 7306, 7391, 7476, 7563, 7651, 7739, 7829, 7919, 8011, 8104, 8198,
    8293],
   [8389, 8486, 8584, 8683, 8784, 8886, 8989, 9093, 9198, 9304, 9412, 9521, 9631, 9743, 9856, 9970, 10085, 10202,
    10320, 10440],
   [10561, 10683, 10807, 10932, 11058, 11186, 11316, 11447, 11580, 11714, 11849, 11986, 12125, 12266, 12408, 12551,
    12697, 12844, 12992, 13143],
   [13295, 13449, 13605, 13762, 13922, 14083, 14246, 14411, 14578, 14747, 14917, 15090, 15265, 15442, 15620, 15801,
    15984, 16169, 16356, 16546],
   [16737, 16931, 17127, 17326, 17526, 17729, 17935, 18142, 18352, 18565, 18780, 18997, 19217, 19440, 19665, 19893,
    20123, 20356, 20592, 20830],
   [21071, 21315, 21562, 21812, 22064, 22320, 22578, 22840, 23104, 23372, 23642, 23916, 24193, 24473, 24757, 25043,
    25333, 25627, 25923, 26223],
   [26527, 26834, 27145, 27459, 27777, 28099, 28424, 28753, 29086, 29423, 29764, 30109, 30457, 30810, 31167, 31528,
    31893, 32262, 32635, 33013],
   [33396, 33782, 34174, 34569, 34970, 35374, 35784, 36198, 36618, 37042, 37471, 37904, 38343, 38787, 39236, 39691,
    40150, 40615, 41086, 41561],
   [42043, 42529, 43022, 43520, 44024, 44534, 45049, 45571, 46099, 46633, 47173, 47719, 48271, 48830, 49396, 49968,
    50546, 51132, 51724, 52323],
   [52929, 53541, 54161, 54789, 55423, 56065, 56714, 57371, 58035, 58707, 59387, 60074, 60770, 61474, 62186, 62906,
    63634, 64371, 65116, 65870],
   [66633, 67405, 68185, 68975, 69773, 70581, 71399, 72225, 73062, 73908, 74764, 75629, 76505, 77391, 78287, 79194,
    80111, 81038, 81977, 82926]]

/-- The table M of R103, levels -400 to -121, twenty levels a row. -/
def magnitudeRows2 : List (List Nat) :=
  [[83886, 84857, 85840, 86834, 87839, 88857, 89886, 90926, 91979, 93044, 94122, 95212, 96314, 97429, 98558, 99699,
    100853, 102021, 103202, 104397],
   [105606, 106829, 108066, 109318, 110583, 111864, 113159, 114470, 115795, 117136, 118492, 119864, 121252, 122656,
    124077, 125513, 126967, 128437, 129924, 131429],
   [132950, 134490, 136047, 137623, 139216, 140828, 142459, 144109, 145777, 147465, 149173, 150900, 152648, 154415,
    156203, 158012, 159842, 161692, 163565, 165459],
   [167375, 169313, 171273, 173257, 175263, 177292, 179345, 181422, 183523, 185648, 187798, 189972, 192172, 194397,
    196648, 198925, 201229, 203559, 205916, 208300],
   [210712, 213152, 215620, 218117, 220643, 223198, 225782, 228397, 231041, 233717, 236423, 239161, 241930, 244731,
    247565, 250432, 253332, 256265, 259233, 262235],
   [265271, 268343, 271450, 274593, 277773, 280989, 284243, 287534, 290864, 294232, 297639, 301086, 304572, 308099,
    311666, 315275, 318926, 322619, 326355, 330134],
   [333956, 337823, 341735, 345692, 349695, 353745, 357841, 361984, 366176, 370416, 374705, 379044, 383433, 387873,
    392365, 396908, 401504, 406153, 410856, 415614],
   [420426, 425295, 430219, 435201, 440240, 445338, 450495, 455711, 460988, 466326, 471726, 477188, 482714, 488304,
    493958, 499678, 505464, 511317, 517237, 523227],
   [529285, 535414, 541614, 547886, 554230, 560647, 567139, 573707, 580350, 587070, 593868, 600745, 607701, 614738,
    621856, 629057, 636341, 643709, 651163, 658703],
   [666331, 674046, 681852, 689747, 697734, 705813, 713986, 722254, 730617, 739077, 747635, 756293, 765050, 773909,
    782870, 791936, 801106, 810382, 819766, 829258],
   [838861, 848574, 858400, 868340, 878395, 888566, 898855, 909264, 919792, 930443, 941217, 952116, 963141, 974294,
    985575, 996988, 1008532, 1020211, 1032024, 1043974],
   [1056063, 1068292, 1080662, 1093175, 1105834, 1118639, 1131592, 1144695, 1157950, 1171359, 1184922, 1198643,
    1212523, 1226563, 1240766, 1255133, 1269667, 1284369, 1299241, 1314286],
   [1329505, 1344900, 1360473, 1376226, 1392162, 1408283, 1424590, 1441086, 1457773, 1474653, 1491729, 1509002,
    1526476, 1544151, 1562032, 1580119, 1598416, 1616925, 1635648, 1654588],
   [1673747, 1693128, 1712734, 1732566, 1752628, 1772923, 1793452, 1814220, 1835227, 1856478, 1877975, 1899721,
    1921719, 1943971, 1966481, 1989252, 2012287, 2035588, 2059159, 2083003]]

/-- The table M of R103, levels -120 to 0, twenty levels a row. -/
def magnitudeRows3 : List (List Nat) :=
  [[2107123, 2131522, 2156204, 2181172, 2206428, 2231978, 2257823, 2283967, 2310414, 2337168, 2364231, 2391607,
    2419301, 2447315, 2475653, 2504320, 2533319, 2562653, 2592327, 2622345],
   [2652710, 2683427, 2714500, 2745932, 2777729, 2809893, 2842430, 2875344, 2908639, 2942320, 2976390, 3010855,
    3045719, 3080987, 3116663, 3152752, 3189259, 3226189, 3263547, 3301337],
   [3339565, 3378235, 3417353, 3456924, 3496953, 3537446, 3578408, 3619844, 3661760, 3704161, 3747053, 3790442,
    3834333, 3878733, 3923646, 3969080, 4015040, 4061532, 4108562, 4156137],
   [4204263, 4252946, 4302193, 4352010, 4402404, 4453381, 4504949, 4557114, 4609882, 4663262, 4717260, 4771884,
    4827139, 4883035, 4939578, 4996776, 5054636, 5113165, 5172373, 5232266],
   [5292853, 5354142, 5416140, 5478856, 5542298, 5606474, 5671394, 5737066, 5803498, 5870699, 5938679, 6007446,
    6077009, 6147377, 6218560, 6290568, 6363409, 6437094, 6511632, 6587033],
   [6663307, 6740465, 6818516, 6897470, 6977339, 7058133, 7139863, 7222538, 7306171, 7390773, 7476354, 7562926,
    7650501, 7739089, 7828704, 7919356, 8011057, 8103821, 8197659, 8292583],
   [8388607]]

/-- The table M of R103: row r holds the levels −960 + 20r upward. -/
def magnitudeRows : List (List Nat) := magnitudeRows0 ++ magnitudeRows1 ++ magnitudeRows2 ++ magnitudeRows3

/-- An entry of a table of levels; 0 outside the table. -/
def tableAt (rows : List (List Nat)) (i : Nat) : Nat :=
  (rows.getD (i / 20) []).getD (i % 20) 0

/-- G of R102, for levels −960 to +120. -/
def gainOf (l : Int) : Nat := tableAt gainRows (l + 960).toNat

/-- M of R103, for levels −960 to 0. -/
def magnitudeOf (l : Int) : Nat := tableAt magnitudeRows (l + 960).toNat

/-- G of a level in the conversion domain; G(OFF) is 0 (R102). -/
def Level.gain : Level → Nat
  | .off => 0
  | .db l => gainOf l

/-- The number a level is worked as in a fade: OFF as −960 (R94). -/
def Level.num : Level → Int
  | .off => -960
  | .db l => l

/-- A sum of levels: OFF when a term is OFF (R104). -/
def Level.add : Level → Level → Level
  | .db a, .db b => .db (a + b)
  | _, _ => .off

/-- A sum brought into the conversion domain: above +120 it becomes +120, at or below −960 it becomes OFF (R104). -/
def Level.toDomain : Level → Level
  | .off => .off
  | .db l => if l ≤ -960 then .off else if 120 < l then .db 120 else .db l

/-- Product rounding: floor((s × g + 8,192) / 16,384) (R105). -/
def product (s : Int) (g : Nat) : Int := (s * g + 8192) / 16384

/-- A sample limited to 24 bits (R106). -/
def sat24 (s : Int) : Int :=
  if s < -8388608 then -8388608 else if 8388607 < s then 8388607 else s

/-- A sample at `num`/240, truncated toward zero (R85, R117). -/
def scale240 (s : Int) (num : Nat) : Int := (s * num).tdiv 240

/-- The level that a fade writes at step `k` of `n` (R94): the goal itself at the last step, before it the start
plus the truncated part of the way. -/
def fadeLevel (start goal : Level) (k n : Nat) : Level :=
  if k < n then .db (start.num + ((goal.num - start.num) * k).tdiv n) else goal

end Sys2Proof.Machine
end

