-- ==== Sys2Proof/Machine/Operands.lean ====
section
/-! DEFINITION. The operand forms of R178: levels, times and numbers as a payload carries them, the clampings of
R90 and of the live controls, the codes of values, and the writing of fields of a response. -/

namespace Sys2Proof.Machine

/-! ### Reading fields -/

/-- A level field: two's complement tenths of a decibel, −32,768 for OFF (R178). -/
def levelOfBits (b : Half) : Level :=
  if b = 0x8000#16 then .off else .db b.toInt

/-- A level as its field (R178). -/
def Level.bits : Level → Half
  | .off => 0x8000#16
  | .db l => .ofInt 16 l

/-- A number clamped into a range (R90). -/
def clampInt (lo hi x : Int) : Int := if x < lo then lo else if hi < x then hi else x

/-- A count or time clamped into a range. -/
def clampNat (lo hi x : Nat) : Nat := if x < lo then lo else if hi < x then hi else x

/-- A level of a live control clamped into a range that allows OFF (R90). -/
def clampLevel (lo hi : Int) : Level → Level
  | .off => .off
  | .db l => .db (clampInt lo hi l)

/-- A level of a live control clamped into a range without OFF: OFF becomes the lowest value (R90). -/
def clampNumeric (lo hi : Int) : Level → Int
  | .off => lo
  | .db l => clampInt lo hi l

/-- A level within a range that allows OFF (R23, R25). -/
def Level.within (lo hi : Int) : Level → Bool
  | .off => true
  | .db l => decide (lo ≤ l ∧ l ≤ hi)

/-- A level within a range without OFF. -/
def Level.withinNumeric (lo hi : Int) : Level → Bool
  | .off => false
  | .db l => decide (lo ≤ l ∧ l ≤ hi)

/-- A fade time clamped to 0..600,000 ms (R59, R99). -/
def clampTime (t : Word) : Nat := clampNat 0 Config.maxTime t.toNat

/-- An index below `n`, if the number is one. -/
def index? (n x : Nat) : Option (Fin n) :=
  if h : x < n then some ⟨x, h⟩ else none

/-- The major number of a cue number. -/
def major (c : CueNum) : Nat := (c.extractLsb' 8 16).toNat

/-- The point of a cue number. -/
def point (c : CueNum) : Nat := (c.extractLsb' 0 8).toNat

/-- A cue number in range: major 1..9999, point 0..9 (R21). -/
def validCueNum (c : CueNum) : Bool :=
  decide (1 ≤ major c ∧ major c ≤ 9999 ∧ point c ≤ 9)

/-- The indices of a set given as bits, ascending. -/
def members {n : Nat} (set : BitVec n) : List (Fin n) :=
  (List.finRange n).filter fun i => set.getLsbD i.val

/-! ### Writing fields -/

/-- A one-byte field. -/
def u8 (n : Nat) : List Byte := [.ofNat 8 n]
/-- A two-byte field. -/
def u16 (n : Nat) : List Byte := bytes16 (.ofNat 16 n)
/-- A four-byte field. -/
def u32 (n : Nat) : List Byte := bytes32 (.ofNat 32 n)
/-- A level field. -/
def lv (l : Level) : List Byte := bytes16 l.bits
/-- A two-byte number that may be negative. -/
def i16 (x : Int) : List Byte := bytes16 (.ofInt 16 x)
/-- A flag as one byte. -/
def flag (b : Bool) : List Byte := [if b then 1 else 0]
/-- A cue number field in which major 0 stands for END or for none (R178). -/
def cueField : Option CueNum → List Byte
  | some c => bytes24 c
  | none => [0, 0, 0]

/-! ### Value codes (R178) -/

/-- The code of a role; 0 stands for NONE. -/
def roleCode : Role → Nat
  | .console => 1
  | .prompt => 2
  | .monitor => 3

/-- The code of the edit hold's holder. -/
def holderCode : Option Role → Nat
  | none => 0
  | some r => roleCode r

/-- The code of a result; that of END_OF_LIST is the free value of Config (log 20). -/
def Result.code : Result → Nat
  | .accepted => 0
  | .badFrame => 1
  | .unknownRequest => 2
  | .notAttached => 3
  | .badRevision => 4
  | .notPermitted => 5
  | .notHolder => 6
  | .held => 7
  | .noShow => 8
  | .loading => 9
  | .showStopped => 10
  | .doubleGo => 11
  | .stale => 12
  | .notStandingBy => 13
  | .cueTableFull => 14
  | .badField => 15
  | .badReference => 16
  | .storeFull => 17
  | .inUse => 18
  | .noSuchCue => 19
  | .noSuchScene => 20
  | .busy => 21
  | .memoryHeld => 22
  | .noLoad => 23
  | .voiceShortage => 24
  | .notFoldback => 25
  | .noSuchZone => 26
  | .queueFull => 27
  | .noSuchCall => 28
  | .notLive => 29
  | .lineActive => 30
  | .nonePending => 31
  | .endOfList => Config.endOfListCode.toNat

/-- The code of an event kind (R176). -/
def EventKind.code : EventKind → Nat
  | .standby => 1
  | .cueFired => 2
  | .cueRunning => 3
  | .cueEnded => 4
  | .cueRetired => 5
  | .playheadMoved => 6
  | .followDropped => 7
  | .cueTableFull => 8
  | .marker => 9
  | .actionFault => 10
  | .voiceShortage => 11
  | .underrun => 12
  | .formatFault => 13
  | .fadeOverflow => 14
  | .clip => 15
  | .callStarted => 16
  | .callEnded => 17
  | .callDropped => 18
  | .showStopped => 19
  | .showResumed => 20
  | .lineChanged => 21
  | .loadDone => 22
  | .loadFailed => 23
  | .holdChanged => 24
  | .memoryHold => 25
  | .linkLost => 26
  | .refLocked => 27
  | .refLost => 28

/-- The code of the store state. -/
def StoreState.code : StoreState → Nat
  | .noShow => 0
  | .loading => 1
  | .ready => 2

/-- The code of a load phase. -/
def LoadPhase.code : LoadPhase → Nat
  | .header => 0
  | .regions => 1
  | .scenes => 2
  | .cues => 3

/-- The code of a load failure's reason. -/
def LoadFailure.code : LoadFailure → Nat
  | .badFormat => 1
  | .overCapacity => 2
  | .tooManyRelay => 3
  | .pastEnd => 4
  | .badRecord => 5
  | .duplicate => 6
  | .badReference => 7
  | .countMismatch => 8
  | .aborted => 9

/-- The code of the hold state. -/
def HoldState.code : HoldState → Nat
  | .released => 0
  | .pending => 1
  | .granted => 2

/-- The code of the port state. -/
def Port.code : Port → Nat
  | .idle => 0
  | .fetch _ => 1
  | .held => 2

/-- The code of the GO authority. -/
def GoAuthority.code : GoAuthority → Nat
  | .promptOnly => 0
  | .consoleOnly => 1
  | .shared => 2

/-- The GO authority that a value names (R40). -/
def authorityOf (v : Byte) : Option GoAuthority :=
  match v.toNat with
  | 0 => some .promptOnly
  | 1 => some .consoleOnly
  | 2 => some .shared
  | _ => none

/-- The code of an instance's state; `dispatching` is RUNNING. -/
def InstancePhase.code : InstancePhase → Nat
  | .prewait => 0
  | .dispatching => 1
  | .running => 1

/-- The code of a fire's cause. -/
def Cause.code : Cause → Nat
  | .go _ => 0
  | .fire _ => 1
  | .follow => 2
  | .marker => 3

/-- The code of the role that a cause names, 0 where it names none (R46). -/
def Cause.roleByte : Cause → Nat
  | .go r => roleCode r
  | .fire r => roleCode r
  | .follow => 0
  | .marker => 0

/-- The code of a voice's state. -/
def VoiceState.code : VoiceState → Nat
  | .free => 0
  | .starting _ => 1
  | .playing => 2
  | .starved => 3
  | .stoppingFade => 4
  | .stoppingRamp _ => 4
  | .reclaiming _ _ _ _ => 5

/-- The code of a voice's stop mode. -/
def VoiceState.stopModeCode : VoiceState → Nat
  | .stoppingFade => 1
  | .stoppingRamp _ => 2
  | _ => 0

/-- The code of a fetch state. -/
def FetchState.code : FetchState → Nat
  | .none => 0
  | .waiting => 1
  | .inFlight => 2

/-- The code of a destination. -/
def Dest.code : Dest → Nat
  | .stem k => k.val
  | .call => 24

/-- The code of a poster. -/
def Poster.code : Poster → Nat
  | .link r => roleCode r
  | .sequencer => 4
  | .stream => 5
  | .relay => 6
  | .showStop => 7

/-- The code of a fade target's kind. -/
def targetKind : FadeTarget → Nat
  | .crosspoint _ _ => 0
  | .trim _ => 1
  | .voice _ => 2
  | .duck _ => 3
  | .stopMute => 4

/-- The code of an output class. -/
def OutClass.code : OutClass → Nat
  | .unused => 0
  | .main => 1
  | .foldback => 2
  | .relay => 3

/-- The output class that a code names (R178). -/
def classOf (n : Nat) : Option OutClass :=
  match n with
  | 0 => some .unused
  | 1 => some .main
  | 2 => some .foldback
  | 3 => some .relay
  | _ => none

/-- The code of a blanking state. -/
def Blanking.code : Blanking → Nat
  | .opened => 0
  | .closing _ => 1
  | .blanked => 2
  | .opening _ => 3

/-- The ramp position of a blanking state, 0 where it has none. -/
def Blanking.pos : Blanking → Nat
  | .closing c => c
  | .opening p => p
  | _ => 0

/-- The code of the reference state. -/
def RefState.code : RefState → Nat
  | .internal => 0
  | .acquiring => 1
  | .locked => 2
  | .holdover => 3

/-- The code of a cause of talk's end. -/
def TalkCause.code : TalkCause → Nat
  | .talkOff => 1
  | .gate => 2
  | .linkLost => 3
  | .showStop => 4
  | .load => 5

/-- The code of a duck phase. -/
def DuckPhase.code : DuckPhase → Nat
  | .clear => 0
  | .ducked => 1
  | .releasing => 2

/-- The code of a call's source kind. -/
def CallSource.code : CallSource → Nat
  | .live _ => 0
  | .recorded _ _ _ => 1
  | .announce => 2

/-- The code of a call's origin. -/
def Origin.code : Origin → Nat
  | .prompt => 0
  | .cue _ _ _ => 1
  | .showStop => 2

/-- The code of a call's end. -/
def CallEnd.code : CallEnd → Nat
  | .complete => 0
  | .voiceStopped => 1
  | .voiceLost => 2
  | .voiceShortage => 3
  | .ended => 4
  | .cancelled => 5
  | .linkLost => 6
  | .gate => 7
  | .preempted => 8
  | .resumed => 9

/-- The code of the show state. -/
def ShowState.code : ShowState → Nat
  | .normal => 0
  | .stopped => 1
  | .resuming => 2

/-- The code of the line state. -/
def lineCode : LineState → Nat
  | .deasserted => 0
  | .asserted => 1

/-- The code of a foldback mode. -/
def FoldMode.code : FoldMode → Nat
  | .independent => 0
  | .follow _ => 1

/-- The main output that a foldback mode names, 0 where it names none. -/
def FoldMode.main : FoldMode → Nat
  | .independent => 0
  | .follow m => m.val

/-- The code of an announce input: 255 for NONE. -/
def announceCode : Option LiveNo → Nat
  | none => 255
  | some i => i.val

end Sys2Proof.Machine
end

