-- ==== Sys2Proof/Machine/Ops.lean ====
section
/-! DEFINITION. The shared operations over the part's state: reading and writing one voice, zone, link or level,
raising an event (R174), answering a request (R169, R170), and the views that are computed and not stored (R3, R7,
R57, R145, R175). -/

namespace Sys2Proof.Machine

/-- `f` on every element of a vector, by way of its list, which the kernel evaluates. -/
def mapVec {α β : Type} {n : Nat} (f : α → β) (v : Vector α n) : Vector β n :=
  ⟨⟨v.toList.map f⟩, by simp⟩

/-- The vector whose element at each index is `f` of it. -/
def tabulate {α : Type} (n : Nat) (f : Fin n → α) : Vector α n :=
  ⟨⟨(List.finRange n).map f⟩, by simp⟩

/-! ### Links -/

/-- The link record of a role. -/
def Links.get (ls : Links) : Role → Link
  | .console => ls.console
  | .prompt => ls.prompt
  | .monitor => ls.monitor

/-- Writes the link record of a role. -/
def Links.set (ls : Links) (r : Role) (k : Link) : Links :=
  match r with
  | .console => { ls with console := k }
  | .prompt => { ls with prompt := k }
  | .monitor => { ls with monitor := k }

/-- `f` on the three link records. -/
def Links.map (f : Link → Link) (ls : Links) : Links :=
  { console := f ls.console, prompt := f ls.prompt, monitor := f ls.monitor }

/-- The link record of a role. -/
def State.link (s : State) (r : Role) : Link := s.links.get r

/-- Writes a link record. -/
def State.setLink (s : State) (r : Role) (k : Link) : State :=
  { s with links := s.links.set r k }

/-- Whether a link's mask masks a kind: bit k − 1 masks kind k (R175). -/
def Link.masks (k : Link) (e : EventKind) : Bool := k.mask.getLsbD (e.code - 1)

/-- Whether a link's attention line is driven low: its queue holds a record of an unmasked kind (R175). -/
def Link.attention (k : Link) : Bool := k.queue.any fun e => !k.masks e.kind

/-- A raised record reaches one link: appended when the link is ATTACHED and has room, dropped with the lost flag
set when its queue holds 64 (R174). -/
def Link.append (e : Event) (k : Link) : Link :=
  if k.attached then
    if k.queue.length < Config.queueRecords then { k with queue := k.queue ++ [e] }
    else { k with lost := true }
  else k

/-- Raises an event: the record, with the show clock, goes to the queue of every ATTACHED link (R174). -/
def raise (e : Event) (s : State) : State :=
  { s with links := s.links.map (Link.append { e with clock := s.timing.showClock }) }

/-- An answer to a request: its result and the payload of its response. -/
structure Reply where
  result : Result
  payload : List Byte
  deriving DecidableEq, Repr

/-- A refusal: the state stays as it was, and the response carries the reason. -/
def refuse (r : Result) (s : State) : State × Reply := (s, { result := r, payload := [] })

/-- Acceptance with a payload. -/
def acceptWith (payload : List Byte) (s : State) : State × Reply := (s, { result := .accepted, payload := payload })

/-- Writes a response into a link's slot, over any response there (R169). -/
def respond (l : Role) (code tag : Byte) (r : Reply) (s : State) : State :=
  s.setLink l { s.link l with slot := some { code := code, tag := tag, result := r.result, payload := r.payload } }

/-- Reloads a link's presence timer, which runs only while the link is ATTACHED (R170, R172). -/
def reloadPresence (l : Role) (s : State) : State :=
  if (s.link l).attached then s.setLink l { s.link l with timer := (s.link l).tPres } else s

/-- Takes a well-formed request whose code the permissions table holds (R170): NOT_ATTACHED and NOT_PERMITTED come
before the owning block's own answer, and the presence timer is reloaded before that answer is decided. While
RESET_n is asserted the part takes no request (log 2). -/
def serve (l : Role) (code tag : Byte) (body : State → State × Reply) (s : State) : State :=
  if s.timing.inReset then s
  else if (s.link l).attached = false ∧ code ≠ 0x01#8 ∧ code ≠ 0x06#8 then
    respond l code tag { result := .notAttached, payload := [] } s
  else if permitted code l = false then
    respond l code tag { result := .notPermitted, payload := [] } (reloadPresence l s)
  else
    let r := body (reloadPresence l s)
    respond l code tag r.2 r.1

/-- An event of the part or of an attached device: taken unless RESET_n is asserted (log 2). -/
def occur (f : State → State) (s : State) : State := if s.timing.inReset then s else f s

/-- The bytes of a response frame (R178). -/
def Response.bytes (r : Response) : List Byte :=
  [r.code, r.tag, .ofNat 8 r.result.code, 0] ++ u16 r.payload.length ++ r.payload

/-- The response that an EMPTY slot shifts out (R169). -/
def Response.nonePending : Response := { code := 0, tag := 0, result := .nonePending, payload := [] }

/-! ### Voices -/

/-- A voice record. -/
def State.voice (s : State) (v : VoiceNo) : Voice := s.stream.voices[v]

/-- Writes a voice record. -/
def State.setVoice (s : State) (v : VoiceNo) (x : Voice) : State :=
  { s with stream := { s.stream with voices := s.stream.voices.set v x } }

/-- The voices in number order. -/
def voiceNos : List VoiceNo := List.finRange 32

/-- The audio frames of a FIFO; marker entries are not counted (R64). -/
def framesIn (fifo : List FifoEntry) : Nat :=
  fifo.countP fun e => match e with
    | .frame _ => true
    | .marker _ => false

/-- The audio frames in a voice's FIFO. -/
def Voice.frames (x : Voice) : Nat := framesIn x.fifo

/-- Whether a voice is not FREE. -/
def Voice.busy (x : Voice) : Bool := x.state != .free

/-- Whether a voice is STOPPING, of either stop mode. -/
def Voice.stopping (x : Voice) : Bool :=
  match x.state with
  | .stoppingFade => true
  | .stoppingRamp _ => true
  | _ => false

/-- Whether a voice is owned by the instance of an id. -/
def Voice.ownedByInst (x : Voice) (id : Nat) : Bool :=
  match x.owner with
  | .inst i _ => i == id
  | _ => false

/-- Whether a voice is owned by the call of an id. -/
def Voice.ownedByCall (x : Voice) (id : Nat) : Bool := x.owner == .call id

/-- Whether a voice is owned by some call. -/
def Voice.ownedBySomeCall (x : Voice) : Bool :=
  match x.owner with
  | .call _ => true
  | _ => false

/-- The voices that an instance owns, in number order. -/
def voicesOfInst (s : State) (id : Nat) : List VoiceNo := voiceNos.filter fun v => (s.voice v).ownedByInst id

/-- An instance's owned-voice count: the number of voices whose owner is that instance (R57). -/
def ownedCount (s : State) (id : Nat) : Nat := (voicesOfInst s id).length

/-- The orphans: the voices that play with no owner, in number order. -/
def orphans (s : State) : List VoiceNo :=
  voiceNos.filter fun v => (s.voice v).busy && (s.voice v).owner == .orphan

/-- The voice that a call owns, if it owns one (R145). -/
def voiceOfCall (s : State) (id : Nat) : Option VoiceNo := voiceNos.find? fun v => (s.voice v).ownedByCall id

/-- The request set: the voices whose fetch state is WAITING (R3). -/
def waitingVoices (s : State) : List VoiceNo := voiceNos.filter fun v => (s.voice v).fetch == .waiting

/-! ### Zones and calls -/

/-- The record of a zone, if the zone is present. -/
def State.zone? (s : State) (z : ZoneNo) : Option Zone := s.relay.zones[z.val]?

/-- `f` on the record of a zone. -/
def State.modifyZone (s : State) (z : ZoneNo) (f : Zone → Zone) : State :=
  { s with relay := { s.relay with zones := s.relay.zones.modify z.val f } }

/-- The zone that an output feeds, if it feeds one (R140). -/
def zoneOfOutput (s : State) (o : OutputNo) : Option Nat :=
  let i := s.relay.zones.findIdx fun z => z.output == o
  if i < s.relay.zones.length then some i else none

/-- Whether a zone carries a PLAYING call. -/
def zoneBusy (s : State) (z : ZoneNo) : Bool :=
  match s.zone? z with
  | some zn => zn.carried.isSome
  | none => false

/-- Whether a zone is held in a frame: its duck level is below 0 or the show state is not NORMAL (R142). -/
def zoneHeld (s : State) (zn : Zone) : Bool := decide (zn.duck < 0) || s.showStop.state != .normal

/-! ### The show-memory port -/

/-- The hold state (1.3): GRANTED while the port is HELD, PENDING while MHREQ waits, RELEASED otherwise. -/
def holdState (s : State) : HoldState :=
  match s.smi.port with
  | .held => .granted
  | _ => if s.smi.mhreq then .pending else .released

/-- Whether MHACK is asserted (1.3). -/
def mhack (s : State) : Bool := s.smi.port == .held

/-- Whether a load is READING. -/
def loading (s : State) : Bool := s.smi.load.isSome

/-- Whether a read of the present load is in flight; a read marked discard does not count (R3). -/
def loadReadInFlight (s : State) : Bool :=
  match s.smi.port with
  | .fetch t => t.user == .load false
  | _ => false

/-- Whether the load member is in the request set (R3). -/
def loadMember (s : State) : Bool :=
  match s.smi.load with
  | some ld => decide (0 < ld.remaining) && !loadReadInFlight s
  | none => false

/-! ### Levels and their holders (R90) -/

/-- The level of a fade target that its holder uses now. -/
def getLevel (t : FadeTarget) (s : State) : Level :=
  match t with
  | .crosspoint i o => s.mix.xpts[o][i]
  | .trim o => s.mix.trims[o]
  | .voice v => (s.voice v).level
  | .duck z => match s.zone? z with
    | some zn => .db zn.duck
    | none => .db 0
  | .stopMute => s.showStop.mute

/-- Writes the level of a fade target into its holder. -/
def setLevel (t : FadeTarget) (l : Level) (s : State) : State :=
  match t with
  | .crosspoint i o =>
    { s with mix := { s.mix with xpts := s.mix.xpts.set o (s.mix.xpts[o].set i l) } }
  | .trim o => { s with mix := { s.mix with trims := s.mix.trims.set o l } }
  | .voice v => s.setVoice v { s.voice v with level := l }
  | .duck z => s.modifyZone z fun zn => { zn with duck := l.num }
  | .stopMute => { s with showStop := { s.showStop with mute := l } }

/-! ### Subject fields of events -/

/-- The fields of an event that name an owner: instance id and cue number, or call id (R178). -/
def Event.ofOwner (o : Owner) (e : Event) : Event :=
  match o with
  | .orphan => e
  | .inst id cue => { e with inst := .ofNat 8 id, cue := cue }
  | .call id => { e with call := .ofNat 8 id }

/-- The fields of FADE_OVERFLOW that name the target (R176). -/
def Event.ofTarget (t : FadeTarget) (e : Event) : Event :=
  match t with
  | .crosspoint i o => { e with source := .ofNat 8 i.val, output := .ofNat 8 o.val }
  | .trim o => { e with output := .ofNat 8 o.val }
  | .voice v => { e with voice := .ofNat 8 v.val }
  | .duck z => { e with zone := .ofNat 8 z.val }
  | .stopMute => e

/-- An event about an instance: its id and cue number. -/
def instEvent (k : EventKind) (i : CueInstance) : Event := { kind := k, inst := .ofNat 8 i.id, cue := i.cue }

end Sys2Proof.Machine
end

