-- ==== Sys2Proof/Machine/Fades.lean ====
section
/-! DEFINITION. The Fade Engine (chapter 5): posting a fade, snapping it when the list is full, stepping and removing
entries, and what the holders do when told that a fade has ended. -/

namespace Sys2Proof.Machine

/-- The entry that stands for a target, if one does (R91). -/
def fadeFor (t : FadeTarget) (s : State) : Option FadeEntry := s.fades.find? fun e => e.target == t

/-- Removes the entry of a target without its completion action; its level stays as last written (R96). -/
def removeFade (t : FadeTarget) (s : State) : State :=
  { s with fades := s.fades.filter fun e => e.target != t }

/-- A voice takes stop mode RAMP at position 0, or keeps the ramp it has; its fetch state becomes NONE (R83, R93). -/
def startRamp (v : VoiceNo) (s : State) : State :=
  match (s.voice v).state with
  | .stoppingRamp _ => s
  | _ => s.setVoice v { s.voice v with state := .stoppingRamp 0, fetch := .none }

/-- The Relay Controller is told that a zone's duck has returned to 0: in RELEASING the phase becomes CLEAR and the
window peak 0 (R144). -/
def duckReleased (z : ZoneNo) (s : State) : State :=
  s.modifyZone z fun zn =>
    match zn.phase with
    | .releasing => { zn with phase := .clear, peak := 0 }
    | _ => zn

/-- The Show Stop Controller is told of a completion of a stop-mute fade: in RESUMING the show state becomes NORMAL
and SHOW_RESUMED is raised with subject NORMAL (R164). -/
def stopMuteReport (s : State) : State :=
  match s.showStop.state with
  | .resuming =>
    raise { kind := .showResumed, reason := 1 } { s with showStop := { s.showStop with state := .normal } }
  | _ => s

/-- A completion of the stop mute is reported; other targets have no report (R95). -/
def reportTarget (t : FadeTarget) (s : State) : State :=
  match t with
  | .stopMute => stopMuteReport s
  | _ => s

/-- The answer to a poster (R92). -/
inductive FadeCase where
  | setAtOnce
  | takenOver
  | posted
  | snapped
  deriving DecidableEq, Repr

/-- The code of a fade case (R178). -/
def FadeCase.code : FadeCase → Nat
  | .setAtOnce => 0
  | .takenOver => 1
  | .posted => 2
  | .snapped => 3

/-- What a post names (R92). -/
structure Post where
  target : FadeTarget
  goal : Level
  time : Nat
  action : Completion
  poster : Poster
  deriving DecidableEq, Repr

/-- The entry that a post makes or takes over: it starts from the present level of its target (R92). -/
def Post.entry (p : Post) (s : State) : FadeEntry :=
  { target := p.target, start := getLevel p.target s, goal := p.goal, n := p.time, k := 0, due := false,
    action := p.action, poster := p.poster }

/-- The FADE_OVERFLOW record of a post (R93, R176). -/
def Post.overflow (p : Post) : Event :=
  Event.ofTarget p.target
    { kind := .fadeOverflow, reason := .ofNat 8 (targetKind p.target), aux1 := p.goal.bits,
      aux2 := .ofNat 16 p.poster.code, aux3 := .ofNat 32 p.time }

/-- The completion action of a post that is taken at once or snapped to its goal (R92, R93). No block posts a fade
with STOP VOICE and time 0: R83 and R86 give the declick ramp there. -/
def completeAtOnce (p : Post) (s : State) : State :=
  match p.action, p.target with
  | .nothing, _ => s
  | .duckReleased, .duck z => duckReleased z s
  | .duckReleased, _ => s
  | .stopVoice, .voice v => startRamp v s
  | .stopVoice, _ => s

/-- A post that finds the list full (R93): the level is set at once and FADE_OVERFLOW is raised. A stop fade to OFF
leaves the level where it stands and gives the voice the declick ramp. -/
def snapFade (p : Post) (s : State) : State :=
  if p.action = .stopVoice ∧ p.goal = .off then completeAtOnce p (raise p.overflow s)
  else reportTarget p.target (completeAtOnce p (raise p.overflow (setLevel p.target p.goal s)))

/-- A post, by the first case of R92 that applies. -/
def postFade (p : Post) (s : State) : State × FadeCase :=
  if p.time = 0 then
    (reportTarget p.target (completeAtOnce p (removeFade p.target (setLevel p.target p.goal s))), .setAtOnce)
  else if (fadeFor p.target s).isSome then
    ({ s with fades := s.fades.map fun e => if e.target == p.target then p.entry s else e }, .takenOver)
  else if s.fades.length < Config.maxFades then
    ({ s with fades := s.fades ++ [p.entry s] }, .posted)
  else (snapFade p s, .snapped)

/-- The state after a post. -/
def post (p : Post) (s : State) : State := (postFade p s).1

/-- One entry at a millisecond (R94): it advances by one step, or, where the next step is its last, it becomes due
and FADE_COMPLETE takes that step. -/
def FadeEntry.tick (e : FadeEntry) : FadeEntry :=
  if e.k + 1 < e.n then { e with k := e.k + 1 } else { e with due := true }

/-- The level that an entry writes at a millisecond, if it writes one (R94). -/
def FadeEntry.written (e : FadeEntry) : Option Level :=
  if e.k + 1 < e.n then some (fadeLevel e.start e.goal (e.k + 1) e.n) else none

/-- Writes the levels of a millisecond's steps into their holders (R94). -/
def writeLevels : List FadeEntry → State → State
  | [], s => s
  | e :: es, s =>
    match e.written with
    | some l => writeLevels es (setLevel e.target l s)
    | none => writeLevels es s

/-- Every entry of the list takes its step of a millisecond (R94). -/
def stepFades (s : State) : State :=
  writeLevels s.fades { s with fades := s.fades.map FadeEntry.tick }

end Sys2Proof.Machine
end

