-- ==== Sys2Proof/Machine/Voices.lean ====
section
/-! DEFINITION. The Stream Engine (chapter 4), one voice at a time: stream words and the decoder (R13, R76, R78),
fetch requests (R74), exhaustion (R81), becoming FREE, the end of an instance whose voices and follow are done (R58),
stopping a voice (R83), choosing a victim (R67) and filling a record for a new owner (R66, R68). -/

namespace Sys2Proof.Machine

/-! ### Decoding (R13, R76, R78) -/

/-- What a stream word stands for (R13). -/
inductive StreamWord where
  | audio (sample : Int)
  | silence (n : Nat)
  | marker (id : Byte)
  | reserved
  deriving DecidableEq, Repr

/-- A stream word by its tag in bits 31-24 (R178). -/
def streamWord (w : Word) : StreamWord :=
  match (w.extractLsb' 24 8).toNat with
  | 0 => .audio (w.extractLsb' 0 24).toInt
  | 1 => .silence (w.extractLsb' 0 24).toNat
  | 2 => .marker (w.extractLsb' 0 8)
  | _ => .reserved

/-- What the decoder took from a fetch buffer: the FIFO entries placed, the words left with the position of the
first, the silence-run remainder, and the position of the first RESERVED word decoded. -/
structure Decoded where
  entries : List FifoEntry
  buf : List Word
  pos : Nat
  silence : Nat
  fault : Option Nat
  deriving DecidableEq, Repr

/-- Zero frames. -/
def zeroFrames (n : Nat) : List FifoEntry := List.replicate n (.frame 0)

/-- Puts entries before what the rest of the buffer gives. -/
def Decoded.before (entries : List FifoEntry) (d : Decoded) : Decoded := { d with entries := entries ++ d.entries }

/-- Decodes words, oldest first, into at most `room` entries; `pos` is the word position of the first (R76). -/
def decodeWords (room pos : Nat) : List Word → Decoded
  | [] => { entries := [], buf := [], pos := pos, silence := 0, fault := none }
  | w :: ws =>
    if room = 0 then { entries := [], buf := w :: ws, pos := pos, silence := 0, fault := none }
    else match streamWord w with
      | .audio x => (decodeWords (room - 1) (pos + 1) ws).before [.frame x]
      | .marker id => (decodeWords (room - 1) (pos + 1) ws).before [.marker id]
      | .reserved => { (decodeWords (room - 1) (pos + 1) ws).before [.frame 0] with fault := some pos }
      | .silence n =>
        if n ≤ room then (decodeWords (room - n) (pos + 1) ws).before (zeroFrames n)
        else { entries := zeroFrames room, buf := ws, pos := pos + 1, silence := n - room, fault := none }

/-- The decoder on a voice record: a silence-run remainder first, then the words of the fetch buffer (R76). -/
def Voice.decoded (x : Voice) : Decoded :=
  let room := Config.fifoEntries - x.fifo.length
  let m := min x.silence room
  if m < x.silence then
    { entries := zeroFrames m, buf := x.buf, pos := x.bufPos, silence := x.silence - m, fault := none }
  else (decodeWords (room - m) x.bufPos x.buf).before (zeroFrames m)

/-- A voice record after its decoder has run; a RESERVED word sets format fault reported (R78). -/
def Voice.afterDecoder (x : Voice) : Voice :=
  { x with
    fifo := x.fifo ++ x.decoded.entries, buf := x.decoded.buf, bufPos := x.decoded.pos, silence := x.decoded.silence,
    faultReported := x.faultReported || x.decoded.fault.isSome }

/-- Whether a voice's decoder runs: in every state but FREE and RECLAIMING (R65). -/
def Voice.decodes (x : Voice) : Bool :=
  match x.state with
  | .free => false
  | .reclaiming _ _ _ _ => false
  | _ => true

/-- The FORMAT_FAULT record of a voice (R78, R176). -/
def formatFaultEvent (v : VoiceNo) (x : Voice) (pos : Nat) : Event :=
  Event.ofOwner x.owner
    { kind := .formatFault, voice := .ofNat 8 v.val, aux1 := .ofNat 16 x.region, aux2 := .ofNat 16 pos }

/-! ### Fetch requests and exhaustion (R74, R81) -/

/-- The states in which a voice posts fetch requests (R74). -/
def Voice.fetches (x : Voice) : Bool :=
  match x.state with
  | .starting _ => true
  | .playing => true
  | .starved => true
  | .stoppingFade => true
  | _ => false

/-- Whether a voice posts a fetch request now (R74). -/
def Voice.wantsFetch (x : Voice) : Bool :=
  x.fetches && x.fetch == .none && x.buf.isEmpty && decide (x.next < x.out)

/-- Posts a voice's fetch request where the conditions of R74 hold: it becomes WAITING and joins the request set. -/
def postFetch (v : VoiceNo) (s : State) : State :=
  if (s.voice v).wantsFetch then s.setVoice v { s.voice v with fetch := .waiting } else s

/-- Whether a voice's region is exhausted (R81). -/
def Voice.exhausted (x : Voice) : Bool :=
  decide (x.next = x.out) && x.loops == 0 && x.fetch == .none && x.buf.isEmpty && x.silence == 0

/-- Whether a voice is primed: 256 frames, its region exhausted, or a full FIFO (R73). -/
def Voice.primed (x : Voice) : Bool :=
  decide (Config.primeFrames ≤ x.frames) || x.exhausted || decide (Config.fifoEntries ≤ x.fifo.length)

/-- Runs a voice's decoder, reports a format fault once for each start, and posts the next request (R74, R76, R78). -/
def runDecoder (v : VoiceNo) (s : State) : State :=
  if (s.voice v).decodes then
    let x := s.voice v
    let t := s.setVoice v x.afterDecoder
    let t := match x.decoded.fault with
      | some pos => if x.faultReported then t else raise (formatFaultEvent v x pos) t
      | none => t
    postFetch v t
  else s

/-! ### Ends -/

/-- The instance of an id in the running cue table. -/
def instOf (id : Nat) (s : State) : Option CueInstance := s.seq.instances.find? fun i => i.id == id

/-- Removes the instance of an id from the table; the others keep their order (3.4). -/
def removeInst (id : Nat) (s : State) : State :=
  { s with seq := { s.seq with instances := s.seq.instances.filter fun i => i.id != id } }

/-- `f` on the instance of an id. -/
def modifyInst (id : Nat) (f : CueInstance → CueInstance) (s : State) : State :=
  { s with seq := { s.seq with instances := s.seq.instances.map fun i => if i.id == id then f i else i } }

/-- An instance leaves the table with CUE_ENDED: reason 0 COMPLETE, 1 STOPPED, 2 SHOW_STOP (R58, R178). -/
def endInst (i : CueInstance) (reason : Nat) (s : State) : State :=
  raise { instEvent .cueEnded i with reason := .ofNat 8 reason } (removeInst i.id s)

/-- The end check of R58: a RUNNING instance with no voices and no pending follow leaves the table. The check of an
instance that is handing over its own actions is made at the end of its dispatch (R51, log 8). -/
def checkEnd (id : Nat) (s : State) : State :=
  match instOf id s with
  | some i =>
    if i.phase = .running ∧ i.follow = none ∧ ownedCount s id = 0 then endInst i (if i.stopped then 1 else 0) s
    else s
  | none => s

/-- The end check of a voice's former owner, where that is an instance (R57). -/
def checkOwner (o : Owner) (s : State) : State :=
  match o with
  | .inst id _ => checkEnd id s
  | _ => s

/-- A voice becomes FREE: any fade on its level is removed without its completion action, its record is emptied and
its tail is dropped (R81, R83, R85, R151). The owner is not told here. -/
def freeVoice (v : VoiceNo) (s : State) : State :=
  let t := (removeFade (.voice v) s).setVoice v Voice.freeRecord
  { t with relay := { t.relay with tails := t.relay.tails.filter fun tl => tl.voice != v } }

/-- A voice becomes FREE and an owning instance loses it (R57). A call that owned it is told by the caller (R154). -/
def freeAndCheck (v : VoiceNo) (s : State) : State :=
  checkOwner (s.voice v).owner (freeVoice v s)

/-! ### Stopping (R83) -/

/-- The stop fade of a voice over `t` ms: OFF with STOP VOICE, posted by the Stream Engine (R83, R91). -/
def stopFade (v : VoiceNo) (t : Nat) : Post :=
  { target := .voice v, goal := .off, time := t, action := .stopVoice, poster := .stream }

/-- Posts a fade that carries STOP VOICE: the voice is STOPPING with stop mode FADE, or takes the declick ramp where
the list is full (R83, R86, R93). -/
def postStopFade (p : Post) (v : VoiceNo) (s : State) : State :=
  let r := postFade p s
  match r.2 with
  | .snapped => r.1
  | _ => r.1.setVoice v { r.1.voice v with state := .stoppingFade }

/-- A stop with fade time `t`, taken according to the voice's state (R83). -/
def stopVoice (v : VoiceNo) (t : Nat) (s : State) : State :=
  match (s.voice v).state with
  | .free => s
  | .starting _ => freeAndCheck v s
  | .playing => if t = 0 then startRamp v s else postStopFade (stopFade v t) v s
  | .starved => if t = 0 then startRamp v s else postStopFade (stopFade v t) v s
  | .stoppingFade =>
    if t = 0 then startRamp v (removeFade (.voice v) s) else postStopFade (stopFade v t) v s
  | .stoppingRamp _ => s
  | .reclaiming pos dest level _ => s.setVoice v { s.voice v with state := .reclaiming pos dest level true }

/-- Stops voices one after another, in the order given. -/
def stopVoices (vs : List VoiceNo) (t : Nat) (s : State) : State :=
  vs.foldl (fun s v => stopVoice v t s) s

/-! ### Allocation (R66 to R68) -/

/-- An allocation request (R66). -/
structure AllocReq where
  owner : Owner
  priority : Nat
  dest : Dest
  region : Nat
  inWord : Nat
  out : Option Nat
  loop : Option Nat
  loops : Nat
  group : Nat
  stopAtEnd : Bool
  level : Level
  fadeIn : Nat
  deriving DecidableEq, Repr

/-- A region of the region table; the empty region at word 0 outside it. -/
def regionAt (s : State) (k : Nat) : Region := s.smi.regions.getD k { base := 0, len := 0 }

/-- A voice record filled from a request, apart from its state and what is buffered: owner, priority, words, loops,
levels, start time, and the counters cleared (R66). -/
def AllocReq.record (r : AllocReq) (s : State) : Voice :=
  { Voice.freeRecord with
    owner := r.owner, priority := r.priority, dest := r.dest, group := r.group, stopAtEnd := r.stopAtEnd,
    region := r.region, inWord := r.inWord, startLevel := r.level, fadeIn := r.fadeIn, next := r.inWord,
    out := r.out.getD (regionAt s r.region).len, loop := r.loop, loops := r.loops,
    startTime := s.timing.showClock }

/-- A record enters STARTING: with no fade-in at its start level, with one at OFF and the fade-in pending (R66). -/
def Voice.started (x : Voice) : Voice :=
  if x.fadeIn = 0 then { x with state := .starting none, level := x.startLevel }
  else { x with state := .starting (some x.fadeIn), level := .off }

/-- Whether a voice may be taken by a request of a priority (R67). -/
def Voice.candidate (priority : Nat) (x : Voice) : Bool :=
  match x.state with
  | .free => false
  | .reclaiming _ _ _ _ => false
  | _ => decide (x.priority ≤ priority)

/-- Whether victim `a` comes strictly before victim `b`: STOPPING first, then the lower priority, then the earlier
start time, which is the longer time since the start by the show clock (R67, log 9). -/
def victimBefore (now : BitVec 32) (a b : Voice) : Bool :=
  if a.stopping != b.stopping then a.stopping
  else if a.priority ≠ b.priority then decide (a.priority < b.priority)
  else decide ((now - b.startTime).toNat < (now - a.startTime).toNat)

/-- The first victim among voices given in number order; the lower voice number comes first among equals (R67). -/
def bestVictim (s : State) : List VoiceNo → Option VoiceNo
  | [] => none
  | v :: vs =>
    match bestVictim s vs with
    | some w => if victimBefore s.timing.showClock (s.voice w) (s.voice v) then some w else some v
    | none => some v

/-- The victim of a request of a priority (R67). -/
def victim (priority : Nat) (s : State) : Option VoiceNo :=
  bestVictim s (voiceNos.filter fun v => (s.voice v).candidate priority)

/-- The lowest-numbered FREE voice (R66). -/
def freeVoiceNo (s : State) : Option VoiceNo := voiceNos.find? fun v => (s.voice v).state == .free

/-- The ramp position that a steal starts from: a ramping victim's goes on (R68). -/
def Voice.stealPos (x : Voice) : Nat :=
  match x.state with
  | .stoppingRamp p => p
  | _ => 0

/-- The FIFO that a victim keeps for its ramp: no markers, and no frames where none had been heard (R68). -/
def Voice.stealFifo (x : Voice) : List FifoEntry :=
  match x.state with
  | .starting _ => []
  | .starved => []
  | _ => x.fifo.filter fun e => match e with
    | .frame _ => true
    | .marker _ => false

/-- Steps 2 to 6 of R68: the victim's fade entry goes, its fetching ends, and it is RECLAIMING for its new owner at
its outgoing destination and level. The old owner is told by the caller. -/
def stealVoice (r : AllocReq) (v : VoiceNo) (s : State) : State :=
  let x := s.voice v
  (removeFade (.voice v) s).setVoice v
    { r.record s with
      state := .reclaiming x.stealPos x.dest x.level false, level := x.level, fifo := x.stealFifo }

/-- Takes a FREE voice for a request: it enters STARTING and posts its first fetch request (R66). -/
def takeFree (r : AllocReq) (v : VoiceNo) (s : State) : State :=
  postFetch v (s.setVoice v (r.record s).started)

end Sys2Proof.Machine
end

