-- ==== Sys2Proof/Machine/Calls.lean ====
section
/-! DEFINITION. The Relay Controller's calls (chapter 8) with the allocation of voices (4.2): ducking (R144), the end
of a call (R152), stealing and allocating a voice (R66 to R70), starting calls and scanning the queue (R149, R150),
accepting a call (R146, R147), preemption (R148) and the show-stop call (R156). -/

namespace Sys2Proof.Machine

/-! ### Ducks (R144) -/

/-- The post of a zone's duck toward a level. -/
def duckPost (z : ZoneNo) (goal : Int) (time : Nat) (action : Completion) : Post :=
  { target := .duck z, goal := .db goal, time := time, action := action, poster := .relay }

/-- A zone records a call as carried and is ducked to −depth over tATTACK: phase DUCKED (R144, R150). -/
def attackZone (id depth : Nat) (z : ZoneNo) (s : State) : State :=
  post (duckPost z (-depth) s.relay.attack .nothing)
    (s.modifyZone z fun zn => { zn with carried := some id, phase := .ducked })

/-- A zone records no call carried and its duck is released over tRELEASE: phase RELEASING (R144, R152). -/
def releaseZone (z : ZoneNo) (s : State) : State :=
  post (duckPost z 0 s.relay.release .duckReleased)
    (s.modifyZone z fun zn => { zn with carried := none, phase := .releasing })

/-- Attacks the zones of a set (R150). R150 gives no order among them: ascending zone numbers are a DESIGN CHOICE
(log 25). -/
def attackZones (id depth : Nat) (zones : BitVec 16) (s : State) : State :=
  (members zones).foldl (fun s z => attackZone id depth z s) s

/-- Releases the zones of a set (R152). R152 gives no order among them: ascending zone numbers are a DESIGN CHOICE
(log 25). -/
def releaseZones (zones : BitVec 16) (s : State) : State :=
  (members zones).foldl (fun s z => releaseZone z s) s

/-! ### The end of a call (R152) -/

/-- A voice leaves its call at the call's end: it is an orphan from now on and is stopped with fade time 0, and the
declick ramp of a sounding voice makes a tail (R151, R152). -/
def leaveCall (c : Call) (v : VoiceNo) (s : State) : State :=
  let t := s.setVoice v { s.voice v with owner := .orphan }
  let t := match (s.voice v).state with
    | .playing | .starved | .stoppingFade | .stoppingRamp _ =>
      { t with relay := { t.relay with tails := t.relay.tails ++ [{ voice := v, zones := c.zones, page := c.page }] } }
    | _ => t
  stopVoice v 0 t

/-- The CALL_ENDED record of a call (R176). -/
def callEndedEvent (c : Call) (reason : CallEnd) : Event :=
  { kind := .callEnded, call := .ofNat 8 c.id, reason := .ofNat 8 reason.code }

/-- Removes the call of an id from the queue and from the playing calls. -/
def removeCall (id : Nat) (s : State) : State :=
  { s with relay := { s.relay with waiting := s.relay.waiting.filter (fun c => c.id != id),
                                   playing := s.relay.playing.filter (fun c => c.id != id) } }

/-- Whether a call of an id is PLAYING. -/
def isPlaying (id : Nat) (s : State) : Bool := s.relay.playing.any fun c => c.id == id

/-- The WAITING or PLAYING call of an id. -/
def callOf (id : Nat) (s : State) : Option Call :=
  (s.relay.playing ++ s.relay.waiting).find? fun c => c.id == id

/-- Steps 1 to 4 of R152: the call leaves its list; a PLAYING call releases its zones and loses the voice it owns;
CALL_ENDED is raised. The scan of step 5 is the caller's. An end that finds no call has no effect. -/
def endCallCore (id : Nat) (reason : CallEnd) (s : State) : State :=
  match callOf id s with
  | none => s
  | some c =>
    let t := removeCall id s
    let t := if isPlaying id s then releaseZones c.zones t else t
    let t := match voiceOfCall s id with
      | some v => leaveCall c v t
      | none => t
    raise (callEndedEvent c reason) t

/-! ### Allocation with stealing (R66 to R70) -/

/-- What an accepted allocation gives: the state, the voice, and whether a call ended because its voice was taken. -/
structure Allocated where
  state : State
  voice : VoiceNo
  callEnded : Bool

/-- The old owner of a stolen voice is told (R68): an instance has its end check, a call's voice makes a tail on the
call's zones (R151) and the call ends with reason VOICE_LOST (R154). -/
def tellVictim (x : Voice) (v : VoiceNo) (s : State) : State × Bool :=
  match x.owner with
  | .orphan => (s, false)
  | .inst id _ => (checkEnd id s, false)
  | .call id =>
    match callOf id s with
    | some c =>
      let t := { s with relay :=
        { s.relay with tails := s.relay.tails ++ [{ voice := v, zones := c.zones, page := c.page }] } }
      (endCallCore id .voiceLost t, true)
    | none => (s, false)

/-- Takes the lowest-numbered FREE voice, or steals a victim, or fails (R66, R67, R68, R70). R68 takes its six steps
together: that steps 2 to 6 stand before the old owner is told of step 1, so that the end of a call finds the
fade-list place that the victim's fade has left, is a DESIGN CHOICE (log 24). -/
def allocate (r : AllocReq) (s : State) : Option Allocated :=
  match freeVoiceNo s with
  | some v => some { state := takeFree r v s, voice := v, callEnded := false }
  | none =>
    match victim r.priority s with
    | some v =>
      let told := tellVictim (s.voice v) v (stealVoice r v s)
      some { state := told.1, voice := v, callEnded := told.2 }
    | none => none

/-! ### Starting and scanning (R149, R150) -/

/-- The allocation request of a recorded call (R66). -/
def callAlloc (id region inWord : Nat) (out : Option Nat) : AllocReq :=
  { owner := .call id, priority := 3, dest := .call, region := region, inWord := inWord, out := out, loop := none,
    loops := 0, group := 0, stopAtEnd := false, level := .db 0, fadeIn := 0 }

/-- The CALL_STARTED record of a call; a call without a voice carries voice 0 (R150, R176). -/
def callStartedEvent (c : Call) (v : Option VoiceNo) : Event :=
  { kind := .callStarted, call := .ofNat 8 c.id, zones := c.zones,
    voice := match v with
      | some v => .ofNat 8 v.val
      | none => 0,
    aux1 := .ofNat 16 c.priority, aux2 := .ofNat 16 (256 * c.source.code + c.origin.code) }

/-- The gate timer of a live call of priority 1..3 is loaded with tGATE at its start (R150, R155). -/
def startGate (c : Call) (s : State) : Option GateTimer :=
  match c.source with
  | .live _ => if c.priority ≤ 3 then some { left := 1000 * s.relay.gateSeconds, reloaded := false } else none
  | _ => none

/-- Steps 2 to 4 of R150: the call becomes PLAYING, its zones carry it and are ducked, its gate timer is loaded, and
CALL_STARTED is raised. -/
def beginCall (c : Call) (v : Option VoiceNo) (s : State) : State :=
  let t := removeCall c.id s
  let t := { t with relay := { t.relay with playing := t.relay.playing ++ [{ c with gate := startGate c s }] } }
  raise (callStartedEvent c v) (attackZones c.id c.depth c.zones t)

/-- What trying to start a call gives: the state, whether it started, and whether a call ended meanwhile. -/
structure Started where
  state : State
  started : Bool
  callEnded : Bool

/-- Starts a call (R150): a recorded call first asks for a voice, and ends with VOICE_SHORTAGE where it gets none. -/
def startCall (c : Call) (s : State) : Started :=
  match c.source with
  | .recorded region inWord out =>
    match allocate (callAlloc c.id region inWord out) s with
    | some a => { state := beginCall c (some a.voice) a.state, started := true, callEnded := a.callEnded }
    | none => { state := endCallCore c.id .voiceShortage s, started := false, callEnded := true }
  | _ => { state := beginCall c none s, started := true, callEnded := false }

/-- Whether none of a call's zones carries a PLAYING call or is claimed (R149). -/
def mayStart (c : Call) (claimed : BitVec 16) (s : State) : Bool :=
  (c.zones &&& claimed) == 0 && (members c.zones).all fun z => !zoneBusy s z

/-- One scan over the WAITING calls in queue order with the set of claimed zones (R149); the flag says whether a call
ended during the scan. -/
def scanOnce : List Call → BitVec 16 → Bool → State → State × Bool
  | [], _, again, s => (s, again)
  | c :: cs, claimed, again, s =>
    if mayStart c claimed s then
      let r := startCall c s
      scanOnce cs claimed (again || r.callEnded) r.state
    else scanOnce cs (claimed ||| c.zones) again s

/-- Scans until no call ends during a scan; each further scan has one call fewer, so `n` above the number of calls
is enough (R149). -/
def scanFuel : Nat → State → State
  | 0, s => s
  | n + 1, s =>
    let r := scanOnce s.relay.waiting 0 false s
    if r.2 then scanFuel n r.1 else r.1

/-- Scans the queue (R149). -/
def scan (s : State) : State := scanFuel (s.relay.waiting.length + s.relay.playing.length + 1) s

/-- Ends a call with a reason and scans the queue (R152). -/
def endCall (id : Nat) (reason : CallEnd) (s : State) : State :=
  match callOf id s with
  | none => s
  | some _ => scan (endCallCore id reason s)

/-- Ends calls one after another, with one scan after the last (R153); without any there is no scan. -/
def endCalls (ids : List Nat) (reason : CallEnd) (s : State) : State :=
  match ids with
  | [] => s
  | _ => scan (ids.foldl (fun s id => endCallCore id reason s) s)

/-- Allocates a voice for an instance or the console; a call that lost its voice has its end's scan made here
(R68, R152). -/
def allocateScan (r : AllocReq) (s : State) : Option (State × VoiceNo) :=
  match allocate r s with
  | some a => some (if a.callEnded then scan a.state else a.state, a.voice)
  | none => none

/-- A voice that became FREE by a stop left the owner given: an instance has its end check, a call ends with the
reason given (R57, R154). -/
def ownerLost (o : Owner) (reason : CallEnd) (s : State) : State :=
  match o with
  | .orphan => s
  | .inst id _ => checkEnd id s
  | .call id => endCall id reason s

/-! ### Accepting a call (R145 to R149) -/

/-- The next id from a value on, wrapping from 255 to 1. -/
def nextId (n : Nat) : Nat := if n < 255 then n + 1 else 1

/-- The first id from a counter's value on, wrapping, that no id in use equals (R46, R145); with fewer than 255 ids
in use one is found. -/
def freshId (used : List Nat) : Nat → Nat → Nat
  | 0, n => n
  | k + 1, n => if used.contains n then freshId used k (nextId n) else n

/-- The id that the next accepted call takes (R145). -/
def takeCallId (s : State) : Nat :=
  freshId ((s.relay.waiting ++ s.relay.playing).map (·.id)) 255 s.relay.nextId

/-- The place in the queue by priority, highest first, and by arrival within one priority (R149). -/
def insertCall (c : Call) : List Call → List Call
  | [] => [c]
  | d :: ds => if d.priority < c.priority then c :: d :: ds else d :: insertCall c ds

/-- The PLAYING calls that a call preempts, in the order of their starts (R148). -/
def preempted (c : Call) (s : State) : List Nat :=
  (s.relay.playing.filter fun d => decide (d.priority < c.priority) && (d.zones &&& c.zones) != 0).map (·.id)

/-- An accepted call takes its id and its place in the order of arrival, preempts, joins the queue, and the queue is
scanned (R146, R148, R149). Answers the call's id. -/
def acceptCall (c : Call) (s : State) : State × Nat :=
  let id := takeCallId s
  let c := { c with id := id, arrival := s.relay.arrivals }
  let t := { s with relay := { s.relay with nextId := nextId id, arrivals := s.relay.arrivals + 1 } }
  let t := (preempted c t).foldl (fun s d => endCallCore d .preempted s) t
  let t := { t with relay := { t.relay with waiting := insertCall c t.relay.waiting } }
  (scan t, id)

/-- A call before it has an id. -/
def newCall (priority : Nat) (source : CallSource) (zones : BitVec 16) (page : Int) (depth : Nat)
    (origin : Origin) : Call :=
  { id := 0, priority := priority, source := source, zones := zones, page := page, depth := depth, origin := origin,
    arrival := 0, gate := none }

/-- The first zone of a set that is not present (R146). -/
def absentZone (zones : BitVec 16) (s : State) : Option ZoneNo :=
  (members zones).find? fun z => decide (s.relay.zones.length ≤ z.val)

/-- The calls that count toward the 8 WAITING calls: the show-stop call does not (R156). -/
def waitingCount (s : State) : Nat := s.relay.waiting.countP fun c => c.source != .announce

/-! ### The show-stop call (R156) -/

/-- The set of every zone present. -/
def zonesPresent (s : State) : BitVec 16 := .ofNat 16 (2 ^ s.relay.zones.length - 1)

/-- The show-stop call before it has an id: priority 4, depth 600, the zone set given. Its source and page level are
the announce input and level as the Show Stop Controller holds them. -/
def showStopCall (zones : BitVec 16) : Call := newCall 4 .announce zones 0 600 .showStop

/-- Creates the show-stop call on every zone present; it preempts and starts in the scan that follows. -/
def createShowStopCall (s : State) : State := (acceptCall (showStopCall (zonesPresent s)) s).1

/-- The PLAYING show-stop call, if there is one. -/
def findShowStopCall (s : State) : Option Call := s.relay.playing.find? fun c => c.source == .announce

/-- The zones of a new image join the show-stop call: each records it as carried and is ducked (R156). -/
def joinShowStopCall (s : State) : State :=
  match findShowStopCall s with
  | none => s
  | some c =>
    let zones := zonesPresent s
    let t := { s with relay := { s.relay with
      playing := s.relay.playing.map fun d => if d.id == c.id then { d with zones := zones } else d } }
    attackZones c.id c.depth zones t

end Sys2Proof.Machine
end

