-- ==== Sys2Proof/Machine/Sequence.lean ====
section
/-! DEFINITION. The Cue Sequencer's shared operations (chapter 3): finding cues, room and retirement (R48), creating
an instance (R47), reaching an instance with a stop (R52, R59), dispatching the eight kinds of action (R51, R52, R86,
R98, R130, R147), capturing and expiring follows (R54, R55), chains of fires, and marker fires (R56). -/

namespace Sys2Proof.Machine

/-! ### The store as the sequencer reads it -/

/-- The stored cue of a number. -/
def cueOf (n : CueNum) (s : State) : Option Cue := s.store.cues.find? fun c => c.num == n

/-- The stored scene of an identifier. -/
def sceneOf (id : Nat) (s : State) : Option Scene := s.store.scenes.find? fun c => c.id == id

/-- The first cue after a number in store order. -/
def cueAfter (n : CueNum) (s : State) : Option Cue := s.store.cues.find? fun c => decide (n.toNat < c.num.toNat)

/-- Whether a cue's trigger is GO. -/
def Cue.isGo (c : Cue) : Bool := c.trigger == .go

/-- The first cue after a number whose trigger is GO, or END (R38). -/
def nextGo (n : CueNum) (s : State) : Option CueNum :=
  (s.store.cues.find? fun c => decide (n.toNat < c.num.toNat) && c.isGo).map (·.num)

/-- The first cue in store order whose trigger is GO, or END (R17). -/
def firstGo (s : State) : Option CueNum := (s.store.cues.find? Cue.isGo).map (·.num)

/-- The PLAYHEAD_MOVED record: the new playhead or the END flag, and the cause: 0 GO, 1 SET PLAYHEAD, 2 DELETE
(R38, R176). -/
def playheadEvent (p : Option CueNum) (cause : Nat) : Event :=
  { kind := .playheadMoved, endFlag := p.isNone, cue := p.getD 0, reason := .ofNat 8 cause }

/-- The playhead takes a new value: the standby flag clears and PLAYHEAD_MOVED is raised (R38). -/
def movePlayhead (p : Option CueNum) (cause : Nat) (s : State) : State :=
  raise (playheadEvent p cause) { s with seq := { s.seq with playhead := p, standby := false } }

/-! ### Room in the table and retirement (R48) -/

/-- The instance that a full table retires: the oldest-fired that is RUNNING with no pending follow. -/
def retiree (s : State) : Option CueInstance :=
  s.seq.instances.find? fun i => i.phase == .running && i.follow == none

/-- Whether a fire finds room: the table is not full, or an instance may be retired (R48). -/
def hasRoom (s : State) : Bool :=
  decide (s.seq.instances.length < Config.maxInstances) || (retiree s).isSome

/-- The voices that an instance owns become orphans; state, level and fades stay (R48, R61). -/
def orphanVoices (id : Nat) (s : State) : State :=
  { s with stream := { s.stream with
      voices := mapVec (fun x => if x.ownedByInst id then { x with owner := .orphan } else x) s.stream.voices } }

/-- Makes room for a fire: a full table retires an instance with CUE_RETIRED (R48). -/
def makeRoom (s : State) : State :=
  if s.seq.instances.length < Config.maxInstances then s
  else match retiree s with
    | some i => raise (instEvent .cueRetired i) (orphanVoices i.id (removeInst i.id s))
    | none => s

/-! ### Creating an instance (R46, R47) -/

/-- The id that the next instance takes (R46). -/
def takeInstId (s : State) : Nat := freshId (s.seq.instances.map (·.id)) 255 s.seq.nextId

/-- The instance that a fire of a cue creates (R47). -/
def newInst (c : Cue) (cause : Cause) (s : State) : CueInstance :=
  { id := takeInstId s, cue := c.num, phase := .prewait, preWait := c.preWait, follow := none, cause := cause,
    fireTime := s.timing.showClock, stopped := false }

/-- Creates the instance at the end of the table and raises CUE_FIRED (R47). -/
def createInst (c : Cue) (cause : Cause) (s : State) : State :=
  let i := newInst c cause s
  raise { instEvent .cueFired i with reason := .ofNat 8 cause.code, aux1 := .ofNat 16 cause.roleByte }
    { s with seq := { s.seq with instances := s.seq.instances ++ [i], nextId := nextId i.id } }

/-! ### Reaching an instance with a stop (R47, R52, R59) -/

/-- A stop reaches one instance: in PREWAIT it leaves the table; in RUNNING it is marked stopped, loses its pending
follow with its end check, and its voices are stopped with the fade time, in voice-number order. -/
def reachInst (t : Nat) (id : Nat) (s : State) : State :=
  match instOf id s with
  | none => s
  | some i =>
    match i.phase with
    | .prewait => endInst i 1 s
    | _ =>
      let r := checkEnd id (modifyInst id (fun i => { i with stopped := true, follow := none }) s)
      stopVoices (voicesOfInst s id) t r

/-- A stop reaches the instances of ids, in the order given. -/
def reachInsts (t : Nat) (ids : List Nat) (s : State) : State :=
  ids.foldl (fun s id => reachInst t id s) s

/-! ### Actions at dispatch (R51) -/

/-- ACTION_FAULT of an action, with its position and the result code of its reason (R50, R178). -/
def actionFault (i : CueInstance) (pos : Nat) (why : Result) (s : State) : State :=
  raise { instEvent .actionFault i with aux1 := .ofNat 16 pos, reason := .ofNat 8 why.code } s

/-- The allocation request of a PLAY action or of the console's PLAY (R66). -/
def PlaySpec.request (p : PlaySpec) (owner : Owner) : AllocReq :=
  { owner := owner, priority := p.priority, dest := .stem p.stem, region := p.region, inWord := p.inWord,
    out := p.out, loop := p.loop, loops := p.loops, group := p.group, stopAtEnd := p.stopAtEnd, level := p.level,
    fadeIn := p.fadeIn }

/-- A PLAY action: a voice for the instance, or VOICE_SHORTAGE (R51, R66, R70). -/
def dispatchPlay (i : CueInstance) (pos : Nat) (p : PlaySpec) (s : State) : State :=
  match allocateScan (p.request (.inst i.id i.cue)) s with
  | some r => r.1
  | none =>
    raise { instEvent .voiceShortage i with aux1 := .ofNat 16 pos, aux2 := .ofNat 16 p.priority } s

/-- The voices of a group in any state but FREE; a RECLAIMING voice counts by its new group (R52). -/
def voicesOfGroup (g : Nat) (s : State) : List VoiceNo :=
  voiceNos.filter fun v => (s.voice v).busy && (s.voice v).group == g

/-- The ids of the instances but one that a predicate picks, in fire order. -/
def otherInsts (id : Nat) (p : CueInstance → Bool) (s : State) : List Nat :=
  (s.seq.instances.filter fun i => i.id != id && p i).map (·.id)

/-- A STOP action; the dispatching instance is excluded from the targets CUE and ALL (R52). R52 gives no order among the
voices of a GROUP: that they are stopped in voice-number order, whatever their owners, is a DESIGN CHOICE (log 23). For
the other targets log 13 gives the order. -/
def dispatchStop (i : CueInstance) (target : StopTarget) (t : Nat) (s : State) : State :=
  match target with
  | .group g => stopVoices (voicesOfGroup g s) t s
  | .cue n => reachInsts t (otherInsts i.id (fun j => j.cue == n) s) s
  | .all => stopVoices (orphans s) t (reachInsts t (otherInsts i.id (fun _ => true) s) s)

/-- A VOICE FADE reaches one voice (R86). With stop-at-end the Stream Engine attaches STOP VOICE to its fade (R91). Whether
the Cue Sequencer or the Stream Engine posts a fade without stop-at-end the rules do not say: that it is the Stream
Engine is a DESIGN CHOICE (log 28). -/
def fadeOneVoice (level : Level) (t : Nat) (stopAtEnd : Bool) (v : VoiceNo) (s : State) : State :=
  let plain : Post := { target := .voice v, goal := level, time := t, action := .nothing, poster := .stream }
  if stopAtEnd then
    match (s.voice v).state with
    | .starting _ => freeAndCheck v s
    | .playing => if t = 0 then startRamp v s else postStopFade { plain with action := .stopVoice } v s
    | .starved => if t = 0 then startRamp v s else postStopFade { plain with action := .stopVoice } v s
    | _ => s
  else
    match (s.voice v).state with
    | .starting _ => post plain (s.setVoice v { s.voice v with state := .starting none })
    | .playing => post plain s
    | .starved => post plain s
    | _ => s

/-- The voices of a group that a VOICE FADE reaches: STARTING, PLAYING or STARVED (R86). -/
def fadeableVoices (g : Nat) (s : State) : List VoiceNo :=
  voiceNos.filter fun v => (s.voice v).group == g &&
    match (s.voice v).state with
    | .starting _ => true
    | .playing => true
    | .starved => true
    | _ => false

/-- A VOICE FADE action, in voice-number order (R86). -/
def dispatchVoiceFade (g : Nat) (level : Level) (t : Nat) (stopAtEnd : Bool) (s : State) : State :=
  (fadeableVoices g s).foldl (fun s v => fadeOneVoice level t stopAtEnd v s) s

/-- The post of a crosspoint fade. -/
def crosspointPost (i : SourceNo) (o : OutputNo) (l : Level) (t : Nat) (by_ : Poster) : Post :=
  { target := .crosspoint i o, goal := l, time := t, action := .nothing, poster := by_ }

/-- The post of a trim fade. -/
def trimPost (o : OutputNo) (l : Level) (t : Nat) (by_ : Poster) : Post :=
  { target := .trim o, goal := l, time := t, action := .nothing, poster := by_ }

/-- A SCENE's entries are posted in entry order (R98). -/
def postScene (entries : List SceneEntry) (t : Nat) (s : State) : State :=
  entries.foldl (fun s e => post (crosspointPost e.source e.output e.level t .sequencer) s) s

/-- Why a mode may not be given to an output, if it may not (R129): it is not FOLDBACK, or it would follow an output
that is not MAIN. -/
def modeFault (o : OutputNo) (m : FoldMode) (s : State) : Option Result :=
  if s.mix.classes[o] ≠ .foldback then some .notFoldback
  else match m with
    | .independent => none
    | .follow m => if s.mix.classes[m] ≠ .main then some .badReference else none

/-- Writes the mode of an output (R129). -/
def setMode (o : OutputNo) (m : FoldMode) (s : State) : State :=
  { s with foldback := { s.foldback with modes := s.foldback.modes.set o m } }

/-- A CALL action: skipped when a zone is absent, dropped when the queue is full, accepted otherwise (R147). -/
def dispatchCall (i : CueInstance) (pos : Nat) (c : CallSpec) (s : State) : State :=
  if (absentZone c.zones s).isSome then actionFault i pos .noSuchZone s
  else if Config.maxWaiting ≤ waitingCount s then
    raise { instEvent .callDropped i with aux1 := .ofNat 16 pos, reason := .ofNat 8 Result.queueFull.code } s
  else
    (acceptCall (newCall c.priority (.recorded c.region c.inWord c.out) c.zones c.page c.depth
      (.cue i.id i.cue pos)) s).1

/-- Hands one action to the block that owns its target (R51). -/
def dispatchAction (i : CueInstance) (pos : Nat) (a : Action) (s : State) : State :=
  match a with
  | .play p => dispatchPlay i pos p s
  | .stop target t => dispatchStop i target t s
  | .voiceFade g l t e => dispatchVoiceFade g l t e s
  | .level src o l t => post (crosspointPost src o l t .sequencer) s
  | .scene id t =>
    match sceneOf id s with
    | some sc => postScene sc.entries t s
    | none => actionFault i pos .noSuchScene s
  | .trim o l t => post (trimPost o l t .sequencer) s
  | .foldbackMode o m =>
    match modeFault o m s with
    | some why => actionFault i pos why s
    | none => setMode o m s
  | .call c => dispatchCall i pos c s

/-- Hands over actions in list order; the first stands at position `pos` (R50). -/
def dispatchFrom (i : CueInstance) : Nat → List Action → State → State
  | _, [], s => s
  | pos, a :: as, s => dispatchFrom i (pos + 1) as (dispatchAction i pos a s)

/-- The action list of a cue as the store holds it at the dispatch (R50). -/
def actionsOf (n : CueNum) (s : State) : List Action :=
  match cueOf n s with
  | some c => c.actions
  | none => []

/-- The follow delay of a cue as the store holds it. -/
def followDelayOf (n : CueNum) (s : State) : Nat :=
  match cueOf n s with
  | some c => c.followDelay
  | none => 0

/-- The follow that an instance of a cue captures: the next cue in store order where its trigger is FOLLOW (R54). -/
def capturedFollow (n : CueNum) (s : State) : Option Follow :=
  match cueAfter n s with
  | some c => if c.trigger = .follow then some { cue := c.num, delay := followDelayOf n s } else none
  | none => none

/-- An instance enters RUNNING: CUE_RUNNING, its actions in order, and the capture of a follow (R51, R54). -/
def enterRunning (id : Nat) (s : State) : State :=
  match instOf id s with
  | none => s
  | some i =>
    let t := raise (instEvent .cueRunning i)
      (modifyInst id (fun j => { j with phase := .dispatching, preWait := 0 }) s)
    let t := dispatchFrom i 1 (actionsOf i.cue t) t
    modifyInst id (fun j => { j with phase := .running, follow := capturedFollow i.cue t }) t

/-! ### Chains of fires (R47, R54, R55) -/

/-- The FOLLOW_DROPPED record: aux1 is the major number and aux2 the point of the captured number (R55, R176, log 7). -/
def followDropped (i : CueInstance) (captured : CueNum) : Event :=
  { instEvent .followDropped i with aux1 := .ofNat 16 (major captured), aux2 := .ofNat 16 (point captured) }

/-- A fire that found no room is skipped with CUE_TABLE_FULL (R48). -/
def tableFull (n : CueNum) (cause : Cause) (s : State) : State :=
  raise { kind := .cueTableFull, cue := n, reason := .ofNat 8 cause.code } s

/-- The expiry of an instance's pending follow (R55): it is removed, the instance's end is checked, and the captured
cue, where it is stored with trigger FOLLOW, is fired by `fire`, or else the follow is dropped. -/
def expireFollow (fire : Cue → State → State) (id : Nat) (s : State) : State :=
  match instOf id s with
  | none => s
  | some i =>
    match i.follow with
    | none => s
    | some f =>
      let t := checkEnd id (modifyInst id (fun j => { j with follow := none }) s)
      match cueOf f.cue t with
      | some c =>
        if c.trigger = .follow then
          if hasRoom t then fire c (makeRoom t) else tableFull c.num .follow t
        else raise (followDropped i f.cue) t
      | none => raise (followDropped i f.cue) t

/-- The pending follow's delay of an instance. -/
def followDelay (id : Nat) (s : State) : Option Nat :=
  match instOf id s with
  | some i => i.follow.map (·.delay)
  | none => none

/-- Fires a cue into a table with room (R47). With pre-wait 0 the instance runs at once, and a captured follow of
delay 0 expires at once and fires on (R55). A chain visits each stored cue once, in store order, so `n` above the
number of stored cues is enough. -/
def fireChain : Nat → Cause → Cue → State → State
  | 0, _, _, s => s
  | n + 1, cause, c, s =>
    let id := takeInstId s
    let t := createInst c cause s
    if c.preWait = 0 then
      let t := enterRunning id t
      if followDelay id t = some 0 then checkEnd id (expireFollow (fireChain n .follow) id t) else checkEnd id t
    else t

/-- Fires a cue into a table with room, by any cause (R47). -/
def fireCue (cause : Cause) (c : Cue) (s : State) : State := fireChain (s.store.cues.length + 1) cause c s

/-- The end of a pre-wait (R49): the instance runs, and a captured follow of delay 0 expires at once. -/
def runInst (id : Nat) (s : State) : State :=
  let t := enterRunning id s
  if followDelay id t = some 0 then checkEnd id (expireFollow (fireCue .follow) id t) else checkEnd id t

/-! ### Markers (R56) -/

/-- Fires one marker cue, or skips it where the table has no room (R48, R56). -/
def fireMarkerCue (c : Cue) (s : State) : State :=
  if hasRoom s then fireCue .marker c (makeRoom s) else tableFull c.num .marker s

/-- The stored cues whose trigger is MARKER(source, id), in store order (R56). -/
def markerCues (source : CueNum) (id : Byte) (s : State) : List Cue :=
  s.store.cues.filter fun c => c.trigger == .marker source id

/-- The MARKER record: the voice, the marker id and, where the owner is an instance, its id and cue number (R56). -/
def markerEvent (v : VoiceNo) (id : Byte) (o : Owner) : Event :=
  let e : Event := { kind := .marker, voice := .ofNat 8 v.val, aux1 := .ofNat 16 id.toNat }
  match o with
  | .inst i c => { e with inst := .ofNat 8 i, cue := c }
  | _ => e

/-- A marker that a voice reports: MARKER is raised, and a PLAYING voice owned by an instance fires the cues that the
marker triggers, in store order (R56). -/
def reportMarker (v : VoiceNo) (id : Byte) (s : State) : State :=
  let x := s.voice v
  let t := raise (markerEvent v id x.owner) s
  match x.state, x.owner with
  | .playing, .inst _ c => (markerCues c id t).foldl (fun s q => fireMarkerCue q s) t
  | _, _ => t

end Sys2Proof.Machine
end

