-- ==== Sys2Proof/Machine/LevelCmds.lean ====
section
/-! DEFINITION. The live level controls and reads of chapter 5: SET LEVEL (R99), SET TRIM (R100), READ LEVELS (R101,
R138), the effective levels of an output (R111, R128), and the completion of a fade (R84, R95). -/

namespace Sys2Proof.Machine

/-! ### Effective levels (R104, R111, R128) -/

/-- The output whose column of crosspoints an output uses: itself, or the one that it follows (R128). -/
def columnOf (s : State) (o : OutputNo) : OutputNo :=
  match s.foldback.modes[o] with
  | .follow m => m
  | .independent => o

/-- The effective level of a source on an output: the crosspoint of a MAIN or RELAY output (R111); on a FOLDBACK output
the crosspoint of its mode's column plus the monitor offset (R128). -/
def effective (s : State) (i : SourceNo) (o : OutputNo) : Level :=
  match s.mix.classes[o] with
  | .foldback => ((s.mix.xpts[columnOf s o][i]).add (.db (s.foldback.offsets[o][i]))).toDomain
  | _ => (s.mix.xpts[o][i]).toDomain

/-! ### SET LEVEL and SET TRIM (R99, R100) -/

/-- Whether MONITOR is refused an output: its class is not FOLDBACK (R99, R100, R116). -/
def monitorRefused (l : Role) (o : OutputNo) (s : State) : Bool :=
  l == .monitor && s.mix.classes[o] != .foldback

/-- The answer of an accepted level control: level and time after clamping, and the case of R92. -/
def acceptFade (p : Post) (s : State) : State × Reply :=
  let r := postFade p s
  acceptWith (lv p.goal ++ u32 p.time ++ u8 r.2.code) r.1

/-- SET LEVEL (R99). -/
def setLevelBody (l : Role) (source output : Byte) (level : Half) (time : Word) (s : State) : State × Reply :=
  if s.store.state = .loading then refuse .loading s
  else match index? 40 source.toNat, index? 32 output.toNat with
    | some i, some o =>
      if monitorRefused l o s then refuse .notPermitted s
      else acceptFade (crosspointPost i o (clampLevel (-960) 100 (levelOfBits level)) (clampTime time) (.link l)) s
    | _, _ => refuse .badField s

/-- SET LEVEL (R99). -/
def execSetLevel (l : Role) (tag source output : Byte) (level : Half) (time : Word) (s : State) :
    Host.Outcome State Fault Refusal :=
  .next (serve l 0x40 tag (setLevelBody l source output level time) s)

/-- SET TRIM (R100). -/
def setTrimBody (l : Role) (output : Byte) (level : Half) (time : Word) (s : State) : State × Reply :=
  if s.store.state = .loading then refuse .loading s
  else match index? 32 output.toNat with
    | some o =>
      if monitorRefused l o s then refuse .notPermitted s
      else acceptFade (trimPost o (clampLevel (-960) 100 (levelOfBits level)) (clampTime time) (.link l)) s
    | none => refuse .badField s

/-- SET TRIM (R100). -/
def execSetTrim (l : Role) (tag output : Byte) (level : Half) (time : Word) (s : State) :
    Host.Outcome State Fault Refusal :=
  .next (serve l 0x41 tag (setTrimBody l output level time) s)

/-! ### READ LEVELS (R101, R138) -/

/-- A fade field of 12 bytes: 0 throughout where no entry stands (R101, R178). -/
def fadeField (t : FadeTarget) (s : State) : List Byte :=
  match fadeFor t s with
  | some e => flag true ++ lv e.goal ++ u32 e.k ++ u32 e.n ++ u8 e.poster.code
  | none => List.replicate 12 0

/-- The sources in order. -/
def sourceNos : List SourceNo := List.finRange 40

/-- The last end of talk: cause and time, 0 where there is none (R135, R178). -/
def talkEndBytes (s : State) : List Byte :=
  match s.foldback.lastEnd with
  | some e => u8 e.cause.code ++ bytes32 e.time
  | none => u8 0 ++ u32 0

/-- Whether an output is in the talk set (R138). -/
def inTalkSet (s : State) (o : OutputNo) : Bool :=
  match s.foldback.talk with
  | some t => t.set.getLsbD o.val
  | none => false

/-- The foldback part of the levels block (R138, R178). -/
def foldbackLevels (s : State) (o : OutputNo) : List Byte :=
  let used := s.mix.classes[o] == .foldback
  flag used ++ u8 (s.foldback.modes[o]).code ++ u8 (s.foldback.modes[o]).main ++
  sourceNos.flatMap (fun i => i16 (s.foldback.offsets[o][i])) ++ i16 (s.foldback.ceilings[o]) ++
  sourceNos.flatMap (fun i => if used then lv (effective s i o) else u16 0) ++ flag (inTalkSet s o) ++
  flag s.foldback.talk.isSome ++ talkEndBytes s

/-- The number of an existing zone as a zone number. -/
def zoneNo (n : Nat) : ZoneNo := Fin.ofNat 16 n

/-- The relay part of the levels block: the zone that the output feeds (R101, R178). -/
def relayLevels (s : State) (o : OutputNo) : List Byte :=
  match zoneOfOutput s o with
  | none => List.replicate 18 0
  | some n =>
    match s.relay.zones[n]? with
    | none => List.replicate 18 0
    | some zn => flag true ++ u8 n ++ i16 zn.leveler ++ i16 zn.duck ++ fadeField (.duck (zoneNo n)) s

/-- The levels block (R101, R178). -/
def levelsBlock (s : State) (o : OutputNo) : List Byte :=
  u8 o.val ++ u8 (s.mix.classes[o]).code ++ lv s.mix.trims[o] ++ fadeField (.trim o) s ++
  sourceNos.flatMap (fun i => lv (s.mix.xpts[o][i]) ++ fadeField (.crosspoint i o) s) ++
  lv s.showStop.mute ++ fadeField .stopMute s ++ u16 s.fades.length ++ foldbackLevels s o ++ relayLevels s o

/-- READ LEVELS (R101). -/
def execReadLevels (l : Role) (tag output : Byte) (s : State) : Host.Outcome State Fault Refusal :=
  .next (serve l 0x42 tag (fun s =>
    match index? 32 output.toNat with
    | some o => acceptWith (levelsBlock s o) s
    | none => refuse .badField s) s)

/-! ### The completion of a fade (R84, R95) -/

/-- The completion action STOP VOICE: FREE at OFF, the declick ramp otherwise (R84). -/
def stopVoiceCompletion (v : VoiceNo) (s : State) : State :=
  if (s.voice v).level = .off then ownerLost (s.voice v).owner .voiceStopped (freeVoice v s) else startRamp v s

/-- The completion action of an entry (R95). -/
def runCompletion (e : FadeEntry) (s : State) : State :=
  match e.action, e.target with
  | .nothing, _ => s
  | .stopVoice, .voice v => stopVoiceCompletion v s
  | .stopVoice, _ => s
  | .duckReleased, .duck z => duckReleased z s
  | .duckReleased, _ => s

/-- The last step of an entry that is due: its target takes the goal, the entry leaves the list, and its completion
action and report are run (R94, R95). -/
def completeFade (t : FadeTarget) (s : State) : State :=
  match fadeFor t s with
  | some e =>
    if e.due then reportTarget t (runCompletion e (removeFade t (setLevel t e.goal s))) else s
  | none => s

/-- FADE_COMPLETE (R95). -/
def execFadeComplete (target : FadeTarget) (s : State) : Host.Outcome State Fault Refusal :=
  .next (occur (completeFade target) s)

end Sys2Proof.Machine
end

