-- ==== Sys2Proof/Machine/MixCmds.lean ====
section
/-! DEFINITION. The Mix Matrix's commands (chapter 6): BLANK and OPEN (R116), the end of a blanking ramp (R117), READ
METERS (R120), SET REFERENCE (R124) and the events of the clock reference (R122, R123). -/

namespace Sys2Proof.Machine

/-! ### Blanking (R116, R117) -/

/-- The blanking state after BLANK (R116). -/
def Blanking.close : Blanking → Blanking
  | .opened => .closing 0
  | .closing c => .closing c
  | .blanked => .blanked
  | .opening p => if p = 0 then .blanked else .closing (Config.rampFrames - p)

/-- The blanking state after OPEN (R116). -/
def Blanking.reopen : Blanking → Blanking
  | .opened => .opened
  | .closing c => if c = 0 then .opened else .opening (Config.rampFrames - c)
  | .blanked => .opening 0
  | .opening p => .opening p

/-- Writes the blanking state of an output. -/
def setBlanking (o : OutputNo) (b : Blanking) (s : State) : State :=
  { s with mix := { s.mix with blanking := s.mix.blanking.set o b } }

/-- BLANK and OPEN: the checks of R116, then the change of state. -/
def blankingBody (f : Blanking → Blanking) (l : Role) (output : Byte) (s : State) : State × Reply :=
  match index? 32 output.toNat with
  | none => refuse .badField s
  | some o =>
    if monitorRefused l o s then refuse .notPermitted s
    else
      let b := f s.mix.blanking[o]
      acceptWith (u8 b.code ++ u8 b.pos) (setBlanking o b s)

/-- BLANK (R116). -/
def execBlank (l : Role) (tag output : Byte) (s : State) : Host.Outcome State Fault Refusal :=
  .next (serve l 0x48 tag (blankingBody Blanking.close l output) s)

/-- OPEN (R116). -/
def execOpenOutput (l : Role) (tag output : Byte) (s : State) : Host.Outcome State Fault Refusal :=
  .next (serve l 0x49 tag (blankingBody Blanking.reopen l output) s)

/-- The end of a ramp that stands at 240 frames: CLOSING becomes BLANKED and OPENING becomes OPEN. The frame that takes
a ramp to 240 has ended it already, so no run reaches such a position (R117, log 14). -/
def Blanking.ended : Blanking → Blanking
  | .closing c => if Config.rampFrames ≤ c then .blanked else .closing c
  | .opening p => if Config.rampFrames ≤ p then .opened else .opening p
  | b => b

/-- BLANKING_RAMP_END (R117). -/
def execBlankingRampEnd (o : OutputNo) (s : State) : Host.Outcome State Fault Refusal :=
  .next (occur (fun s => setBlanking o (s.mix.blanking[o]).ended s) s)

/-! ### READ METERS (R120) -/

/-- The outputs in order. -/
def outputNos : List OutputNo := List.finRange 32

/-- One output of the meters block (R178). -/
def meterBytes (s : State) (o : OutputNo) : List Byte :=
  u8 (s.mix.classes[o]).code ++ u8 (s.mix.blanking[o]).code ++ u8 (s.mix.blanking[o]).pos ++
  u32 (s.mix.meters[o]).peak ++ u16 (s.mix.meters[o]).clips

/-- The meters block (R120, R178). -/
def metersBlock (s : State) : List Byte :=
  outputNos.flatMap (meterBytes s) ++ s.stream.stemSat.toList.flatMap u16

/-- Meters just read. -/
def Meter.cleared : Meter := { peak := 0, clips := 0, reported := false }

/-- Every peak, clip count and stem saturation count becomes 0 and every clip reported clears (R120). -/
def clearMeters (s : State) : State :=
  { s with mix := { s.mix with meters := Vector.replicate 32 Meter.cleared },
           stream := { s.stream with stemSat := Vector.replicate 24 0 } }

/-- READ METERS (R120). -/
def execReadMeters (l : Role) (tag : Byte) (s : State) : Host.Outcome State Fault Refusal :=
  .next (serve l 0x4A tag (fun s => acceptWith (metersBlock s) (clearMeters s)) s)

/-! ### The clock reference (R122 to R124) -/

/-- `f` on the clock reference. -/
def modifyClock (f : ClockRef → ClockRef) (s : State) : State :=
  { s with mix := { s.mix with clock := f s.mix.clock } }

/-- SET REFERENCE EXTERNAL: from INTERNAL to ACQUIRING, with qualification beginning at 0; no change elsewhere
(R122). -/
def ClockRef.external (c : ClockRef) : ClockRef :=
  match c.state with
  | .internal => { c with state := .acquiring, qualified := 0 }
  | _ => c

/-- SET REFERENCE INTERNAL: the state becomes INTERNAL, and the frames after the one in progress run from the internal
oscillator (R122, R124). -/
def ClockRef.internal (c : ClockRef) : ClockRef :=
  match c.state with
  | .internal => c
  | _ => { c with state := .internal, qualified := 0, holdRate := none }

/-- SET REFERENCE (R124). -/
def setReferenceBody (value : Byte) (s : State) : State × Reply :=
  match value.toNat with
  | 0 =>
    let t := modifyClock ClockRef.internal s
    acceptWith (u8 t.mix.clock.state.code) t
  | 1 =>
    let t := modifyClock ClockRef.external s
    acceptWith (u8 t.mix.clock.state.code) t
  | _ => refuse .badField s

/-- SET REFERENCE (R124). -/
def execSetReference (l : Role) (tag value : Byte) (s : State) : Host.Outcome State Fault Refusal :=
  .next (serve l 0x4B tag (setReferenceBody value) s)

/-- The clock reference after a loss: qualification restarts, and EXTERNAL LOCKED becomes HOLDOVER at the rate kept
(R122, R123). -/
def ClockRef.lost (rate : Nat) (c : ClockRef) : ClockRef :=
  match c.state with
  | .locked =>
    { c with state := .holdover, present := false, qualified := 0, holdRate := some rate, pacer := .heldRate }
  | _ => { c with present := false, qualified := 0 }

/-- The reference is lost; REF_LOST is raised where the state was EXTERNAL LOCKED (R122). -/
def loseReference (rate : Nat) (s : State) : State :=
  let t := modifyClock (ClockRef.lost rate) s
  if s.mix.clock.state = .locked then raise { kind := .refLost } t else t

/-- REFERENCE_LOST (R122, R123). -/
def execReferenceLost (rate : Nat) (s : State) : Host.Outcome State Fault Refusal :=
  .next (occur (loseReference rate) s)

/-- Whether lock is achieved: the state qualifies, and qualification has counted 1,000 ms (R123). -/
def ClockRef.lockable (c : ClockRef) : Bool :=
  c.present && decide (Config.lockMs ≤ c.qualified) &&
    match c.state with
    | .acquiring => true
    | .holdover => true
    | _ => false

/-- Lock: EXTERNAL LOCKED, with the frame in progress being aligned to a reference edge (R122, R123). -/
def ClockRef.lock (c : ClockRef) : ClockRef :=
  { c with state := .locked, qualified := 0, holdRate := none, aligning := true }

/-- Lock is achieved and REF_LOCKED is raised (R122, R123). -/
def achieveLock (s : State) : State :=
  if s.mix.clock.lockable then raise { kind := .refLocked } (modifyClock ClockRef.lock s) else s

/-- LOCK_ACHIEVED (R123). -/
def execLockAchieved (s : State) : Host.Outcome State Fault Refusal := .next (occur achieveLock s)

/-- The reference is present and in range again: qualification restarts at 0 where it had been lost (R123). -/
def ClockRef.found (c : ClockRef) : ClockRef :=
  if c.present then c else { c with present := true, qualified := 0 }

/-- REFERENCE_PRESENT_AND_IN_RANGE (R123). -/
def execReferencePresentAndInRange (s : State) : Host.Outcome State Fault Refusal :=
  .next (occur (modifyClock ClockRef.found) s)

end Sys2Proof.Machine
end

