-- ==== Sys2Proof/Machine/Records.lean ====
section
/-! DEFINITION. The records of R178: cue and scene records, the actions of a cue, the image header and region
entries, read with the field checks of R10, R21, R23 and R25, the word and reference checks of R24, and written as
R36 returns them; and the placing of records in the store (R22, R25). -/

namespace Sys2Proof.Machine

/-! ### Bits of a word -/

/-- The bits `lo` to `lo + n − 1` of a word as a number. -/
def bitsAt (w : Word) (lo n : Nat) : Nat := (w.extractLsb' lo n).toNat

/-- A level in the 16 bits from `lo` upward. -/
def levelAt (w : Word) (lo : Nat) : Level := levelOfBits (w.extractLsb' lo 16)

/-- The value where the condition holds. -/
def check {α : Type} (c : Bool) (a : α) : Option α := if c then some a else none

/-- A time within 0..600,000 ms (R21, R23). -/
def timeOk (t : Word) : Bool := decide (t.toNat ≤ Config.maxTime)

/-! ### Actions (R23, R178) -/

/-- An optional word position: present with its range, or absent (R23). -/
def optionalWord (present : Bool) (w : Word) (lo hi : Nat) : Option (Option Nat) :=
  if present then check (decide (lo ≤ w.toNat ∧ w.toNat ≤ hi)) (some w.toNat) else some none

/-- The fields of a PLAY action; bit 0 of A0 has no meaning and must be 0 (log 10). -/
def readPlay (w : ActionWords) : Option PlaySpec := do
  let stem ← index? 24 (bitsAt w.a0 8 8)
  let out ← optionalWord (w.a0.getLsbD 1) w.a3 1 Config.memoryWords
  let loop ← optionalWord (w.a0.getLsbD 2) w.a4 0 (Config.memoryWords - 1)
  check (!w.a0.getLsbD 0 && decide (bitsAt w.a0 4 4 ≤ 2) && (levelAt w.a1 16).within (-960) 0 &&
      decide (w.a2.toNat < Config.memoryWords) && timeOk w.a5)
    { region := bitsAt w.a1 0 10, inWord := w.a2.toNat, out := out, loop := loop, loops := bitsAt w.a0 16 8,
      stem := stem, priority := bitsAt w.a0 4 4, level := levelAt w.a1 16, fadeIn := w.a5.toNat,
      group := bitsAt w.a1 10 6, stopAtEnd := w.a0.getLsbD 3 }

/-- The target of a STOP action; the fields of the other targets are not read. -/
def readStopTarget (w : ActionWords) : Option StopTarget :=
  match bitsAt w.a0 8 8 with
  | 0 => check (decide (1 ≤ bitsAt w.a0 0 8 ∧ bitsAt w.a0 0 8 ≤ 63)) (.group (bitsAt w.a0 0 8))
  | 1 => check (validCueNum (w.a1.extractLsb' 8 24) && bitsAt w.a1 0 8 == 0) (.cue (w.a1.extractLsb' 8 24))
  | 2 => some .all
  | _ => none

/-- A STOP action. -/
def readStop (w : ActionWords) : Option Action := do
  let target ← readStopTarget w
  check (bitsAt w.a0 16 8 == 0 && timeOk w.a2) (.stop target w.a2.toNat)

/-- A VOICE FADE action. -/
def readVoiceFade (w : ActionWords) : Option Action :=
  check (bitsAt w.a0 9 15 == 0 && decide (1 ≤ bitsAt w.a0 0 8 ∧ bitsAt w.a0 0 8 ≤ 63) && bitsAt w.a1 16 16 == 0 &&
      (levelAt w.a1 0).within (-960) 0 && timeOk w.a2)
    (.voiceFade (bitsAt w.a0 0 8) (levelAt w.a1 0) w.a2.toNat (w.a0.getLsbD 8))

/-- A LEVEL action. -/
def readLevel (w : ActionWords) : Option Action := do
  let source ← index? 40 (bitsAt w.a1 8 8)
  let output ← index? 32 (bitsAt w.a1 0 8)
  check ((levelAt w.a1 16).within (-960) 100 && timeOk w.a2) (.level source output (levelAt w.a1 16) w.a2.toNat)

/-- A SCENE action. -/
def readSceneAction (w : ActionWords) : Option Action :=
  check (decide (1 ≤ w.a1.toNat ∧ w.a1.toNat ≤ 999) && timeOk w.a2) (.scene w.a1.toNat w.a2.toNat)

/-- A TRIM action. -/
def readTrim (w : ActionWords) : Option Action := do
  let output ← index? 32 (bitsAt w.a1 0 8)
  check (bitsAt w.a1 8 8 == 0 && (levelAt w.a1 16).within (-960) 100 && timeOk w.a2)
    (.trim output (levelAt w.a1 16) w.a2.toNat)

/-- A foldback mode with its main output (R129, R178); the main output of INDEPENDENT is not read. -/
def modeOf (mode main : Nat) : Option FoldMode :=
  match mode with
  | 0 => some .independent
  | 1 => (index? 32 main).map .follow
  | _ => none

/-- A FOLDBACK MODE action. -/
def readModeAction (w : ActionWords) : Option Action := do
  let output ← index? 32 (bitsAt w.a1 8 8)
  let mode ← modeOf (bitsAt w.a1 0 8) (bitsAt w.a1 16 8)
  check (bitsAt w.a1 24 8 == 0) (.foldbackMode output mode)

/-- A CALL action. -/
def readCallAction (w : ActionWords) : Option Action := do
  let out ← optionalWord (w.a0.getLsbD 1) w.a3 1 Config.memoryWords
  match levelAt w.a5 16 with
  | .off => none
  | .db page =>
    check (bitsAt w.a0 16 8 == 0 && bitsAt w.a0 2 6 == 0 && !w.a0.getLsbD 0 &&
        decide (1 ≤ bitsAt w.a0 8 8 ∧ bitsAt w.a0 8 8 ≤ 3) && bitsAt w.a1 10 22 == 0 &&
        decide (w.a2.toNat < Config.memoryWords) && bitsAt w.a4 16 16 == 0 && w.a4.extractLsb' 0 16 != 0 &&
        decide (-300 ≤ page ∧ page ≤ 60) && decide (bitsAt w.a5 0 16 ≤ 600))
      (.call { region := bitsAt w.a1 0 10, inWord := w.a2.toNat, out := out, zones := w.a4.extractLsb' 0 16,
               priority := bitsAt w.a0 8 8, page := page, depth := bitsAt w.a5 0 16 })

/-- An action, where every field is in the range of R23; words marked — are not read (R178). -/
def readAction (w : ActionWords) : Option Action :=
  match bitsAt w.a0 24 8 with
  | 1 => (readPlay w).map .play
  | 2 => readStop w
  | 3 => readVoiceFade w
  | 4 => readLevel w
  | 5 => readSceneAction w
  | 6 => readTrim w
  | 7 => readModeAction w
  | 8 => readCallAction w
  | _ => none

/-! ### The checks of R24 -/

/-- The word positions of a PLAY or CALL within its region (R24, R71, R146). -/
def wordsFit (len inWord : Nat) (out loop : Option Nat) : Bool :=
  let last := out.getD len
  decide (last ≤ len ∧ inWord < last) &&
    match loop with
    | some l => decide (inWord ≤ l ∧ l < last)
    | none => true

/-- The word checks of an action; they are not made where the region index is not in the table (R24). -/
def wordCheck (regions : List Region) : Action → Bool
  | .play p => match regions[p.region]? with
    | some r => wordsFit r.len p.inWord p.out p.loop
    | none => true
  | .call c => match regions[c.region]? with
    | some r => wordsFit r.len c.inWord c.out none
    | none => true
  | _ => true

/-- The reference checks of an action: its region is in the table and its scene is stored (R24). -/
def referenceCheck (regions : List Region) (scenes : List Scene) : Action → Bool
  | .play p => decide (p.region < regions.length)
  | .call c => decide (c.region < regions.length)
  | .scene id _ => scenes.any fun sc => sc.id == id
  | _ => true

/-- The position, from `pos` on, of the first action that fails a check. -/
def firstFailing (ok : Action → Bool) : Nat → List Action → Option Nat
  | _, [] => none
  | pos, a :: as => if ok a then firstFailing ok (pos + 1) as else some pos

/-! ### Cue records (R21, R178) -/

/-- Reads the actions of a record, six words each, with their word checks; an error names the position (R30). -/
def readActions (regions : List Region) : Nat → List Word → Except Nat (List Action)
  | pos, a0 :: a1 :: a2 :: a3 :: a4 :: a5 :: rest =>
    match readAction ⟨a0, a1, a2, a3, a4, a5⟩ with
    | none => .error pos
    | some a =>
      if wordCheck regions a then
        match readActions regions (pos + 1) rest with
        | .ok as => .ok (a :: as)
        | .error e => .error e
      else .error pos
  | _, _ => .ok []

/-- The trigger of a record; word 2 is read for MARKER only (R178). -/
def readTrigger (code : Nat) (w2 : Word) : Option Trigger :=
  match code with
  | 0 => some .go
  | 1 => some .follow
  | 2 => check (validCueNum (w2.extractLsb' 8 24)) (.marker (w2.extractLsb' 8 24) (w2.extractLsb' 0 8))
  | _ => none

/-- Whether a byte is a printable character of a label (R21). -/
def printable (b : Byte) : Bool := decide (0x20 ≤ b.toNat ∧ b.toNat ≤ 0x7E)

/-- A label of a stated length in its 24 bytes; the unused bytes are 0 (R21, R178). -/
def readLabel (len : Nat) (field : List Byte) : Option (List Byte) :=
  check (decide (len ≤ Config.maxLabel) && (field.take len).all printable && (field.drop len).all (· == 0))
    (field.take len)

/-- The fields of a cue record other than its actions. -/
def readCueHead (w0 w1 w2 w3 w4 : Word) (label : List Byte) : Option Cue := do
  let trigger ← readTrigger (bitsAt w0 8 8) w2
  let label ← readLabel (bitsAt w1 0 8) label
  check (validCueNum (w1.extractLsb' 8 24) && timeOk w3 && timeOk w4)
    { num := w1.extractLsb' 8 24, label := label, trigger := trigger, preWait := w3.toNat, followDelay := w4.toNat,
      actions := [] }

/-- Whether a cue record's stated length is the one that its action count gives, with at most 32 actions, and is the
number of its words (R12, R178). -/
def cueLengthOk (words : List Word) : Bool :=
  match words with
  | [] => false
  | w0 :: _ => bitsAt w0 16 16 == 11 + 6 * bitsAt w0 0 8 && decide (bitsAt w0 0 8 ≤ Config.maxCueActions) &&
    bitsAt w0 16 16 == words.length

/-- Reads a cue record with its field and word checks; an error names the failing item, 0 for the record itself and
1..32 for an action (R21, R23, R24, R30). -/
def readCueRecord (regions : List Region) (words : List Word) : Except Nat Cue :=
  if cueLengthOk words then
    match words with
    | w0 :: w1 :: w2 :: w3 :: w4 :: rest =>
      match readCueHead w0 w1 w2 w3 w4 (bytesOfWords (rest.take 6)) with
      | none => .error 0
      | some c =>
        match readActions regions 1 (rest.drop 6) with
        | .ok as => .ok { c with actions := as }
        | .error e => .error e
    | _ => .error 0
  else .error 0

/-! ### Scene records (R25, R178) -/

/-- One entry of a scene record. -/
def readEntry (w : Word) : Option SceneEntry := do
  let source ← index? 40 (bitsAt w 24 8)
  let output ← index? 32 (bitsAt w 16 8)
  check ((levelAt w 0).within (-960) 100) { source := source, output := output, level := levelAt w 0 }

/-- Reads the entries of a scene; an error names the position. A repeated pair fails at the later entry (log 17). -/
def readEntries (seen : List SceneEntry) : Nat → List Word → Except Nat (List SceneEntry)
  | _, [] => .ok []
  | pos, w :: ws =>
    match readEntry w with
    | none => .error pos
    | some e =>
      if seen.any (fun d => d.source == e.source && d.output == e.output) then .error pos
      else match readEntries (e :: seen) (pos + 1) ws with
        | .ok es => .ok (e :: es)
        | .error p => .error p

/-- Whether a scene record's stated length is 2 plus its entry count and is the number of its words (R12, R178). -/
def sceneLengthOk (words : List Word) : Bool :=
  match words with
  | [] => false
  | w0 :: _ => bitsAt w0 16 16 == 2 + bitsAt w0 0 16 && bitsAt w0 16 16 == words.length

/-- Reads a scene record with its field checks; an error names the failing item, 0 for the record itself (R25, R33). -/
def readSceneRecord (words : List Word) : Except Nat Scene :=
  if sceneLengthOk words then
    match words with
    | w0 :: w1 :: rest =>
      if 1 ≤ bitsAt w0 0 16 ∧ bitsAt w0 0 16 ≤ Config.maxSceneEntries ∧ 1 ≤ w1.toNat ∧ w1.toNat ≤ 999 then
        match readEntries [] 1 rest with
        | .ok es => .ok { id := w1.toNat, entries := es }
        | .error e => .error e
      else .error 0
    | _ => .error 0
  else .error 0

/-! ### Writing records (R36, R178) -/

/-- One bit as a number. -/
def bit (b : Bool) : Nat := if b then 1 else 0

/-- Two half words as a word. -/
def wordOf16 (hi lo : Nat) : Word := BitVec.ofNat 16 hi ++ BitVec.ofNat 16 lo

/-- Four bytes as a word. -/
def wordOf8 (a b c d : Nat) : Word := BitVec.ofNat 8 a ++ BitVec.ofNat 8 b ++ BitVec.ofNat 8 c ++ BitVec.ofNat 8 d

/-- A level in bits 31-16 above a half word. -/
def levelOver (l : Level) (lo : Nat) : Word := l.bits ++ BitVec.ofNat 16 lo

/-- The six words of an action, with 0 in everything that its kind does not use. -/
def Action.words : Action → ActionWords
  | .play p =>
    { a0 := wordOf8 1 p.loops p.stem.val
        (16 * p.priority + 8 * bit p.stopAtEnd + 4 * bit p.loop.isSome + 2 * bit p.out.isSome),
      a1 := levelOver p.level (1024 * p.group + p.region), a2 := .ofNat 32 p.inWord,
      a3 := .ofNat 32 (p.out.getD 0), a4 := .ofNat 32 (p.loop.getD 0), a5 := .ofNat 32 p.fadeIn }
  | .stop (.group g) t => { a0 := wordOf8 2 0 0 g, a1 := 0, a2 := .ofNat 32 t, a3 := 0, a4 := 0, a5 := 0 }
  | .stop (.cue n) t => { a0 := wordOf8 2 0 1 0, a1 := n ++ (0 : Byte), a2 := .ofNat 32 t, a3 := 0, a4 := 0, a5 := 0 }
  | .stop .all t => { a0 := wordOf8 2 0 2 0, a1 := 0, a2 := .ofNat 32 t, a3 := 0, a4 := 0, a5 := 0 }
  | .voiceFade g l t e =>
    { a0 := wordOf8 3 0 (bit e) g, a1 := (0 : Half) ++ l.bits, a2 := .ofNat 32 t, a3 := 0, a4 := 0, a5 := 0 }
  | .level i o l t =>
    { a0 := wordOf8 4 0 0 0, a1 := levelOver l (256 * i.val + o.val), a2 := .ofNat 32 t, a3 := 0, a4 := 0, a5 := 0 }
  | .scene id t => { a0 := wordOf8 5 0 0 0, a1 := .ofNat 32 id, a2 := .ofNat 32 t, a3 := 0, a4 := 0, a5 := 0 }
  | .trim o l t =>
    { a0 := wordOf8 6 0 0 0, a1 := levelOver l o.val, a2 := .ofNat 32 t, a3 := 0, a4 := 0, a5 := 0 }
  | .foldbackMode o m =>
    { a0 := wordOf8 7 0 0 0, a1 := wordOf8 0 m.main o.val m.code, a2 := 0, a3 := 0, a4 := 0, a5 := 0 }
  | .call c =>
    { a0 := wordOf8 8 0 c.priority (2 * bit c.out.isSome), a1 := .ofNat 32 c.region, a2 := .ofNat 32 c.inWord,
      a3 := .ofNat 32 (c.out.getD 0), a4 := (0 : Half) ++ c.zones,
      a5 := (BitVec.ofInt 16 c.page) ++ BitVec.ofNat 16 c.depth }

/-- The six words of an action in order. -/
def actionWordList (w : ActionWords) : List Word := [w.a0, w.a1, w.a2, w.a3, w.a4, w.a5]

/-- The code of a trigger. -/
def Trigger.code : Trigger → Nat
  | .go => 0
  | .follow => 1
  | .marker _ _ => 2

/-- Word 2 of a cue record. -/
def Trigger.word : Trigger → Word
  | .marker c id => c ++ id
  | _ => 0

/-- A label in its 24 bytes. -/
def labelField (label : List Byte) : List Byte := label ++ List.replicate (Config.maxLabel - label.length) 0

/-- The words of a cue record, in the layout of the PUT CUE payload (R36, R178). -/
def Cue.words (c : Cue) : List Word :=
  [wordOf16 (11 + 6 * c.actions.length) (256 * c.trigger.code + c.actions.length),
   c.num ++ BitVec.ofNat 8 c.label.length, c.trigger.word, .ofNat 32 c.preWait, .ofNat 32 c.followDelay] ++
  (wordsOfBytes (labelField c.label)).getD [] ++ c.actions.flatMap fun a => actionWordList a.words

/-- The word of a scene entry. -/
def SceneEntry.word (e : SceneEntry) : Word :=
  BitVec.ofNat 8 e.source.val ++ BitVec.ofNat 8 e.output.val ++ e.level.bits

/-- The words of a scene record, in the layout of the PUT SCENE payload (R36, R178). -/
def Scene.words (sc : Scene) : List Word :=
  [wordOf16 (2 + sc.entries.length) sc.entries.length, .ofNat 32 sc.id] ++ sc.entries.map SceneEntry.word

/-! ### The image header and region entries (R10, R11, R178) -/

/-- The class field of an output in words 1 to 4: four bits each, O0 in bits 31-28 of word 1. -/
def classField (words : List Word) (o : Nat) : Nat :=
  bitsAt (words.getD (1 + o / 8) 0) (28 - 4 * (o % 8)) 4

/-- The output classes of a header, where each is one of the four. -/
def readClasses (words : List Word) : Option (Vector OutClass 32) :=
  if (List.range 32).all (fun o => (classOf (classField words o)).isSome) then
    some (tabulate 32 fun o => (classOf (classField words o.val)).getD .unused)
  else none

/-- How many outputs have a class. -/
def classCount (classes : Vector OutClass 32) (c : OutClass) : Nat := classes.toList.countP (· == c)

/-- The header of the image with its checks in the order of the table of R10. -/
def readHeader (words : List Word) : Except LoadFailure Header :=
  let w := fun i => words.getD i 0
  if bitsAt (w 0) 16 16 ≠ 0x4B31 then .error .badFormat
  else match readClasses words with
    | none => .error .badFormat
    | some classes =>
      let h : Header :=
        { classes := classes, regionCount := bitsAt (w 5) 16 16, sceneCount := bitsAt (w 5) 0 16,
          entryCount := bitsAt (w 6) 16 16, cueCount := bitsAt (w 6) 0 16, actionCount := bitsAt (w 7) 16 16,
          regionOffset := (w 8).toNat, sceneOffset := (w 9).toNat, sceneLen := (w 10).toNat,
          cueOffset := (w 11).toNat, cueLen := (w 12).toNat }
      if Config.maxRelay < classCount classes .relay then .error .tooManyRelay
      else if Config.maxRegions < h.regionCount ∨ Config.maxScenes < h.sceneCount ∨
          Config.maxEntries < h.entryCount ∨ Config.maxCues < h.cueCount ∨ Config.maxActions < h.actionCount then
        .error .overCapacity
      else if Config.memoryWords < h.regionOffset + 2 * h.regionCount ∨
          Config.memoryWords < h.sceneOffset + h.sceneLen ∨ Config.memoryWords < h.cueOffset + h.cueLen then
        .error .pastEnd
      else .ok h

/-- Whether a region entry is valid (R11). -/
def Region.valid (r : Region) : Bool :=
  decide (1 ≤ r.len ∧ r.base + r.len ≤ Config.memoryWords)

/-- Reads region entries, two words each; none where one of them is not valid (R11). -/
def readRegions : List Word → Option (List Region)
  | b :: n :: rest =>
    let r : Region := { base := b.toNat, len := n.toNat }
    if r.valid then (readRegions rest).map (r :: ·) else none
  | _ => some []

/-! ### Placing records (R22, R25) -/

/-- The actions of all cues of a store. -/
def actionTotal (cues : List Cue) : Nat := (cues.map fun c => c.actions.length).sum

/-- The entries of all scenes of a store. -/
def entryTotal (scenes : List Scene) : Nat := (scenes.map fun sc => sc.entries.length).sum

/-- Puts a cue in store order, in place of a cue of the same number (R22). -/
def placeCue (c : Cue) : List Cue → List Cue
  | [] => [c]
  | d :: ds =>
    if c.num.toNat < d.num.toNat then c :: d :: ds
    else if c.num = d.num then c :: ds
    else d :: placeCue c ds

/-- Puts a scene in identifier order, in place of a scene of the same identifier (R25). -/
def placeScene (sc : Scene) : List Scene → List Scene
  | [] => [sc]
  | d :: ds =>
    if sc.id < d.id then sc :: d :: ds
    else if sc.id = d.id then sc :: ds
    else d :: placeScene sc ds

/-- Whether the store with a cue put is within its capacities (R22). -/
def cuesFit (cues : List Cue) : Bool :=
  decide (cues.length ≤ Config.maxCues ∧ actionTotal cues ≤ Config.maxActions)

/-- Whether the store with a scene put is within its capacities (R25). -/
def scenesFit (scenes : List Scene) : Bool :=
  decide (scenes.length ≤ Config.maxScenes ∧ entryTotal scenes ≤ Config.maxEntries)

end Sys2Proof.Machine
end

