-- ==== Sys2Proof/Machine/Audio.lean ====
section
/-! DEFINITION. One frame (AUDIO_FRAME): what each voice takes and delivers (R65, R79, R85), the stems (R87), the program
and the contributions of each output (R113, R114, R151), limiting, ceiling and blanking (R115, R117, R134), the meters
and CLIP (R119), the leveler measure (R142), the gates (R137, R155) and the TDM slots (R121). -/

namespace Sys2Proof.Machine

/-! ### Voices (R65, R79, R85) -/

/-- What a voice delivers in a frame. -/
structure Delivery where
  voice : VoiceNo
  dest : Dest
  sample : Int
  deriving DecidableEq, Repr

/-- While the head of a sounding voice's FIFO is a marker, it is removed, the decoder runs, and the marker is reported
(R76, R79). That the decoder runs before the report, so that its FORMAT_FAULT stands before MARKER, is a DESIGN CHOICE
(log 29). Reports may stop or steal the voice, so its state is read anew at each turn; each turn takes a marker of the
FIFO or of the fetch buffer, so their entries are turns enough. -/
def reportMarkers (v : VoiceNo) : Nat → State → State
  | 0, s => s
  | n + 1, s =>
    let x := s.voice v
    match x.state, x.fifo with
    | .playing, .marker id :: rest
    | .stoppingFade, .marker id :: rest
    | .stoppingRamp _, .marker id :: rest =>
      reportMarkers v n (reportMarker v id (runDecoder v (s.setVoice v { x with fifo := rest })))
    | _, _ => s

/-- The ramp factor of the frame taken at a ramp position: 240 − j at the j-th frame (R85). -/
def rampFactor (pos : Nat) : Nat := Config.rampFrames - (pos + 1)

/-- A ramp position after a frame. -/
def rampNext (pos : Nat) : Nat := min (pos + 1) Config.rampFrames

/-- A voice record after its head frame is taken at a new state; the sample is 0 where the FIFO holds no frame. -/
def Voice.takeHead (x : Voice) (st : VoiceState) : Voice × Int :=
  match x.fifo with
  | .frame smp :: rest => ({ x with state := st, fifo := rest }, smp)
  | _ => ({ x with state := st }, 0)

/-- A voice takes its frame: its head frame at its level, ramped where it ramps, to its destination; a RECLAIMING voice
delivers to its outgoing destination at its outgoing level. The decoder runs after an entry has left (R65, R76). -/
def takeFrame (v : VoiceNo) (s : State) : State × Option Delivery :=
  let x := s.voice v
  match x.state with
  | .playing | .stoppingFade =>
    let r := x.takeHead x.state
    (runDecoder v (s.setVoice v r.1), some { voice := v, dest := x.dest, sample := product r.2 x.level.gain })
  | .stoppingRamp pos =>
    let r := x.takeHead (.stoppingRamp (rampNext pos))
    (runDecoder v (s.setVoice v r.1),
      some { voice := v, dest := x.dest, sample := scale240 (product r.2 x.level.gain) (rampFactor pos) })
  | .reclaiming pos dest level c =>
    let r := x.takeHead (.reclaiming (rampNext pos) dest level c)
    (s.setVoice v r.1,
      some { voice := v, dest := dest, sample := scale240 (product r.2 level.gain) (rampFactor pos) })
  | _ => (s, none)

/-- The markers at the head of a RECLAIMING voice's FIFO are removed without report (R69). -/
def dropMarkers (v : VoiceNo) (s : State) : State :=
  let x := s.voice v
  match x.state with
  | .reclaiming _ _ _ _ => s.setVoice v { x with fifo := x.fifo.dropWhile fun e => match e with
      | .marker _ => true
      | .frame _ => false }
  | _ => s

/-- One voice in a frame: its markers, then its frame (R79). -/
def playVoice (v : VoiceNo) (s : State) : State × Option Delivery :=
  takeFrame v (dropMarkers v (reportMarkers v ((s.voice v).fifo.length + (s.voice v).buf.length) s))

/-- The voices of a frame, one after another, with what they deliver. -/
def playVoices : List VoiceNo → State → State × List Delivery
  | [], s => (s, [])
  | v :: vs, s =>
    let r := playVoice v s
    let q := playVoices vs r.1
    (q.1, r.2.toList ++ q.2)

/-- The order in which the voices are taken: those given first, then the others in number order, each voice once. Two
markers taken in one frame may be reported in either order (R56, log 14). -/
def frameOrder (first : List VoiceNo) : List VoiceNo :=
  first.foldr (fun v order => v :: order.filter fun w => w != v) voiceNos

/-! ### Stems and sources (R87, R108) -/

/-- The exact sum of the samples delivered to a stem. -/
def stemSum (ds : List Delivery) (k : StemNo) : Int := ((ds.filter fun d => d.dest == .stem k).map (·.sample)).sum

/-- Whether the limit changes a sum. -/
def limited (x : Int) : Bool := sat24 x != x

/-- A counter that stays at its top (R64, R87, R119). -/
def countUp (n k : Nat) : Nat := min (n + k) Config.counterTop

/-- The stem saturation counts after a frame (R87). -/
def countStems (ds : List Delivery) (s : State) : State :=
  { s with stream := { s.stream with
      stemSat := tabulate 24 fun k => if limited (stemSum ds k) then countUp s.stream.stemSat[k] 1
                                      else s.stream.stemSat[k] } }

/-- The sample of a matrix source: a stem after its limit, or a live input received in the last TDM frame (R108). -/
def sourceSample (s : State) (ds : List Delivery) (i : SourceNo) : Int :=
  if h : i.val < 24 then sat24 (stemSum ds ⟨i.val, h⟩)
  else s.mix.rx[(⟨i.val - 24, by omega⟩ : LiveNo)]

/-! ### Program and contributions (R112 to R114, R151) -/

/-- The program sum P of an output: its 40 products, summed exactly (R113). -/
def programSum (s : State) (ds : List Delivery) (o : OutputNo) : Int :=
  (sourceNos.map fun i => product (sourceSample s ds i) (effective s i o).gain).sum

/-- The output gain level T of a MAIN or FOLDBACK output: trim plus stop mute (R112). -/
def houseGain (s : State) (o : OutputNo) : Level := ((s.mix.trims[o]).add s.showStop.mute).toDomain

/-- The level of a relay output's measure: trim plus leveler gain (R113). -/
def measureGain (s : State) (o : OutputNo) (zn : Zone) : Level := ((s.mix.trims[o]).add (.db zn.leveler)).toDomain

/-- The output gain level T of a RELAY output: trim, leveler gain and duck level (R112). -/
def relayGain (s : State) (o : OutputNo) (zn : Zone) : Level :=
  (((s.mix.trims[o]).add (.db zn.leveler)).add (.db zn.duck)).toDomain

/-- A contribution: a sample at a level (R114). -/
def contribution (x level : Int) : Int := product x (Level.db level).gain

/-- What a voice delivered to the call destination in a frame. -/
def callSample (ds : List Delivery) (v : VoiceNo) : Int :=
  ((ds.filter fun d => d.voice == v && d.dest == .call).map (·.sample)).sum

/-- Whether a voice is RECLAIMING. -/
def Voice.reclaims (x : Voice) : Bool :=
  match x.state with
  | .reclaiming _ _ _ _ => true
  | _ => false

/-- The announce input's sample at the announce level; nothing where the input is NONE (R114, R151). -/
def announcePair (s : State) : Int :=
  match s.showStop.announceIn with
  | some i => contribution s.mix.rx[i] s.showStop.announceLevel
  | none => 0

/-- The pair of the call that a zone carries (R151): a RECLAIMING voice delivers nothing to its new call. -/
def carriedPair (s : State) (ds : List Delivery) (c : Call) : Int :=
  match c.source with
  | .live i => contribution s.mix.rx[i] c.page
  | .recorded _ _ _ =>
    match voiceOfCall s c.id with
    | some v => if (s.voice v).reclaims then 0 else contribution (callSample ds v) c.page
    | none => 0
  | .announce => announcePair s

/-- The pairs of the tails that cover a zone (R151). -/
def tailPairs (s : State) (ds : List Delivery) (z : Nat) : Int :=
  ((s.relay.tails.filter fun t => t.zones.getLsbD z).map fun t => contribution (callSample ds t.voice) t.page).sum

/-- The call contribution of a zone (R114, R151). -/
def zoneCalls (s : State) (ds : List Delivery) (z : Nat) (zn : Zone) : Int :=
  (match zn.carried.bind (callOf · s) with
    | some c => carriedPair s ds c
    | none => 0) + tailPairs s ds z

/-- The announce contribution of a MAIN or FOLDBACK output, present while STOPPED (R114). -/
def announcement (s : State) : Int := if s.showStop.state = .stopped then announcePair s else 0

/-- The talkback contribution of an output in the talk set (R114). -/
def talkback (s : State) (o : OutputNo) : Int :=
  match s.foldback.talk with
  | some t => if t.set.getLsbD o.val then contribution s.mix.rx[t.input] t.level else 0
  | none => 0

/-- The program product of a relay output with its calls (R113, R114). -/
def relaySum (s : State) (ds : List Delivery) (o : OutputNo) : Int :=
  match zoneOfOutput s o with
  | none => 0
  | some z =>
    match s.relay.zones[z]? with
    | none => 0
    | some zn => product (programSum s ds o) (relayGain s o zn).gain + zoneCalls s ds z zn

/-- The exact sum of an output's program product and contributions: step 1 of R115. -/
def outputSum (s : State) (ds : List Delivery) (o : OutputNo) : Int :=
  match s.mix.classes[o] with
  | .unused => 0
  | .main => product (programSum s ds o) (houseGain s o).gain + announcement s
  | .foldback => product (programSum s ds o) (houseGain s o).gain + announcement s + talkback s o
  | .relay => relaySum s ds o

/-! ### The output sample (R115, R117, R134) -/

/-- A sample clamped to M of a ceiling (R134). -/
def clampCeiling (c y : Int) : Int :=
  let m : Int := magnitudeOf c
  if m < y then m else if y < -m then -m else y

/-- The sample of an output after its limit and ceiling (R115, R134). -/
def finished (s : State) (ds : List Delivery) (o : OutputNo) : Int :=
  match s.mix.classes[o] with
  | .foldback => clampCeiling s.foldback.ceilings[o] (sat24 (outputSum s ds o))
  | _ => sat24 (outputSum s ds o)

/-- The numerator of an output's blanking factor over 240 (R117). -/
def Blanking.factor : Blanking → Nat
  | .opened => Config.rampFrames
  | .closing c => Config.rampFrames - (c + 1)
  | .blanked => 0
  | .opening p => min (p + 1) Config.rampFrames

/-- A blanking state after a frame: a ramp moves on by one position, and the frame that takes it to 240 ends it, so a
position is 0..239 between two frames (R116, R117). BLANKING_RAMP_END finds the ramp already ended (log 14). -/
def Blanking.advance : Blanking → Blanking
  | .closing c => if c + 1 < Config.rampFrames then .closing (c + 1) else .blanked
  | .opening p => if p + 1 < Config.rampFrames then .opening (p + 1) else .opened
  | b => b

/-- The sample sent for an output (R115). -/
def sent (s : State) (ds : List Delivery) (o : OutputNo) : Int :=
  scale240 (finished s ds o) (s.mix.blanking[o]).factor

/-- The saturations and ceiling actions of an output in a frame (R115). -/
def clipsOf (s : State) (ds : List Delivery) (o : OutputNo) : Nat :=
  bit (limited (outputSum s ds o)) + bit (finished s ds o != sat24 (outputSum s ds o))

/-- The cause of an output's first clip in a frame: 0 SATURATION, 1 CEILING (R119). -/
def clipCause (s : State) (ds : List Delivery) (o : OutputNo) : Half :=
  if limited (outputSum s ds o) then 0 else 1

/-! ### Meters (R119) -/

/-- The meters of an output after a frame; an UNUSED output keeps its own. -/
def meterAfter (s : State) (ds : List Delivery) (o : OutputNo) (m : Meter) : Meter :=
  match s.mix.classes[o] with
  | .unused => m
  | _ => { peak := max m.peak (sent s ds o).natAbs, clips := countUp m.clips (clipsOf s ds o),
           reported := m.reported || decide (0 < clipsOf s ds o) }

/-- CLIP for an output whose clips rise while clip reported is clear (R119). -/
def reportClip (s : State) (ds : List Delivery) (o : OutputNo) (t : State) : State :=
  if s.mix.classes[o] ≠ .unused ∧ 0 < clipsOf s ds o ∧ (s.mix.meters[o]).reported = false then
    raise { kind := .clip, output := .ofNat 8 o.val, aux1 := clipCause s ds o } t
  else t

/-- CLIP for every output, in output order: a DESIGN CHOICE (log 13). -/
def reportClips (s : State) (ds : List Delivery) (t : State) : State :=
  outputNos.foldl (fun t o => reportClip s ds o t) t

/-! ### Leveler measure and gates (R137, R142, R155) -/

/-- The leveler measure of a zone (R113). -/
def measure (s : State) (ds : List Delivery) (zn : Zone) : Int :=
  product (programSum s ds zn.output) (measureGain s zn.output zn).gain

/-- A zone after a frame: unheld, its window peak takes the magnitude of its measure (R142). The measure is not limited
(R113), and R140 ranges the peak 0..8,388,608: that a greater magnitude is kept as 8,388,608 is the model's choice, a
DESIGN CHOICE (log 26). `s` is the start of the frame and the zone is as the frame's markers left it: that its duck is
tested then, while trim and show state are those of the start, is a DESIGN CHOICE too (log 30). -/
def Zone.measured (s : State) (ds : List Delivery) (zn : Zone) : Zone :=
  if zoneHeld s zn then zn else { zn with peak := max zn.peak (min (measure s ds zn).natAbs 8388608) }

/-- Whether an input's sample is above the gate threshold (R137, R155). -/
def gateOpen (s : State) (i : LiveNo) : Bool := decide (magnitudeOf s.relay.gateThreshold < (s.mix.rx[i]).natAbs)

/-- A gate timer at a frame: reloaded with tGATE where its input is above the threshold (R137, R155). -/
def GateTimer.atFrame (s : State) (i : LiveNo) (g : GateTimer) : GateTimer :=
  if gateOpen s i then { left := 1000 * s.relay.gateSeconds, reloaded := true } else { g with reloaded := false }

/-- A call at a frame: a PLAYING live call's gate (R155). -/
def Call.atFrame (s : State) (c : Call) : Call :=
  match c.source with
  | .live i => { c with gate := c.gate.map (GateTimer.atFrame s i) }
  | _ => c

/-- The gates of a frame: those of the PLAYING live calls and that of talk (R137, R155). -/
def runGates (s : State) : State :=
  { s with relay := { s.relay with playing := s.relay.playing.map (Call.atFrame s) },
           foldback := { s.foldback with
             talk := s.foldback.talk.map fun t => { t with gate := t.gate.atFrame s t.input } } }

/-! ### The TDM slots (R121) -/

/-- The 32 bits of an output slot, the first bit clock's bit at the top: the 24-bit sample, most significant bit first,
and 8 zeros (R121). -/
def slotWord (sample : Int) : BitVec 32 := BitVec.ofInt 24 sample ++ (0 : BitVec 8)

/-- What the part takes from an input slot: its first 24 bits, whatever the other 8 are (R121). -/
def slotSample (slot : BitVec 32) : BitVec 24 := slot.extractLsb' 8 24

/-- The output in a slot of the lines TDMO0 to TDMO3: O0–O7 on TDMO0 to O24–O31 on TDMO3 (R121). -/
def outputOfSlot (line : Fin 4) (slot : Fin 8) : OutputNo := ⟨8 * line.val + slot.val, by omega⟩

/-- The live input in a slot of the lines TDMI0 and TDMI1: L0–L7 on TDMI0 and L8–L15 on TDMI1 (R121). -/
def liveOfSlot (line : Fin 2) (slot : Fin 8) : LiveNo := ⟨8 * line.val + slot.val, by omega⟩

/-- What the part drives in a slot of an output line in the TDM frame in progress (R121). -/
def tdmOut (s : State) (line : Fin 4) (slot : Fin 8) : BitVec 32 := slotWord s.mix.tx[outputOfSlot line slot]

/-- The live samples of a TDM frame whose input lines carried the given slots: the operand that AUDIO_FRAME takes
(R121). -/
def liveOfLines (lines : Vector (Vector (BitVec 32) 8) 2) : Vector (BitVec 24) 16 :=
  tabulate 16 fun i => slotSample (lines[i.val / 8])[i.val % 8]

/-! ### The frame -/

/-- The clock reference after a frame: what paces the frames after the one in progress follows the state, and the
alignment of the frame is over (R122, R123). -/
def ClockRef.nextFrame (c : ClockRef) : ClockRef :=
  { c with
    aligning := false,
    pacer := match c.state with
      | .internal => .oscillator
      | .acquiring => .oscillator
      | .locked => .reference
      | .holdover => .heldRate }

/-- What a frame leaves in the Mix Matrix, the Relay Controller and the part's time. `s` is the state at the start of
the frame, whose levels, settings and calls the outputs use (log 14), and `ds` what its voices delivered. -/
def finishFrame (s : State) (ds : List Delivery) (live : Vector (BitVec 24) 16) (t : State) : State :=
  { t with
    mix := { t.mix with
      blanking := mapVec Blanking.advance t.mix.blanking,
      meters := tabulate 32 fun o => meterAfter s ds o t.mix.meters[o],
      clock := t.mix.clock.nextFrame,
      rx := mapVec BitVec.toInt live,
      tx := s.mix.txNext,
      txNext := tabulate 32 (sent s ds) },
    relay := { t.relay with zones := t.relay.zones.map (Zone.measured s ds), window := t.relay.window + 1 },
    timing := { t.timing with frames := t.timing.frames + 1 } }

/-- One frame (R113, R121). -/
def audioFrame (live : Vector (BitVec 24) 16) (first : List VoiceNo) (s : State) : State :=
  let r := playVoices (frameOrder first) (runGates s)
  finishFrame s r.2 live (reportClips s r.2 (countStems r.2 r.1))

/-- AUDIO_FRAME (R113). -/
def execAudioFrame (live : Vector (BitVec 24) 16) (first : List VoiceNo) (s : State) :
    Host.Outcome State Fault Refusal :=
  .next (occur (audioFrame live first) s)

end Sys2Proof.Machine
end

