-- ==== Sys2Proof/Machine/Load.lean ====
section
/-! DEFINITION. Loading a show (1.5): the effects of failure (R16) and success (R17), judging records as they arrive
(R12, R15), the checks at the end of a phase, and the commands LOAD SHOW (R14), LOAD ABORT (R18) and the completion
of a load read (R15). The end of talk (R136) stands here because a load's acceptance is one of its causes. -/

namespace Sys2Proof.Machine

/-- Talk ends where it is ON: the record becomes OFF and the last end is written, without an event (R136). -/
def endTalk (cause : TalkCause) (s : State) : State :=
  match s.foldback.talk with
  | none => s
  | some _ =>
    { s with foldback := { s.foldback with talk := none, lastEnd := some { cause := cause, time := s.timing.showClock } } }

/-! ### The outcome of a load (R16, R17) -/

/-- The LOAD_FAILED record (R176). -/
def loadFailedEvent (why : LoadFailure) (phase : LoadPhase) : Event :=
  { kind := .loadFailed, reason := .ofNat 8 why.code, aux1 := .ofNat 16 phase.code }

/-- No load, an empty store, no regions, every output UNUSED and the playhead END: what failure leaves (R16). -/
def clearShow (s : State) : State :=
  { s with smi := { s.smi with load := none, regions := [] },
           store := { s.store with state := .noShow, cues := [], scenes := [] },
           seq := { s.seq with playhead := none, standby := false },
           mix := { s.mix with classes := Vector.replicate 32 .unused } }

/-- The load ends with failure (R16). -/
def failLoad (why : LoadFailure) (s : State) : State :=
  match s.smi.load with
  | none => s
  | some ld => raise (loadFailedEvent why ld.phase) (clearShow s)

/-- The load ends ABORTED: a read of it in flight is marked discard and runs on to completion (R18). -/
def abortLoad (s : State) : State :=
  let t := failLoad .aborted s
  match t.smi.port with
  | .fetch tr =>
    match tr.user with
    | .load _ => { t with smi := { t.smi with port := .fetch { tr with user := .load true } } }
    | .voice _ => t
  | _ => t

/-- The zone of an output at its creation (R140). -/
def newZone (o : OutputNo) : Zone :=
  { output := o, leveler := 0, duck := 0, phase := .clear, peak := 0, carried := none }

/-- The zones of a class table: the RELAY outputs in ascending order (R140). -/
def zonesOf (classes : Vector OutClass 32) : List Zone :=
  ((List.finRange 32).filter fun o => classes[o] == .relay).map newZone

/-- The LOAD_DONE record: the cue, scene and region counts (R17, R176). -/
def loadDoneEvent (s : State) : Event :=
  { kind := .loadDone, aux1 := .ofNat 16 s.store.cues.length, aux2 := .ofNat 16 s.store.scenes.length,
    zones := .ofNat 16 s.smi.regions.length }

/-- The load succeeds (R17): the image's classes, zones and regions are in force, levels and foldback are initial, the
playhead is the first GO cue, and in STOPPED the zones join the show-stop call. -/
def succeedLoad (h : Header) (regions : List Region) (s : State) : State :=
  let t : State :=
    { s with smi := { s.smi with load := none, regions := regions },
             store := { s.store with state := .ready },
             seq := { s.seq with playhead := firstGo s, standby := false },
             mix := { s.mix with classes := h.classes, xpts := Vector.replicate 32 (Vector.replicate 40 .off),
                                 trims := Vector.replicate 32 (.db 0) },
             foldback := { s.foldback with modes := Vector.replicate 32 .independent,
                                           offsets := Vector.replicate 32 (Vector.replicate 40 0),
                                           ceilings := Vector.replicate 32 0 },
             relay := { s.relay with zones := zonesOf h.classes } }
  let t := raise (loadDoneEvent t) t
  if t.showStop.state = .stopped then joinShowStopCall t else t

/-! ### Records and phases (R12, R15) -/

/-- Places a cue record of the image, or gives the reason that it fails (R12, R15). -/
def judgeCue (h : Header) (regions : List Region) (words : List Word) (s : State) : Except LoadFailure State :=
  match readCueRecord regions words with
  | .error _ => .error .badRecord
  | .ok c =>
    if (cueOf c.num s).isSome then .error .duplicate
    else if (firstFailing (referenceCheck regions s.store.scenes) 1 c.actions).isSome then .error .badReference
    else if h.cueCount < s.store.cues.length + 1 ∨ h.actionCount < actionTotal s.store.cues + c.actions.length then
      .error .countMismatch
    else .ok { s with store := { s.store with cues := placeCue c s.store.cues } }

/-- Places a scene record of the image, or gives the reason that it fails (R12, R15). -/
def judgeScene (h : Header) (words : List Word) (s : State) : Except LoadFailure State :=
  match readSceneRecord words with
  | .error _ => .error .badRecord
  | .ok sc =>
    if (sceneOf sc.id s).isSome then .error .duplicate
    else if h.sceneCount < s.store.scenes.length + 1 ∨
        h.entryCount < entryTotal s.store.scenes + sc.entries.length then .error .countMismatch
    else .ok { s with store := { s.store with scenes := placeScene sc s.store.scenes } }

/-- Whether the block of a phase has placed as many records as the header counts. -/
def recordsDone (phase : LoadPhase) (h : Header) (s : State) : Bool :=
  match phase with
  | .scenes => decide (h.sceneCount ≤ s.store.scenes.length)
  | _ => decide (h.cueCount ≤ s.store.cues.length)

/-- Judges one whole record of a phase. -/
def judgeRecord (phase : LoadPhase) (h : Header) (regions : List Region) (words : List Word) (s : State) :
    Except LoadFailure State :=
  match phase with
  | .scenes => judgeScene h words s
  | _ => judgeCue h regions words s

/-- What judging the taken words gives: the state, the words of a record not wholly taken, and whether the records
have ended with words left over; or the reason of failure. -/
abbrev Judged := Except LoadFailure (State × List Word × Bool)

/-- Judges the records whose words have been taken, in block order (R12, R15). `left` is the number of words from
the first of `words` to the end of the block; each record has a word, so `n` above the number of words is enough.
Once the header's count is placed, a further record is still checked and at the latest fails with COUNT_MISMATCH,
and words that make no record are left over (log 12). -/
def judgeRecords (phase : LoadPhase) (h : Header) (regions : List Region) :
    Nat → Nat → List Word → State → Judged
  | 0, _, ws, s => .ok (s, ws, false)
  | n + 1, left, ws, s =>
    match ws with
    | [] => .ok (s, [], false)
    | _ :: _ =>
      let len := statedLength ws
      if left < len then
        if recordsDone phase h s then .ok (s, [], true) else .error .badRecord
      else if ws.length < len then .ok (s, ws, false)
      else match judgeRecord phase h regions (ws.take len) s with
        | .error why => if recordsDone phase h s ∧ why = .badRecord then .ok (s, [], true) else .error why
        | .ok t => judgeRecords phase h regions n (left - len) (ws.drop len) t

/-- The phase, with the words to read in it (R15). -/
def startPhase (phase : LoadPhase) (h : Header) (ld : Load) : Load :=
  let span := match phase with
    | .header => (0, 16)
    | .regions => (h.regionOffset, 2 * h.regionCount)
    | .scenes => (h.sceneOffset, h.sceneLen)
    | .cues => (h.cueOffset, h.cueLen)
  { ld with phase := phase, next := span.1, remaining := span.2, words := [], ended := false, header := some h }

/-- Writes the load. -/
def setLoad (ld : Load) (s : State) : State := { s with smi := { s.smi with load := some ld } }

/-- Judges the words taken so far in SCENES and CUES; in HEADER and REGIONS the words wait for the phase's end. -/
def takeRecords (s : State) : State :=
  match s.smi.load with
  | none => s
  | some ld =>
    match ld.phase, ld.header with
    | .header, _ => s
    | .regions, _ => s
    | _, none => s
    | phase, some h =>
      if ld.ended then setLoad { ld with words := [] } s
      else match judgeRecords phase h ld.regions (ld.words.length + 1) (ld.words.length + ld.remaining) ld.words s with
        | .error why => failLoad why s
        | .ok r => setLoad { ld with words := r.2.1, ended := r.2.2 } r.1

/-- The checks at the end of one phase and the beginning of the next, or the end of the load (R15, R16, R17). -/
def endPhase (ld : Load) (s : State) : State :=
  match ld.phase, ld.header with
  | .header, _ =>
    match readHeader ld.words with
    | .error why => failLoad why s
    | .ok h => setLoad (startPhase .regions h ld) s
  | .regions, some h =>
    match readRegions ld.words with
    | none => failLoad .pastEnd s
    | some rs => setLoad (startPhase .scenes h { ld with regions := rs }) s
  | .scenes, some h =>
    if ld.ended ∨ s.store.scenes.length ≠ h.sceneCount ∨ entryTotal s.store.scenes ≠ h.entryCount then
      failLoad .countMismatch s
    else setLoad (startPhase .cues h ld) s
  | .cues, some h =>
    if ld.ended ∨ s.store.cues.length ≠ h.cueCount ∨ actionTotal s.store.cues ≠ h.actionCount then
      failLoad .countMismatch s
    else succeedLoad h ld.regions s
  | _, none => s

/-- Ends every phase that has no words left; a phase of zero words passes at once, and there are four (R15). -/
def endPhases : Nat → State → State
  | 0, s => s
  | n + 1, s =>
    match s.smi.load with
    | none => s
    | some ld => if ld.remaining = 0 then endPhases n (endPhase ld s) else s

/-- The words of a load read are taken into its phase (R15). -/
def takeWords (ws : List Word) (s : State) : State :=
  match s.smi.load with
  | none => s
  | some ld =>
    setLoad { ld with words := ld.words ++ ws, next := ld.next + ws.length, remaining := ld.remaining - ws.length } s

/-! ### The commands -/

/-- Why LOAD SHOW is refused, if it is: the checks of R14 in order. -/
def loadRefusal (l : Role) (s : State) : Option Result :=
  if s.store.holder ≠ some l then some .notHolder
  else if loading s then some .loading
  else if s.showStop.state ≠ .normal then some .showStopped
  else if mhack s then some .memoryHeld
  else if (voiceNos.any fun v => (s.voice v).busy) || s.seq.instances != [] || s.relay.playing != [] ||
      s.relay.waiting != [] then some .busy
  else none

/-- Whether a fade target goes at the acceptance of a load: a crosspoint, an output trim or a duck level (R14). -/
def goesAtLoad : FadeTarget → Bool
  | .crosspoint _ _ => true
  | .trim _ => true
  | .duck _ => true
  | .voice _ => false
  | .stopMute => false

/-- The load at its acceptance: READING in phase HEADER (R14, R15). -/
def newLoad (l : Role) : Load :=
  { link := l, phase := .header, next := 0, remaining := 16, words := [], ended := false, header := none,
    regions := [] }

/-- The effects of an accepted LOAD SHOW (R14). -/
def acceptLoad (l : Role) (s : State) : State :=
  endTalk .load
    { s with smi := { s.smi with load := some (newLoad l), regions := [] },
             store := { s.store with state := .loading, cues := [], scenes := [] },
             seq := { s.seq with playhead := none, standby := false },
             fades := s.fades.filter fun e => !goesAtLoad e.target,
             mix := { s.mix with classes := Vector.replicate 32 .unused },
             relay := { s.relay with zones := [] } }

/-- LOAD SHOW (R14). -/
def execLoadShow (l : Role) (tag : Byte) (s : State) : Host.Outcome State Fault Refusal :=
  .next (serve l 0x18 tag (fun s =>
    match loadRefusal l s with
    | some r => refuse r s
    | none => acceptWith [] (acceptLoad l s)) s)

/-- LOAD ABORT (R18). -/
def execLoadAbort (l : Role) (tag : Byte) (s : State) : Host.Outcome State Fault Refusal :=
  .next (serve l 0x19 tag (fun s =>
    if s.store.holder ≠ some l then refuse .notHolder s
    else if loading s then acceptWith [] (abortLoad s)
    else refuse .noLoad s) s)

/-- The words of a completed load read go to the load, or are dropped where the read is marked discard; the port
leaves FETCH, and arbitration of the idle bus is its own step (R6, R15, log 4). -/
def completeLoadRead (words : List Word) (s : State) : State :=
  match s.smi.port with
  | .fetch t =>
    if t.phase = .transfer ∧ words.length = t.len then
      match t.user with
      | .load discard =>
        let idle : State := { s with smi := { s.smi with port := .idle } }
        if discard then idle else endPhases 4 (takeRecords (takeWords words idle))
      | .voice _ => s
    else s
  | _ => s

/-- LOAD_READ_COMPLETE (R6, R15). -/
def execLoadReadComplete (words : List Word) (s : State) : Host.Outcome State Fault Refusal :=
  .next (occur (completeLoadRead words) s)

end Sys2Proof.Machine
end

