-- ==== Sys2Proof/Machine/FoldbackCmds.lean ====
section
/-! DEFINITION. The Foldback Controller's commands (chapter 7): SET FOLLOW (R129), SET OFFSET (R132), SET CEILING
(R133), TALK ON (R135), TALK OFF (R136) and the expiry of the talk gate (R137). -/

namespace Sys2Proof.Machine

/-! ### Modes, offsets and ceilings (R129, R132, R133) -/

/-- SET FOLLOW: the checks of R129, then the mode is written. -/
def setFollowBody (output mode main : Byte) (s : State) : State × Reply :=
  match index? 32 output.toNat, modeOf mode.toNat main.toNat with
  | some o, some m =>
    match modeFault o m s with
    | some r => refuse r s
    | none => acceptWith (u8 m.code ++ u8 m.main) (setMode o m s)
  | _, _ => refuse .badField s

/-- SET FOLLOW (R129). -/
def execSetFollow (l : Role) (tag output mode main : Byte) (s : State) : Host.Outcome State Fault Refusal :=
  .next (serve l 0x50 tag (setFollowBody output mode main) s)

/-- Writes a monitor offset (R132). -/
def setOffset (i : SourceNo) (o : OutputNo) (x : Int) (s : State) : State :=
  { s with foldback := { s.foldback with offsets := s.foldback.offsets.set o ((s.foldback.offsets[o]).set i x) } }

/-- SET OFFSET: the offset is clamped to −240..+120, with OFF taken as −240 (R132). -/
def setOffsetBody (source output : Byte) (offset : Half) (s : State) : State × Reply :=
  match index? 40 source.toNat, index? 32 output.toNat with
  | some i, some o =>
    if s.mix.classes[o] ≠ .foldback then refuse .notFoldback s
    else
      let x := clampNumeric (-240) 120 (levelOfBits offset)
      acceptWith (i16 x) (setOffset i o x s)
  | _, _ => refuse .badField s

/-- SET OFFSET (R132). -/
def execSetOffset (l : Role) (tag source output : Byte) (offset : Half) (s : State) :
    Host.Outcome State Fault Refusal :=
  .next (serve l 0x51 tag (setOffsetBody source output offset) s)

/-- Writes a ceiling (R133). -/
def setCeiling (o : OutputNo) (x : Int) (s : State) : State :=
  { s with foldback := { s.foldback with ceilings := s.foldback.ceilings.set o x } }

/-- SET CEILING: the ceiling is clamped to −200..0, with OFF taken as −200 (R133). -/
def setCeilingBody (output : Byte) (ceiling : Half) (s : State) : State × Reply :=
  match index? 32 output.toNat with
  | none => refuse .badField s
  | some o =>
    if s.mix.classes[o] ≠ .foldback then refuse .notFoldback s
    else
      let x := clampNumeric (-200) 0 (levelOfBits ceiling)
      acceptWith (i16 x) (setCeiling o x s)

/-- SET CEILING (R133). -/
def execSetCeiling (l : Role) (tag output : Byte) (ceiling : Half) (s : State) : Host.Outcome State Fault Refusal :=
  .next (serve l 0x52 tag (setCeilingBody output ceiling) s)

/-! ### Talkback (R135 to R137) -/

/-- A gate timer just loaded with tGATE (R135, R150). -/
def loadedGate (s : State) : GateTimer := { left := 1000 * s.relay.gateSeconds, reloaded := false }

/-- The first output of a set that is not FOLDBACK (R135). -/
def firstNotFoldback (set : BitVec 32) (s : State) : Option OutputNo :=
  (members set).find? fun o => s.mix.classes[o] != .foldback

/-- TALK ON: the checks of R135, then the talk record is written whole. -/
def talkOnBody (input : Byte) (set : BitVec 32) (level : Half) (s : State) : State × Reply :=
  if s.showStop.state = .stopped then refuse .showStopped s
  else match index? 16 input.toNat with
    | none => refuse .badField s
    | some i =>
      if set = 0 then refuse .badField s
      else match firstNotFoldback set s with
        | some o => (s, { result := .notFoldback, payload := u8 o.val })
        | none =>
          let x := clampNumeric (-300) 60 (levelOfBits level)
          acceptWith (i16 x)
            { s with foldback := { s.foldback with
                talk := some { input := i, set := set, level := x, gate := loadedGate s } } }

/-- TALK ON (R135). -/
def execTalkOn (l : Role) (tag input : Byte) (set : BitVec 32) (level : Half) (s : State) :
    Host.Outcome State Fault Refusal :=
  .next (serve l 0x53 tag (talkOnBody input set level) s)

/-- TALK OFF (R136). -/
def execTalkOff (l : Role) (tag : Byte) (s : State) : Host.Outcome State Fault Refusal :=
  .next (serve l 0x54 tag (fun s => acceptWith (flag s.foldback.talk.isSome) (endTalk .talkOff s)) s)

/-- The talk gate's expiry: talk ends where its timer has reached 0 (R136, R137). -/
def expireTalk (s : State) : State :=
  match s.foldback.talk with
  | some t => if t.gate.left = 0 then endTalk .gate s else s
  | none => s

/-- TALK_GATE_EXPIRY (R137). -/
def execTalkGateExpiry (s : State) : Host.Outcome State Fault Refusal := .next (occur expireTalk s)

end Sys2Proof.Machine
end

