-- ==== Sys2Proof/Machine/RelayCmds.lean ====
section
/-! DEFINITION. The Relay Controller's commands (chapter 8): the settings (R141), CALL (R146), CALL END and CANCEL CALL
(R153), READ CALLS (R157), the gate of live calls (R155) and the end of the leveler window (R143). -/

namespace Sys2Proof.Machine

/-! ### Settings (R141) -/

/-- The leveler settings that a payload names, after clamping; a field is a level field (log 11). -/
def levelerOf (p : LevelerPayload) : Leveler :=
  { target := clampNumeric (-300) (-60) (levelOfBits p.target), up := clampNumeric 0 20 (levelOfBits p.up),
    down := clampNumeric 0 50 (levelOfBits p.down), leap := clampNumeric 0 120 (levelOfBits p.leap),
    gate := clampNumeric (-700) (-300) (levelOfBits p.gate) }

/-- The leveler settings in the layout of SET LEVELER. -/
def levelerBytes (v : Leveler) : List Byte := i16 v.target ++ i16 v.up ++ i16 v.down ++ i16 v.leap ++ i16 v.gate

/-- SET LEVELER (R141). -/
def execSetLeveler (l : Role) (tag : Byte) (settings : LevelerPayload) (s : State) :
    Host.Outcome State Fault Refusal :=
  .next (serve l 0x60 tag (fun s =>
    acceptWith (levelerBytes (levelerOf settings)) { s with relay := { s.relay with leveler := levelerOf settings } }) s)

/-- SET DUCK TIMES: tATTACK 0..2,000 ms, tRELEASE 0..5,000 ms (R141). -/
def execSetDuckTimes (l : Role) (tag : Byte) (attack release : Half) (s : State) :
    Host.Outcome State Fault Refusal :=
  .next (serve l 0x61 tag (fun s =>
    let a := clampNat 0 2000 attack.toNat
    let r := clampNat 0 5000 release.toNat
    acceptWith (u16 a ++ u16 r) { s with relay := { s.relay with attack := a, release := r } }) s)

/-- SET GATE: threshold −600..−200, tGATE 2..60 s (R141). -/
def execSetGate (l : Role) (tag : Byte) (threshold : Half) (seconds : Byte) (s : State) :
    Host.Outcome State Fault Refusal :=
  .next (serve l 0x62 tag (fun s =>
    let t := clampNumeric (-600) (-200) (levelOfBits threshold)
    let n := clampNat 2 60 seconds.toNat
    acceptWith (i16 t ++ u8 n) { s with relay := { s.relay with gateThreshold := t, gateSeconds := n } }) s)

/-! ### CALL (R146) -/

/-- The out word of a CALL request: 0 stands for absent (R178). -/
def callOut (p : CallPayload) : Option Nat := if p.outWord = 0 then none else some p.outWord.toNat

/-- The source of a CALL request, with its fields in the ranges of R145 and R23; the fields of the other kind are not
read (R178). -/
def callSource (p : CallPayload) : Option CallSource :=
  match p.kind.toNat with
  | 0 => (index? 16 p.input.toNat).map .live
  | 1 => check (decide (p.region.toNat < Config.maxRegions) && decide (p.inWord.toNat < Config.memoryWords) &&
      decide (p.outWord.toNat ≤ Config.memoryWords)) (.recorded p.region.toNat p.inWord.toNat (callOut p))
  | _ => none

/-- The call that a request asks for, where every field is in range: check 1 of R146. -/
def callRequest (p : CallPayload) : Option Call := do
  let source ← callSource p
  match levelOfBits p.page with
  | .off => none
  | .db page =>
    check (p.zones != 0 && decide (1 ≤ p.priority.toNat ∧ p.priority.toNat ≤ 3) &&
        decide (-300 ≤ page ∧ page ≤ 60) && decide (p.depth.toNat ≤ 600))
      (newCall p.priority.toNat source p.zones page p.depth.toNat .prompt)

/-- Checks 4 and 5 of R146, for a recorded source: the region and its words. -/
def recordedRefusal (src : CallSource) (s : State) : Option Result :=
  match src with
  | .recorded region inWord out =>
    match s.smi.regions[region]? with
    | none => some .badReference
    | some r => if wordsFit r.len inWord out none then none else some .badField
  | _ => none

/-- Whether a source is recorded. -/
def CallSource.isRecorded : CallSource → Bool
  | .recorded _ _ _ => true
  | _ => false

/-- Checks 2 to 6 of R146, in order; none where every check passes. -/
def callRefusal (c : Call) (s : State) : Option Reply :=
  if c.source.isRecorded ∧ s.store.state = .loading then some { result := .loading, payload := [] }
  else match absentZone c.zones s with
    | some z => some { result := .noSuchZone, payload := u8 z.val }
    | none =>
      match recordedRefusal c.source s with
      | some r => some { result := r, payload := [] }
      | none =>
        if Config.maxWaiting ≤ waitingCount s then some { result := .queueFull, payload := [] } else none

/-- The state byte of an accepted call after its scan: 1 PLAYING, 0 WAITING; of a call that the scan ended it is a
free value (R146, log 21). -/
def callStateByte (id : Nat) (s : State) : Byte :=
  if isPlaying id s then 1 else if (callOf id s).isSome then 0 else Config.endedCallState

/-- CALL (R146). -/
def callBody (p : CallPayload) (s : State) : State × Reply :=
  match callRequest p with
  | none => refuse .badField s
  | some c =>
    match callRefusal c s with
    | some r => (s, r)
    | none =>
      let a := acceptCall c s
      acceptWith (u8 a.2 ++ [callStateByte a.2 a.1]) a.1

/-- CALL (R146). -/
def execCall (l : Role) (tag : Byte) (payload : CallPayload) (s : State) : Host.Outcome State Fault Refusal :=
  .next (serve l 0x63 tag (callBody payload) s)

/-! ### CALL END and CANCEL CALL (R153) -/

/-- CALL END: live calls only (R153). -/
def callEndBody (id : Nat) (s : State) : State × Reply :=
  match callOf id s with
  | none => refuse .noSuchCall s
  | some c =>
    match c.source with
    | .announce => refuse .notPermitted s
    | .recorded _ _ _ => refuse .notLive s
    | .live _ => acceptWith [] (endCall id .ended s)

/-- CALL END (R153). -/
def execCallEnd (l : Role) (tag id : Byte) (s : State) : Host.Outcome State Fault Refusal :=
  .next (serve l 0x64 tag (callEndBody id.toNat) s)

/-- CANCEL CALL: live and recorded calls (R153). -/
def cancelCallBody (id : Nat) (s : State) : State × Reply :=
  match callOf id s with
  | none => refuse .noSuchCall s
  | some c =>
    match c.source with
    | .announce => refuse .notPermitted s
    | _ => acceptWith [] (endCall id .cancelled s)

/-- CANCEL CALL (R153). -/
def execCancelCall (l : Role) (tag id : Byte) (s : State) : Host.Outcome State Fault Refusal :=
  .next (serve l 0x65 tag (cancelCallBody id.toNat) s)

/-- The live calls of origin PROMPT: the PLAYING ones in the order they started, then the WAITING ones in queue order
(R153). -/
def promptCalls (s : State) : List Nat :=
  ((s.relay.playing ++ s.relay.waiting).filter fun c => c.origin == .prompt && match c.source with
    | .live _ => true
    | _ => false).map (·.id)

/-! ### READ CALLS (R157) -/

/-- One zone record of the calls block; a zone without a call carries 0 (R140, R178). -/
def zoneBytes (s : State) (n : Nat) (zn : Zone) : List Byte :=
  u8 n ++ u8 zn.output.val ++ i16 zn.leveler ++ i16 zn.duck ++ u8 zn.phase.code ++ u32 zn.peak ++
  u8 (zn.carried.getD 0) ++ fadeField (.duck (zoneNo n)) s

/-- The zone records from a zone number on. -/
def zonesBytes (s : State) : Nat → List Zone → List Byte
  | _, [] => []
  | n, zn :: zs => zoneBytes s n zn ++ zonesBytes s (n + 1) zs

/-- The source's fields of a call record: kind, live input, region, in word, out word. The show-stop call's source is
the announce input as the Show Stop Controller holds it, whose code, 255 for NONE, stands in the input's byte (R145,
R156, R157; log 17). -/
def sourceBytes (s : State) : CallSource → List Byte
  | .live i => u8 0 ++ u8 i.val ++ u16 0 ++ u32 0 ++ u32 0
  | .recorded r a b => u8 1 ++ u8 0 ++ u16 r ++ u32 a ++ u32 (b.getD 0)
  | .announce => u8 2 ++ u8 (announceCode s.showStop.announceIn) ++ u16 0 ++ u32 0 ++ u32 0

/-- The origin's fields of a call record: origin, instance id, cue number, action position. -/
def originBytes : Origin → List Byte
  | .prompt => u8 0 ++ u8 0 ++ bytes24 0 ++ u8 0
  | .cue i c p => u8 1 ++ u8 i ++ bytes24 c ++ u8 p
  | .showStop => u8 2 ++ u8 0 ++ bytes24 0 ++ u8 0

/-- A call's page level; the show-stop call's is the announce level (R151, R156). -/
def pageOf (s : State) (c : Call) : Int :=
  match c.source with
  | .announce => s.showStop.announceLevel
  | _ => c.page

/-- The rank of a call's arrival among the calls present, 1 for the earliest (R178). -/
def arrivalRank (s : State) (c : Call) : Nat :=
  ((s.relay.playing ++ s.relay.waiting).countP fun d => decide (d.arrival < c.arrival)) + 1

/-- One call record (R145, R178). -/
def callBytes (s : State) (playing : Bool) (c : Call) : List Byte :=
  u8 c.id ++ u8 c.priority ++ sourceBytes s c.source ++ bytes16 c.zones ++ i16 (pageOf s c) ++ u16 c.depth ++
  originBytes c.origin ++ flag playing ++ u8 (arrivalRank s c) ++ flag (voiceOfCall s c.id).isSome ++
  u8 (match voiceOfCall s c.id with
    | some v => v.val
    | none => 0) ++
  u16 (match c.gate with
    | some g => g.left
    | none => 0)

/-- One tail of the calls block. -/
def tailBytes (t : Tail) : List Byte := u8 t.voice.val ++ bytes16 t.zones ++ i16 t.page

/-- The calls block (R157, R178). -/
def callsBlock (s : State) : List Byte :=
  u8 s.relay.zones.length ++ zonesBytes s 0 s.relay.zones ++
  u8 s.relay.playing.length ++ s.relay.playing.flatMap (callBytes s true) ++
  u8 s.relay.waiting.length ++ s.relay.waiting.flatMap (callBytes s false) ++
  u8 s.relay.tails.length ++ s.relay.tails.flatMap tailBytes ++
  levelerBytes s.relay.leveler ++ u16 s.relay.attack ++ u16 s.relay.release ++
  i16 s.relay.gateThreshold ++ u8 s.relay.gateSeconds ++ u8 s.relay.nextId

/-- READ CALLS (R157). -/
def execReadCalls (l : Role) (tag : Byte) (s : State) : Host.Outcome State Fault Refusal :=
  .next (serve l 0x66 tag (fun s => acceptWith (callsBlock s) s) s)

/-! ### The call gate and the leveler window (R143, R155) -/

/-- The gate expiry of a PLAYING live call whose timer has reached 0 (R155). -/
def expireCall (id : Nat) (s : State) : State :=
  match s.relay.playing.find? fun c => c.id == id with
  | some c =>
    match c.gate with
    | some g => if g.left = 0 then endCall id .gate s else s
    | none => s
  | none => s

/-- CALL_GATE_EXPIRY (R155). -/
def execCallGateExpiry (id : Byte) (s : State) : Host.Outcome State Fault Refusal :=
  .next (occur (expireCall id.toNat) s)

/-- The change of a leveler gain that a window's peak asks for (R143). -/
def levelerStep (v : Leveler) (peak : Nat) : Int :=
  if magnitudeOf (v.target + 60) < peak then -v.leap
  else if magnitudeOf v.target < peak then -v.down
  else if magnitudeOf v.gate < peak then v.up
  else 0

/-- One zone at a window end: a held zone keeps its gain, and the peak becomes 0 in every case (R143). -/
def Zone.judged (v : Leveler) (held : Bool) (zn : Zone) : Zone :=
  if held then { zn with peak := 0 }
  else { zn with leveler := clampInt (-200) 100 (zn.leveler + levelerStep v zn.peak), peak := 0 }

/-- The window end, where the window has its 4,800 frames (R142, R143). -/
def endWindow (s : State) : State :=
  if Config.windowFrames ≤ s.relay.window then
    { s with relay := { s.relay with
        zones := s.relay.zones.map fun zn => zn.judged s.relay.leveler (zoneHeld s zn),
        window := s.relay.window - Config.windowFrames } }
  else s

/-- WINDOW_END (R143). -/
def execWindowEnd (s : State) : Host.Outcome State Fault Refusal := .next (occur endWindow s)

end Sys2Proof.Machine
end

