-- ==== Sys2Proof/Machine/StoreCmds.lean ====
section
/-! DEFINITION. The Cue Store's commands (chapter 2): the edit hold (R26, R27), the four edits (R29 to R34) and the
two reads (R36). -/

namespace Sys2Proof.Machine

/-! ### The edit hold (R26 to R28) -/

/-- The edit hold takes a holder, or FREE, and HOLD_CHANGED is raised with the holder's role or NONE (R26, R27). -/
def changeHolder (h : Option Role) (s : State) : State :=
  raise { kind := .holdChanged, reason := .ofNat 8 (holderCode h) } { s with store := { s.store with holder := h } }

/-- EDIT HOLD (R26). -/
def execEditHold (l : Role) (tag : Byte) (s : State) : Host.Outcome State Fault Refusal :=
  .next (serve l 0x10 tag (fun s =>
    match s.store.holder with
    | none => acceptWith [] (changeHolder (some l) s)
    | some h => if h = l then acceptWith [] s else (s, { result := .held, payload := u8 (roleCode h) })) s)

/-- EDIT RELEASE (R27). -/
def execEditRelease (l : Role) (tag : Byte) (s : State) : Host.Outcome State Fault Refusal :=
  .next (serve l 0x11 tag (fun s =>
    if s.store.holder ≠ some l then refuse .notHolder s
    else if loading s then refuse .loading s
    else acceptWith [] (changeHolder none s)) s)

/-! ### Edits (R29 to R34) -/

/-- The common gate of every edit request, checked in order (R29). -/
def editRefusal (l : Role) (s : State) : Option Result :=
  if s.store.holder ≠ some l then some .notHolder
  else match s.store.state with
    | .noShow => some .noShow
    | .loading => some .loading
    | .ready => none

/-- An edit's body behind the common gate (R29). -/
def edit (l : Role) (body : State → State × Reply) (s : State) : State × Reply :=
  match editRefusal l s with
  | some r => refuse r s
  | none => body s

/-- The cue and action totals, which the response of a cue edit carries (R29). -/
def cueTotals (s : State) : List Byte := u16 s.store.cues.length ++ u16 (actionTotal s.store.cues)

/-- The scene and entry totals, which the response of a scene edit carries (R29). -/
def sceneTotals (s : State) : List Byte := u16 s.store.scenes.length ++ u16 (entryTotal s.store.scenes)

/-- Acceptance with the cue totals after the edit. -/
def acceptCueEdit (s : State) : State × Reply := acceptWith (cueTotals s) s

/-- Acceptance with the scene totals after the edit. -/
def acceptSceneEdit (s : State) : State × Reply := acceptWith (sceneTotals s) s

/-- Whether a cue has an instance in PREWAIT (R30, R32). -/
def inPrewait (n : CueNum) (s : State) : Bool := s.seq.instances.any fun i => i.cue == n && i.phase == .prewait

/-- A refusal that names the failing item of a record (R30, R33). -/
def refuseItem (r : Result) (item : Nat) (s : State) : State × Reply := (s, { result := r, payload := u8 item })

/-- PUT CUE past the common gate: the four classes of R30 in order, then the placing of R31. -/
def putCueBody (words : List Word) (s : State) : State × Reply :=
  match readCueRecord s.smi.regions words with
  | .error item => refuseItem .badField item s
  | .ok c =>
    match firstFailing (referenceCheck s.smi.regions s.store.scenes) 1 c.actions with
    | some item => refuseItem .badReference item s
    | none =>
      if cuesFit (placeCue c s.store.cues) = false then refuse .storeFull s
      else if inPrewait c.num s then refuse .inUse s
      else acceptCueEdit { s with store := { s.store with cues := placeCue c s.store.cues } }

/-- Whether a record is framed as R178 allows; a record that is not makes a malformed frame (R170). -/
def framed (l : Role) (code tag : Byte) (words : List Word) (take : State → State) (s : State) : State :=
  if recordFramed words then take s
  else occur (respond l code tag { result := .badFrame, payload := [] }) s

/-- PUT CUE (R30, R31). -/
def execPutCue (l : Role) (tag : Byte) (words : List Word) (s : State) : Host.Outcome State Fault Refusal :=
  .next (framed l 0x12 tag words (serve l 0x12 tag (edit l (putCueBody words))) s)

/-- DELETE CUE past the common gate: the record goes, and a deleted playhead moves on (R32). -/
def deleteCueBody (n : CueNum) (s : State) : State × Reply :=
  if (cueOf n s).isNone then refuse .noSuchCue s
  else if inPrewait n s then refuse .inUse s
  else
    let t : State := { s with store := { s.store with cues := s.store.cues.filter fun c => c.num != n } }
    acceptCueEdit (if s.seq.playhead = some n then movePlayhead (nextGo n t) 2 t else t)

/-- DELETE CUE (R32). -/
def execDeleteCue (l : Role) (tag : Byte) (cue : CueNum) (s : State) : Host.Outcome State Fault Refusal :=
  .next (serve l 0x13 tag (edit l (deleteCueBody cue)) s)

/-- PUT SCENE past the common gate (R33). -/
def putSceneBody (words : List Word) (s : State) : State × Reply :=
  match readSceneRecord words with
  | .error item => refuseItem .badField item s
  | .ok sc =>
    if scenesFit (placeScene sc s.store.scenes) = false then refuse .storeFull s
    else acceptSceneEdit { s with store := { s.store with scenes := placeScene sc s.store.scenes } }

/-- PUT SCENE (R33). -/
def execPutScene (l : Role) (tag : Byte) (words : List Word) (s : State) : Host.Outcome State Fault Refusal :=
  .next (framed l 0x14 tag words (serve l 0x14 tag (edit l (putSceneBody words))) s)

/-- DELETE SCENE past the common gate (R34). -/
def deleteSceneBody (id : Nat) (s : State) : State × Reply :=
  if (sceneOf id s).isNone then refuse .noSuchScene s
  else acceptSceneEdit { s with store := { s.store with scenes := s.store.scenes.filter fun sc => sc.id != id } }

/-- DELETE SCENE (R34). -/
def execDeleteScene (l : Role) (tag : Byte) (id : Half) (s : State) : Host.Outcome State Fault Refusal :=
  .next (serve l 0x15 tag (edit l (deleteSceneBody id.toNat)) s)

/-! ### Reads (R36) -/

/-- A read direction (R36, R178). -/
inductive Direction where
  | at
  | next
  | previous
  deriving DecidableEq, Repr

/-- The direction that a code names. -/
def directionOf (d : Byte) : Option Direction :=
  match d.toNat with
  | 0 => some .at
  | 1 => some .next
  | 2 => some .previous
  | _ => none

/-- The cue that a read answers with (R36). -/
def readCueAt (n : CueNum) (d : Direction) (s : State) : Option Cue :=
  match d with
  | .at => cueOf n s
  | .next => cueAfter n s
  | .previous => s.store.cues.reverse.find? fun c => decide (c.num.toNat < n.toNat)

/-- The scene that a read answers with (R36). -/
def readSceneAt (id : Nat) (d : Direction) (s : State) : Option Scene :=
  match d with
  | .at => sceneOf id s
  | .next => s.store.scenes.find? fun sc => decide (id < sc.id)
  | .previous => s.store.scenes.reverse.find? fun sc => decide (sc.id < id)

/-- READ CUE (R36). -/
def execReadCue (l : Role) (tag : Byte) (cue : CueNum) (direction : Byte) (s : State) :
    Host.Outcome State Fault Refusal :=
  .next (serve l 0x16 tag (fun s =>
    match directionOf direction with
    | none => refuse .badField s
    | some d =>
      match readCueAt cue d s with
      | some c => acceptWith (bytesOfWords c.words) s
      | none => refuse .noSuchCue s) s)

/-- READ SCENE (R36). -/
def execReadScene (l : Role) (tag : Byte) (id : Half) (direction : Byte) (s : State) :
    Host.Outcome State Fault Refusal :=
  .next (serve l 0x17 tag (fun s =>
    match directionOf direction with
    | none => refuse .badField s
    | some d =>
      match readSceneAt id.toNat d s with
      | some sc => acceptWith (bytesOfWords sc.words) s
      | none => refuse .noSuchScene s) s)

end Sys2Proof.Machine
end

