-- ==== Sys2Proof/Machine/LinkCmds.lean ====
section
/-! DEFINITION. The Link Controller's commands (chapter 10): responses and bad frames (R169, R170), attach, detach and
presence (R171 to R173), events and masks (R175, R176), and READ STATUS (R177). -/

namespace Sys2Proof.Machine

/-! ### Responses and frames that are no request (R169, R170) -/

/-- The bytes that READ RESPONSE shifts out: the response in the slot, or NONE_PENDING (R169). -/
def slotBytes (k : Link) : List Byte :=
  match k.slot with
  | some r => r.bytes
  | none => Response.nonePending.bytes

/-- READ_RESPONSE: the response is shifted out and stays in the slot (R169). -/
def execReadResponse (l : Role) (s : State) : Host.Outcome State Fault Refusal :=
  .next (occur (fun s => s.setLink l { s.link l with sdo := slotBytes (s.link l) }) s)

/-- The code and tag that a malformed frame's answer echoes: 0 where fewer than two bytes were received (R170). -/
def echoOf (frame : List Byte) : Byte × Byte :=
  match frame with
  | code :: tag :: _ => (code, tag)
  | _ => (0, 0)

/-- BAD_FRAME: a malformed transaction is answered BAD_FRAME, without a presence reload (R170). -/
def execBadFrame (l : Role) (tx : List Byte) (s : State) : Host.Outcome State Fault Refusal :=
  .next (occur (respond l (echoOf (frameBytes tx)).1 (echoOf (frameBytes tx)).2
    { result := .badFrame, payload := [] }) s)

/-- UNKNOWN_REQUEST: answered so, with a presence reload where the link is ATTACHED (R170). -/
def execUnknownRequest (l : Role) (code tag : Byte) (s : State) : Host.Outcome State Fault Refusal :=
  .next (occur (fun s => respond l code tag { result := .unknownRequest, payload := [] } (reloadPresence l s)) s)

/-! ### Attach, detach and presence (R171 to R173) -/

/-- The payload of an accepted ATTACH: role, revision, tPRES. -/
def attachPayload (l : Role) (s : State) : List Byte :=
  u8 (roleCode l) ++ u8 Config.protocolRevision ++ u16 (s.link l).tPres

/-- A link as attaching leaves it: ATTACHED, its timer loaded, its queue empty and its lost flag clear (R171). -/
def Link.attach (k : Link) : Link := { k with attached := true, timer := k.tPres, queue := [], lost := false }

/-- ATTACH (R171). -/
def attachBody (l : Role) (revision : Byte) (s : State) : State × Reply :=
  if revision.toNat ≠ Config.protocolRevision then refuse .badRevision s
  else if (s.link l).attached then acceptWith (attachPayload l s) s
  else acceptWith (attachPayload l s) (s.setLink l (s.link l).attach)

/-- ATTACH (R171). -/
def execAttach (l : Role) (tag revision : Byte) (s : State) : Host.Outcome State Fault Refusal :=
  .next (serve l 0x01 tag (attachBody l revision) s)

/-- Step 1 of R173: DETACHED, the timer stopped, the queue emptied and the lost flag clear; the slot stays. -/
def Link.detach (k : Link) : Link := { k with attached := false, timer := 0, queue := [], lost := false }

/-- Whether a link is the loading link (R173). -/
def loadsOn (l : Role) (s : State) : Bool :=
  match s.smi.load with
  | some ld => ld.link == l
  | none => false

/-- Steps 1 to 5 of R173, in order. -/
def detachEffects (l : Role) (s : State) : State :=
  let t := s.setLink l (s.link l).detach
  let t := if loadsOn l t then abortLoad t else t
  let t := if t.store.holder = some l then changeHolder none t else t
  match l with
  | .console => t
  | .prompt => endCalls (promptCalls t) .linkLost t
  | .monitor => endTalk .linkLost t

/-- DETACH (R171, R173). -/
def execDetach (l : Role) (tag : Byte) (s : State) : Host.Outcome State Fault Refusal :=
  .next (serve l 0x02 tag (fun s => acceptWith [] (detachEffects l s)) s)

/-- An ATTACHED link whose presence timer has reached 0 expires (R172, R173). -/
def expirePresence (l : Role) (s : State) : State :=
  if (s.link l).attached ∧ (s.link l).timer = 0 then
    raise { kind := .linkLost, reason := .ofNat 8 (roleCode l) } (detachEffects l s)
  else s

/-- PRESENCE_EXPIRY (R172). -/
def execPresenceExpiry (l : Role) (s : State) : Host.Outcome State Fault Refusal := .next (occur (expirePresence l) s)

/-- SET PRESENCE: the period is clamped to 250..10,000 ms, and the frame reloads the timer with it (R172). -/
def execSetPresence (l : Role) (tag : Byte) (period : Half) (s : State) : Host.Outcome State Fault Refusal :=
  .next (serve l 0x03 tag (fun s =>
    let p := clampNat 250 10000 period.toNat
    acceptWith (u16 p) (s.setLink l { s.link l with tPres := p, timer := p })) s)

/-! ### Events (R175, R176) -/

/-- SET EVENT MASK: bits 31-28 are ignored (R175, R178). -/
def execSetEventMask (l : Role) (tag : Byte) (mask : Word) (s : State) : Host.Outcome State Fault Refusal :=
  .next (serve l 0x04 tag (fun s =>
    let m := mask.extractLsb' 0 28
    acceptWith (bytes32 (m.setWidth 32)) (s.setLink l { s.link l with mask := m })) s)

/-- The 26 bytes of an event record (R178). -/
def Event.bytes (e : Event) : List Byte :=
  u8 e.kind.code ++ flag e.endFlag ++ bytes32 e.clock ++ bytes24 e.cue ++ [e.inst] ++ [e.voice] ++ [e.source] ++
  [e.output] ++ [e.zone] ++ [e.call] ++ [e.reason] ++ bytes16 e.aux1 ++ bytes16 e.aux2 ++ bytes32 e.aux3 ++
  bytes16 e.zones

/-- READ EVENTS: the count is clamped to 1..16, that many of the oldest records are removed and returned, and the lost
flag is returned and cleared (R176). -/
def readEventsBody (l : Role) (count : Byte) (s : State) : State × Reply :=
  let k := s.link l
  let n := clampNat 1 Config.readEventsMax count.toNat
  acceptWith (flag k.lost ++ u8 (k.queue.drop n).length ++ u8 (k.queue.take n).length ++
      (k.queue.take n).flatMap Event.bytes)
    (s.setLink l { k with queue := k.queue.drop n, lost := false })

/-- READ EVENTS (R176). -/
def execReadEvents (l : Role) (tag count : Byte) (s : State) : Host.Outcome State Fault Refusal :=
  .next (serve l 0x05 tag (readEventsBody l count) s)

/-! ### READ STATUS (R177) -/

/-- The requesting link's fields of the status block. -/
def linkStatus (k : Link) : List Byte :=
  flag k.attached ++ u16 k.tPres ++ u16 k.timer ++ u8 k.queue.length ++ flag k.lost

/-- The store's and the port's fields of the status block. -/
def showStatus (s : State) : List Byte :=
  u8 s.store.state.code ++ u16 s.store.cues.length ++ u16 (actionTotal s.store.cues) ++ u16 s.store.scenes.length ++
  u16 (entryTotal s.store.scenes) ++ u16 s.smi.regions.length ++ u8 (holderCode s.store.holder) ++ flag (loading s) ++
  u8 (match s.smi.load with
    | some ld => ld.phase.code
    | none => 0) ++
  u8 (holdState s).code ++ u8 s.smi.port.code

/-- The sequencer's fields of the status block. -/
def sequencerStatus (s : State) : List Byte :=
  cueField s.seq.playhead ++ flag s.seq.standby ++ u8 s.seq.instances.length ++ u8 s.seq.authority.code ++
  flag s.seq.standbyRequired ++ u16 s.seq.guardMs

/-- How many voices have a state code. -/
def voiceCount (s : State) (code : Nat) : Nat := voiceNos.countP fun v => (s.voice v).state.code == code

/-- The voice, fade, output and reference fields of the status block. -/
def soundStatus (s : State) : List Byte :=
  (List.range 6).flatMap (fun c => u8 (voiceCount s c)) ++ u16 s.fades.length ++ u8 (classCount s.mix.classes .unused) ++
  u8 (classCount s.mix.classes .main) ++ u8 (classCount s.mix.classes .foldback) ++
  u8 (classCount s.mix.classes .relay) ++ u8 s.mix.clock.state.code

/-- The show-stop fields of the status block. -/
def stopStatus (s : State) : List Byte :=
  u8 s.showStop.state.code ++ u8 (lineCode s.showStop.line) ++ lv s.showStop.mute ++ fadeField .stopMute s ++
  u16 s.showStop.tStop ++ u16 s.showStop.tResume ++ u8 (announceCode s.showStop.announceIn) ++
  i16 s.showStop.announceLevel

/-- The talk fields of the status block (R138). -/
def talkStatus (s : State) : List Byte :=
  (match s.foldback.talk with
    | some t => flag true ++ u8 t.input.val ++ bytes32 t.set ++ i16 t.level ++ u16 t.gate.left
    | none => List.replicate 10 0) ++
  talkEndBytes s

/-- The status block (R177, R178). -/
def statusBlock (l : Role) (s : State) : List Byte :=
  bytes32 s.timing.showClock ++ linkStatus (s.link l) ++ showStatus s ++ sequencerStatus s ++ soundStatus s ++
  stopStatus s ++ u8 s.relay.zones.length ++ u8 s.relay.playing.length ++ u8 s.relay.waiting.length ++ talkStatus s

/-- READ STATUS (R177). -/
def execReadStatus (l : Role) (tag : Byte) (s : State) : Host.Outcome State Fault Refusal :=
  .next (serve l 0x06 tag (fun s => acceptWith (statusBlock l s) s) s)

end Sys2Proof.Machine
end

