-- ==== Sys2Proof/Machine/SequencerCmds.lean ====
section
/-! DEFINITION. The Cue Sequencer's commands (chapter 3): GO (R41 to R43), STANDBY (R39), FIRE (R44), SET PLAYHEAD
(R45), the GO settings (R40), STOP CUE and STOP ALL (R59, R60), READ RUNNING (R62), and the ends of a pre-wait (R49)
and of a pending follow (R55). -/

namespace Sys2Proof.Machine

/-! ### The checks that several requests share -/

/-- The refusals of NO SHOW and LOADING (R39, R41, R44, R45). -/
def storeRefusal (s : State) : Option Result :=
  match s.store.state with
  | .noShow => some .noShow
  | .loading => some .loading
  | .ready => none

/-- The refusals of NO SHOW, LOADING and STOPPED, in order (R41, R44, R71). -/
def showRefusal (s : State) : Option Result :=
  match storeRefusal s with
  | some r => some r
  | none => if s.showStop.state = .stopped then some .showStopped else none

/-- Whether the GO authority permits a role (R41). -/
def GoAuthority.permits : GoAuthority → Role → Bool
  | .promptOnly, .prompt => true
  | .consoleOnly, .console => true
  | .shared, .console => true
  | .shared, .prompt => true
  | _, _ => false

/-- The milliseconds passed since the guard stamp, modulo 2^32 (R41). -/
def stampAge (st : GuardStamp) (s : State) : Nat := (s.timing.showClock - st.time).toNat

/-- The milliseconds of the guard still to run: 0 when it has run out or no stamp is present (R41, R62). -/
def guardLeft (s : State) : Nat :=
  match s.seq.stamp with
  | some st => s.seq.guardMs - stampAge st s
  | none => 0

/-! ### GO (R41, R42) -/

/-- The reply to a GO refused by the checks of R41, in order; none where every check passes. -/
def goRefusal (l : Role) (expected : Option CueNum) (s : State) : Option Reply :=
  if s.seq.authority.permits l = false then some { result := .notPermitted, payload := [] }
  else match showRefusal s with
    | some r => some { result := r, payload := [] }
    | none =>
      if 0 < guardLeft s then
        some { result := .doubleGo, payload := cueField (s.seq.stamp.map (·.cue)) ++ u16 (guardLeft s) }
      else match s.seq.playhead with
        | none => some { result := .endOfList, payload := [] }
        | some p =>
          if expected.isSome ∧ expected ≠ some p then some { result := .stale, payload := cueField (some p) }
          else if s.seq.standbyRequired ∧ ¬ s.seq.standby then some { result := .notStandingBy, payload := [] }
          else if hasRoom s then none
          else some { result := .cueTableFull, payload := [] }

/-- The effects of an accepted GO in order: room, the fire, the guard stamp, the playhead (R42). -/
def acceptGo (l : Role) (c : Cue) (s : State) : State :=
  let t := fireCue (.go l) c (makeRoom s)
  let t : State := { t with seq := { t.seq with stamp := some { time := t.timing.showClock, cue := c.num } } }
  movePlayhead (nextGo c.num t) 0 t

/-- GO (R41). The playhead names a stored cue (R38); were it not stored, GO would be refused NO_SUCH_CUE. -/
def goBody (l : Role) (expected : Option CueNum) (s : State) : State × Reply :=
  match goRefusal l expected s with
  | some r => (s, r)
  | none =>
    match s.seq.playhead.bind (cueOf · s) with
    | none => refuse .noSuchCue s
    | some c =>
      let t := acceptGo l c s
      acceptWith (cueField (some c.num) ++ u8 (takeInstId (makeRoom s)) ++ cueField t.seq.playhead) t

/-- GO (R41). -/
def execGo (l : Role) (tag : Byte) (expected : Option CueNum) (s : State) : Host.Outcome State Fault Refusal :=
  .next (serve l 0x20 tag (goBody l expected) s)

/-! ### STANDBY, FIRE and SET PLAYHEAD (R39, R44, R45) -/

/-- STANDBY (R39). -/
def standbyBody (s : State) : State × Reply :=
  match storeRefusal s with
  | some r => refuse r s
  | none =>
    match s.seq.playhead with
    | none => refuse .endOfList s
    | some p => acceptWith [] (raise { kind := .standby, cue := p } { s with seq := { s.seq with standby := true } })

/-- STANDBY (R39). -/
def execStandby (l : Role) (tag : Byte) (s : State) : Host.Outcome State Fault Refusal :=
  .next (serve l 0x21 tag standbyBody s)

/-- FIRE (R44). -/
def fireBody (l : Role) (n : CueNum) (s : State) : State × Reply :=
  match showRefusal s with
  | some r => refuse r s
  | none =>
    match cueOf n s with
    | none => refuse .noSuchCue s
    | some c =>
      if hasRoom s then acceptWith (u8 (takeInstId (makeRoom s))) (fireCue (.fire l) c (makeRoom s))
      else refuse .cueTableFull s

/-- FIRE (R44). -/
def execFire (l : Role) (tag : Byte) (cue : CueNum) (s : State) : Host.Outcome State Fault Refusal :=
  .next (serve l 0x22 tag (fireBody l cue) s)

/-- The playhead that a request names: a major number of 0 names END (R178). -/
def namedPlayhead (c : CueNum) : Option CueNum := if major c = 0 then none else some c

/-- SET PLAYHEAD (R45). -/
def setPlayheadBody (n : CueNum) (s : State) : State × Reply :=
  match storeRefusal s with
  | some r => refuse r s
  | none =>
    if (namedPlayhead n).isSome ∧ (cueOf n s).isNone then refuse .noSuchCue s
    else if s.seq.playhead = namedPlayhead n then acceptWith [] s
    else acceptWith [] (movePlayhead (namedPlayhead n) 1 s)

/-- SET PLAYHEAD (R45). -/
def execSetPlayhead (l : Role) (tag : Byte) (cue : CueNum) (s : State) : Host.Outcome State Fault Refusal :=
  .next (serve l 0x23 tag (setPlayheadBody cue) s)

/-! ### The GO settings (R40) -/

/-- SET GO AUTHORITY (R40). -/
def execSetGoAuthority (l : Role) (tag value : Byte) (s : State) : Host.Outcome State Fault Refusal :=
  .next (serve l 0x24 tag (fun s =>
    match authorityOf value with
    | none => refuse .badField s
    | some a => acceptWith [] { s with seq := { s.seq with authority := a } }) s)

/-- A flag of a live control: 0 off, 1 on, anything else has no meaning (R178). -/
def switchOf (v : Byte) : Option Bool :=
  match v.toNat with
  | 0 => some false
  | 1 => some true
  | _ => none

/-- SET STANDBY REQUIRED (R40). -/
def execSetStandbyRequired (l : Role) (tag value : Byte) (s : State) : Host.Outcome State Fault Refusal :=
  .next (serve l 0x25 tag (fun s =>
    match switchOf value with
    | none => refuse .badField s
    | some b => acceptWith [] { s with seq := { s.seq with standbyRequired := b } }) s)

/-- SET GUARD: tGUARD is clamped to 2,000 ms (R40). -/
def execSetGuard (l : Role) (tag : Byte) (ms : Half) (s : State) : Host.Outcome State Fault Refusal :=
  .next (serve l 0x26 tag (fun s =>
    acceptWith (u16 (clampNat 0 2000 ms.toNat)) { s with seq := { s.seq with guardMs := clampNat 0 2000 ms.toNat } }) s)

/-! ### STOP CUE and STOP ALL (R59, R60) -/

/-- The ids of the instances of a cue, in fire order. -/
def instsOfCue (n : CueNum) (s : State) : List Nat := (s.seq.instances.filter fun i => i.cue == n).map (·.id)

/-- STOP CUE (R59). -/
def execStopCue (l : Role) (tag : Byte) (cue : CueNum) (fade : Word) (s : State) : Host.Outcome State Fault Refusal :=
  .next (serve l 0x27 tag (fun s =>
    acceptWith (u8 (instsOfCue cue s).length) (reachInsts (clampTime fade) (instsOfCue cue s) s)) s)

/-- The fade time of a STOP ALL: 1,000 ms where it is absent (R60). -/
def stopAllTime (fade : Option Word) : Nat :=
  match fade with
  | some t => clampTime t
  | none => 1000

/-- Every instance is reached, and every orphan is stopped (R60). -/
def stopEverything (t : Nat) (s : State) : State :=
  stopVoices (orphans s) t (reachInsts t (s.seq.instances.map (·.id)) s)

/-- STOP ALL (R60). -/
def execStopAll (l : Role) (tag : Byte) (fade : Option Word) (s : State) : Host.Outcome State Fault Refusal :=
  .next (serve l 0x28 tag (fun s => acceptWith [] (stopEverything (stopAllTime fade) s)) s)

/-! ### READ RUNNING (R62) -/

/-- One instance of the running block (R46, R178). -/
def instBytes (s : State) (i : CueInstance) : List Byte :=
  u8 i.id ++ bytes24 i.cue ++ u8 i.phase.code ++ u32 i.preWait ++ flag i.follow.isSome ++
  cueField (i.follow.map (·.cue)) ++
  u32 (match i.follow with
    | some f => f.delay
    | none => 0) ++
  u8 (ownedCount s i.id) ++ u8 i.cause.code ++ u8 i.cause.roleByte ++ bytes32 i.fireTime ++ flag i.stopped

/-- The guard stamp's fields of the running block: present, time, cue and the guard remaining. -/
def stampBytes (s : State) : List Byte :=
  flag s.seq.stamp.isSome ++
  bytes32 (match s.seq.stamp with
    | some st => st.time
    | none => 0) ++
  cueField (s.seq.stamp.map (·.cue)) ++ u16 (guardLeft s)

/-- The running block (R62, R178). -/
def runningBlock (s : State) : List Byte :=
  cueField s.seq.playhead ++ flag s.seq.standby ++ stampBytes s ++ u8 s.seq.authority.code ++
  flag s.seq.standbyRequired ++ u16 s.seq.guardMs ++ u8 s.seq.instances.length ++
  s.seq.instances.flatMap (instBytes s)

/-- READ RUNNING (R62). -/
def execReadRunning (l : Role) (tag : Byte) (s : State) : Host.Outcome State Fault Refusal :=
  .next (serve l 0x29 tag (fun s => acceptWith (runningBlock s) s) s)

/-! ### The timers of instances (R49, R55) -/

/-- The end of a pre-wait: an instance in PREWAIT with nothing remaining enters RUNNING (R49). -/
def endPrewait (id : Nat) (s : State) : State :=
  match instOf id s with
  | some i => if i.phase = .prewait ∧ i.preWait = 0 then runInst id s else s
  | none => s

/-- PREWAIT_END (R49). -/
def execPrewaitEnd (id : Byte) (s : State) : Host.Outcome State Fault Refusal := .next (occur (endPrewait id.toNat) s)

/-- The expiry of a pending follow whose delay has run out (R55). -/
def endFollow (id : Nat) (s : State) : State :=
  if followDelay id s = some 0 then expireFollow (fireCue .follow) id s else s

/-- FOLLOW_EXPIRY (R55). -/
def execFollowExpiry (id : Byte) (s : State) : Host.Outcome State Fault Refusal := .next (occur (endFollow id.toNat) s)

end Sys2Proof.Machine
end

