-- ==== Sys2Proof/Machine/ShowStopCmds.lean ====
section
/-! DEFINITION. The Show Stop Controller's commands (chapter 9): entry to show stop (R161) by SHOW STOP (R160) or by the
line (R159), RESUME (R163), the settings (R165), and the changes of the line. -/

namespace Sys2Proof.Machine

/-! ### Entering show stop (R160, R161) -/

/-- Every instance ends with reason SHOW_STOP and its voices become orphans (R61). R61 and R161 give no order among the
instances: fire order is a DESIGN CHOICE (log 23). -/
def endAllInsts (s : State) : State :=
  s.seq.instances.foldl (fun t i => endInst i 2 (orphanVoices i.id t)) s

/-- The voices that no call owns (R161). R161 gives no order in which they are stopped: voice-number order, whatever
their owners, is a DESIGN CHOICE (log 23). -/
def voicesOfNoCall (s : State) : List VoiceNo :=
  voiceNos.filter fun v => (s.voice v).busy && !(s.voice v).ownedBySomeCall

/-- The post of a stop-mute fade (R161, R163). -/
def mutePost (goal : Level) (t : Nat) : Post :=
  { target := .stopMute, goal := goal, time := t, action := .nothing, poster := .showStop }

/-- Writes the show state. -/
def setShowState (st : ShowState) (s : State) : State := { s with showStop := { s.showStop with state := st } }

/-- Steps 1 to 3 of R161: the state, the cues and the voices that no call owns. -/
def stopCues (s : State) : State :=
  let t := endAllInsts (setShowState .stopped s)
  stopVoices (voicesOfNoCall t) t.showStop.tStop t

/-- Entry to show stop, the effects of R161 in order; `line` says that the line caused it. The announcement of step 7
is read from the show state at each frame. -/
def enterShowStop (line : Bool) (s : State) : State :=
  let t := stopCues s
  let t := post (mutePost .off t.showStop.tStop) t
  let t := createShowStopCall (endTalk .showStop t)
  raise { kind := .showStopped, reason := if line then 1 else 0 } t

/-- Show stop is entered from NORMAL or RESUMING; in STOPPED nothing changes (R160). -/
def takeShowStop (line : Bool) (s : State) : State :=
  if s.showStop.state = .stopped then s else enterShowStop line s

/-- The answer that carries the show state after the request (R160, R163). -/
def acceptShowState (s : State) : State × Reply := acceptWith (u8 s.showStop.state.code) s

/-- SHOW STOP (R160). -/
def execShowStop (l : Role) (tag : Byte) (s : State) : Host.Outcome State Fault Refusal :=
  .next (serve l 0x70 tag (fun s => acceptShowState (takeShowStop false s)) s)

/-! ### Resuming (R163) -/

/-- The show-stop call ends with reason RESUMED (R156). -/
def endShowStopCall (s : State) : State :=
  match findShowStopCall s with
  | some c => endCall c.id .resumed s
  | none => s

/-- The effects of an accepted RESUME in STOPPED, in order (R163). -/
def resumeShow (s : State) : State :=
  let t := endShowStopCall (setShowState .resuming s)
  let t := raise { kind := .showResumed, reason := 0 } t
  post (mutePost (.db 0) t.showStop.tResume) t

/-- RESUME (R163). -/
def resumeBody (s : State) : State × Reply :=
  if s.showStop.line = .asserted then refuse .lineActive s
  else if s.showStop.state = .stopped then acceptShowState (resumeShow s)
  else acceptShowState s

/-- RESUME (R163). -/
def execResume (l : Role) (tag : Byte) (s : State) : Host.Outcome State Fault Refusal :=
  .next (serve l 0x71 tag resumeBody s)

/-! ### Settings (R165) -/

/-- SET STOP TIMES: tSTOP 0..5,000 ms, tRESUME 0..10,000 ms (R165). -/
def execSetStopTimes (l : Role) (tag : Byte) (stop resume : Half) (s : State) : Host.Outcome State Fault Refusal :=
  .next (serve l 0x72 tag (fun s =>
    let a := clampNat 0 5000 stop.toNat
    let b := clampNat 0 10000 resume.toNat
    acceptWith (u16 a ++ u16 b) { s with showStop := { s.showStop with tStop := a, tResume := b } }) s)

/-- The announce input that a code names: 0..15, or 255 for NONE (R165, R178). -/
def announceOf (b : Byte) : Option (Option LiveNo) :=
  if b = 255#8 then some none else (index? 16 b.toNat).map some

/-- SET ANNOUNCE (R165). -/
def setAnnounceBody (input : Byte) (level : Half) (s : State) : State × Reply :=
  match announceOf input with
  | none => refuse .badField s
  | some i =>
    let x := clampNumeric (-300) 60 (levelOfBits level)
    acceptWith (u8 (announceCode i) ++ i16 x) { s with showStop := { s.showStop with announceIn := i, announceLevel := x } }

/-- SET ANNOUNCE (R165). -/
def execSetAnnounce (l : Role) (tag input : Byte) (level : Half) (s : State) : Host.Outcome State Fault Refusal :=
  .next (serve l 0x73 tag (setAnnounceBody input level) s)

/-! ### The line (R159) -/

/-- The line state is written and LINE_CHANGED is raised (R159). -/
def changeLine (v : LineState) (s : State) : State :=
  raise { kind := .lineChanged, reason := .ofNat 8 (lineCode v) } { s with showStop := { s.showStop with line := v } }

/-- Whether a change of the line is taken: two consecutive samples agree on the new level (R159). -/
def lineChanges (v : LineState) (s : State) : Bool :=
  s.showStop.line != v && s.showStop.sampleNew == v && s.showStop.sampleOld == v

/-- A change of the line to ASSERTED enters show stop (R159, R160). -/
def assertLine (s : State) : State :=
  if lineChanges .asserted s then takeShowStop true (changeLine .asserted s) else s

/-- SHOWSTOP_ASSERTED (R160). -/
def execShowstopAsserted (s : State) : Host.Outcome State Fault Refusal := .next (occur assertLine s)

/-- A change of the line to DEASSERTED leaves the show state (R159). -/
def deassertLine (s : State) : State := if lineChanges .deasserted s then changeLine .deasserted s else s

/-- SHOWSTOP_DEASSERTED (R159). -/
def execShowstopDeasserted (s : State) : Host.Outcome State Fault Refusal := .next (occur deassertLine s)

end Sys2Proof.Machine
end

