-- ==== Sys2Proof/Machine/Port.lean ====
section
/-! DEFINITION. The Show Memory Interface (1.1 to 1.3): the arbiter (R4, R5), the phases of a transfer (R1), the
external loader's hold (R7, R8), the completion of a voice fetch (R6, R75, R77) and SET ACCESS DELAY (R2). -/

namespace Sys2Proof.Machine

/-! ### The arbiter (R4, R5) -/

/-- Whether a voice's member of the request set is URGENT: fewer than 256 audio frames in its FIFO (R4). -/
def Voice.urgent (x : Voice) : Bool := decide (x.frames < Config.primeFrames)

/-- The candidates of an arbitration: the URGENT members if there are any, and otherwise all voice members (R4). -/
def candidates (s : State) : List VoiceNo :=
  match (waitingVoices s).filter fun v => (s.voice v).urgent with
  | [] => waitingVoices s
  | vs => vs

/-- The voice numbers in rotation after one, upward and wrapping from V31 to V0 (R4). -/
def rotation (last : VoiceNo) : List VoiceNo := voiceNos.map fun k => last + 1 + k

/-- The highest priority of some voices. -/
def topPriority (s : State) (vs : List VoiceNo) : Nat := vs.foldl (fun m v => max m (s.voice v).priority) 0

/-- The voice that wins an arbitration, if the set holds a voice member (R4). -/
def winner (s : State) : Option VoiceNo :=
  (rotation s.smi.lastServed).find? fun v =>
    (candidates s).contains v && (s.voice v).priority == topPriority s (candidates s)

/-- A transfer begins in phase ACCESS with the delay now set (R1, R2). -/
def startTransfer (user : TransferUser) (start len : Nat) (s : State) : State :=
  { s with smi := { s.smi with
      port := .fetch { phase := .access, user := user, start := start, len := len, tacc := s.smi.tacc, ready := false,
                       taccExpired := false } } }

/-- A voice fetch starts: its block is formed, its fetch state becomes IN FLIGHT and it is the last served (R3, R4,
R5). -/
def startVoiceFetch (v : VoiceNo) (s : State) : State :=
  let x := s.voice v
  let t := startTransfer (.voice v) ((regionAt s x.region).base + x.next) (min Config.blockWords (x.out - x.next))
    (s.setVoice v { x with fetch := .inFlight })
  { t with smi := { t.smi with lastServed := v } }

/-- A load read starts at the next unread word of the phase (R5, R15). -/
def startLoadRead (s : State) : State :=
  match s.smi.load with
  | some ld => startTransfer (.load false) ld.next (min Config.blockWords ld.remaining) s
  | none => s

/-- The MEMORY_HOLD record: subject 0 RELEASED, 1 GRANTED. -/
def memoryHoldEvent (granted : Bool) : Event := { kind := .memoryHold, reason := if granted then 1 else 0 }

/-- The hold is granted: the port is HELD, MHACK is asserted and MEMORY_HOLD is raised (R4, R7). -/
def grantHold (s : State) : State :=
  raise (memoryHoldEvent true) { s with smi := { s.smi with port := .held } }

/-- Arbitration: on an IDLE port it picks one winner, or none where nothing is asked (R4). -/
def arbitrate (s : State) : State :=
  if s.smi.port = .idle then
    if s.smi.mhreq then grantHold s
    else match winner s with
      | some v => startVoiceFetch v s
      | none => if loadMember s then startLoadRead s else s
  else s

/-- ARBITRATE (R4). -/
def execArbitrate (s : State) : Host.Outcome State Fault Refusal := .next (occur arbitrate s)

/-! ### The phases of a transfer (R1) -/

/-- ACCESS ends when both events have come: TRANSFER begins (R1). -/
def Transfer.settle (t : Transfer) : Transfer :=
  if t.ready ∧ t.taccExpired then { t with phase := .transfer } else t

/-- `f` on the transfer in ACCESS; nothing else is changed. -/
def inAccess (f : Transfer → Transfer) (s : State) : State :=
  match s.smi.port with
  | .fetch t => if t.phase = .access then { s with smi := { s.smi with port := .fetch (f t).settle } } else s
  | _ => s

/-- SM_RDY_SEEN: a ready seen in ACCESS is retained (R1). -/
def execSmRdySeen (s : State) : Host.Outcome State Fault Refusal :=
  .next (occur (inAccess fun t => { t with ready := true }) s)

/-- TACC_EXPIRY (R1). -/
def execTaccExpiry (s : State) : Host.Outcome State Fault Refusal :=
  .next (occur (inAccess fun t => { t with taccExpired := true }) s)

/-! ### The external loader's hold (R7, R8) -/

/-- MHREQ is asserted: granted on an IDLE port, PENDING behind a transfer (R7). -/
def requestHold (s : State) : State :=
  let t : State := { s with smi := { s.smi with mhreq := true } }
  match s.smi.port with
  | .idle => grantHold t
  | _ => t

/-- MHREQ_ASSERTED (R7). -/
def execMhreqAsserted (s : State) : Host.Outcome State Fault Refusal := .next (occur requestHold s)

/-- MHREQ is deasserted: a granted hold is released and the arbiter arbitrates at once (R8). -/
def releaseHold (s : State) : State :=
  let t : State := { s with smi := { s.smi with mhreq := false } }
  match s.smi.port with
  | .held => arbitrate (raise (memoryHoldEvent false) { t with smi := { t.smi with port := .idle } })
  | _ => t

/-- MHEND (R8). -/
def execMhend (s : State) : Host.Outcome State Fault Refusal := .next (occur releaseHold s)

/-! ### The completion of a voice fetch (R6, R75, R77) -/

/-- The loop return of R77: from the out word with loops remaining, to the loop word or the in word. -/
def Voice.loopReturn (x : Voice) : Voice :=
  if x.next = x.out ∧ 0 < x.loops then
    { x with next := x.loop.getD x.inWord, loops := if x.loops = 255 then 255 else x.loops - 1 }
  else x

/-- The words of a block reach the fetch buffer; the next word position advances and returns where a loop is due
(R6, R75). -/
def Voice.filled (x : Voice) (words : List Word) : Voice :=
  Voice.loopReturn { x with fetch := .none, buf := words, bufPos := x.next, next := x.next + words.length }

/-- A voice fetch completes: IN FLIGHT, its words fill the voice's buffer and the decoder runs; otherwise they are
discarded. The port leaves FETCH, and arbitration of the idle bus is its own step (R6, R75, log 4). -/
def completeVoiceFetch (words : List Word) (s : State) : State :=
  match s.smi.port with
  | .fetch t =>
    if t.phase = .transfer ∧ words.length = t.len then
      match t.user with
      | .voice v =>
        let idle : State := { s with smi := { s.smi with port := .idle } }
        if (s.voice v).fetch = .inFlight then runDecoder v (idle.setVoice v ((s.voice v).filled words)) else idle
      | .load _ => s
    else s
  | _ => s

/-- VOICE_FETCH_COMPLETE (R6). -/
def execVoiceFetchComplete (words : List Word) (s : State) : Host.Outcome State Fault Refusal :=
  .next (occur (completeVoiceFetch words) s)

/-! ### SET ACCESS DELAY (R2) -/

/-- A delay in ns clamped to 2,550 and rounded down to a multiple of 10 (R2). -/
def accessDelay (ns : Half) : Nat := min ns.toNat Config.maxAccessDelay / 10 * 10

/-- SET ACCESS DELAY (R2). -/
def execSetAccessDelay (l : Role) (tag : Byte) (ns : Half) (s : State) : Host.Outcome State Fault Refusal :=
  .next (serve l 0x1A tag (fun s =>
    acceptWith (u16 (accessDelay ns)) { s with smi := { s.smi with tacc := accessDelay ns } }) s)

end Sys2Proof.Machine
end

