-- ==== Sys2Proof/Machine/Time.lean ====
section
/-! DEFINITION. The part's millisecond (R125) with every timer that it steps, and device reset: RESET_n asserted and
released (R19, R37, R63, R89, R107, R126, R139, R158, R167, R168). -/

namespace Sys2Proof.Machine

/-! ### The millisecond (R94, R125) -/

/-- An instance's timers: the pre-wait remaining in PREWAIT (R49) and the delay of a pending follow (R53). -/
def CueInstance.tick (i : CueInstance) : CueInstance :=
  { i with
    preWait := match i.phase with
      | .prewait => i.preWait - 1
      | _ => i.preWait,
    follow := i.follow.map fun f => { f with delay := f.delay - 1 } }

/-- A gate timer falls by one millisecond where it is not reloaded (R137, R155). -/
def GateTimer.tick (g : GateTimer) : GateTimer := if g.reloaded then g else { g with left := g.left - 1 }

/-- A link's presence timer, which runs only in ATTACHED (R172). -/
def Link.tick (k : Link) : Link := if k.attached then { k with timer := k.timer - 1 } else k

/-- Qualification counts the milliseconds for which the reference is present, in ACQUIRING and HOLDOVER, up to the
1,000 that lock needs (R123). -/
def ClockRef.tick (c : ClockRef) : ClockRef :=
  match c.present, c.state with
  | true, .acquiring => { c with qualified := min (c.qualified + 1) Config.lockMs }
  | true, .holdover => { c with qualified := min (c.qualified + 1) Config.lockMs }
  | _, _ => c

/-- Every millisecond timer but the fades: the show clock, pre-waits and follows, gates, presence, qualification, and
the sampling of SHOWSTOP_n (R49, R53, R123, R125, R137, R155, R159, R172). -/
def stepTimers (sample : LineState) (s : State) : State :=
  { s with
    timing := { s.timing with showClock := s.timing.showClock + 1, frames := s.timing.frames - Config.framesPerMs },
    seq := { s.seq with instances := s.seq.instances.map CueInstance.tick },
    relay := { s.relay with playing := s.relay.playing.map fun c => { c with gate := c.gate.map GateTimer.tick } },
    foldback := { s.foldback with talk := s.foldback.talk.map fun t => { t with gate := t.gate.tick } },
    links := s.links.map Link.tick,
    mix := { s.mix with clock := s.mix.clock.tick },
    showStop := { s.showStop with sampleNew := sample, sampleOld := s.showStop.sampleNew } }

/-- The end of a millisecond, where its 48 frames have passed (R125). -/
def millisecondTick (sample : LineState) (s : State) : State :=
  if Config.framesPerMs ≤ s.timing.frames then stepFades (stepTimers sample s) else s

/-- MILLISECOND_TICK (R125). -/
def execMillisecondTick (sample : LineState) (s : State) : Host.Outcome State Fault Refusal :=
  .next (occur (millisecondTick sample) s)

/-! ### Device reset -/

/-- RESET_n is asserted: a transfer ends at once, every voice ends without a ramp, the fade list empties, the outputs
carry 0, talk ends without a last end, every call, zone and tail goes and a show stop ends, all without event (R19,
R89, R107, R126, R139, R158, R167). The rest stands as it is until the release (log 2). -/
def assertReset (s : State) : State :=
  { s with
    smi := { s.smi with port := .idle },
    stream := { s.stream with voices := Vector.replicate 32 Voice.freeRecord },
    fades := [],
    mix := { s.mix with txNext := Vector.replicate 32 0, tx := Vector.replicate 32 0 },
    foldback := { s.foldback with talk := none },
    relay := { s.relay with zones := [], waiting := [], playing := [], tails := [] },
    showStop := { s.showStop with state := .normal },
    timing := { s.timing with inReset := true } }

/-- RESET_ASSERTED. -/
def execResetAsserted (s : State) : Host.Outcome State Fault Refusal := .next (assertReset s)

/-- The line as reset takes it, without the two-sample rule; ASSERTED leaves STOPPED with the stop mute OFF and the
show-stop call on no zone (R167). -/
def takeLineAtReset (line : LineState) (s : State) : State :=
  match line with
  | .deasserted => s
  | .asserted =>
    createShowStopCall { s with showStop :=
      { s.showStop with state := .stopped, mute := .off, line := .asserted, sampleNew := .asserted,
                        sampleOld := .asserted } }

/-- RESET_n is released: the state right after reset, with the line and MHREQ as they stand (R19, R167). The queue of
waiting commands is the model's and stays. -/
def releaseReset (line : LineState) (mhreq : Bool) (s : State) : State :=
  let t := takeLineAtReset line { State.reset with pending := s.pending }
  if mhreq then requestHold t else t

/-- RESET_RELEASED. -/
def execResetReleased (line : LineState) (mhreq : Bool) (s : State) : Host.Outcome State Fault Refusal :=
  .next (releaseReset line mhreq s)

end Sys2Proof.Machine
end

