-- ==== Sys2Proof/Machine/VoiceCmds.lean ====
section
/-! DEFINITION. The Stream Engine's commands (chapter 4): PLAY (R71), STOP VOICE (R72), READ VOICES (R88), and the
events of a voice: entry to PLAYING (R73), starvation and return (R80), the natural end (R81, R82), the ends of the
ramps (R69, R85) and a run of the decoder (R76). -/

namespace Sys2Proof.Machine

/-! ### PLAY (R71) -/

/-- The PLAY action that a request carries, with its word checks; none where a field fails (R71). -/
def readPlayRequest (w : ActionWords) (s : State) : Option PlaySpec :=
  if bitsAt w.a0 24 8 = 1 then
    match readPlay w with
    | some p => check (wordCheck s.smi.regions (.play p)) p
    | none => none
  else none

/-- PLAY (R71). -/
def playBody (w : ActionWords) (s : State) : State × Reply :=
  match s.store.state with
  | .noShow => refuse .noShow s
  | .loading => refuse .loading s
  | .ready =>
    if s.showStop.state = .stopped then refuse .showStopped s
    else match readPlayRequest w s with
      | none => refuse .badField s
      | some p =>
        if s.smi.regions.length ≤ p.region then refuse .badReference s
        else match allocateScan (p.request .orphan) s with
          | some r => acceptWith (u8 r.2.val) r.1
          | none => refuse .voiceShortage s

/-- PLAY (R71). -/
def execPlay (l : Role) (tag : Byte) (action : ActionWords) (s : State) : Host.Outcome State Fault Refusal :=
  .next (serve l 0x30 tag (playBody action) s)

/-! ### STOP VOICE (R72) -/

/-- A voice that a stop may free at once leaves a call that owned it, which ends with VOICE_STOPPED (R72, R154). -/
def stopVoiceOfCall (v : VoiceNo) (t : Nat) (s : State) : State :=
  match (s.voice v).state, (s.voice v).owner with
  | .starting _, .call id => endCall id .voiceStopped (stopVoice v t s)
  | _, _ => stopVoice v t s

/-- STOP VOICE (R72). -/
def execStopVoice (l : Role) (tag voice : Byte) (fade : Word) (s : State) : Host.Outcome State Fault Refusal :=
  .next (serve l 0x31 tag (fun s =>
    match index? 32 voice.toNat with
    | none => refuse .badField s
    | some v => acceptWith (u8 (s.voice v).state.code) (stopVoiceOfCall v (clampTime fade) s)) s)

/-! ### READ VOICES (R88) -/

/-- The owner's fields of a voice record: kind, instance id, cue number and call id. -/
def ownerBytes : Owner → List Byte
  | .orphan => u8 0 ++ u8 0 ++ bytes24 0 ++ u8 0
  | .inst id cue => u8 1 ++ u8 id ++ bytes24 cue ++ u8 0
  | .call id => u8 2 ++ u8 0 ++ bytes24 0 ++ u8 id

/-- The fields of a voice record after its state (R88, R178). -/
def voiceFields (s : State) (v : VoiceNo) (x : Voice) : List Byte :=
  u8 x.state.stopModeCode ++ ownerBytes x.owner ++ u8 x.priority ++ u8 x.dest.code ++ u8 x.group ++ u16 x.region ++
  u32 x.next ++ u32 x.out ++ flag x.loop.isSome ++ u32 (x.loop.getD 0) ++ u8 x.loops ++ lv x.level ++
  flag (fadeFor (.voice v) s).isSome ++ bytes32 x.startTime ++ u8 x.fetch.code ++ u16 x.frames ++
  u16 x.fifo.length ++ u16 x.buf.length ++ u16 x.underruns

/-- The number of bytes of a voice record after its voice and state (R178). -/
def voiceFieldBytes : Nat := 42

/-- A voice record; a FREE voice's fields after the state are 0 (R88, R178). -/
def voiceBytes (s : State) (v : VoiceNo) : List Byte :=
  let x := s.voice v
  u8 v.val ++ u8 x.state.code ++
    (if x.busy then voiceFields s v x else List.replicate voiceFieldBytes 0)

/-- READ VOICES (R88). -/
def execReadVoices (l : Role) (tag : Byte) (s : State) : Host.Outcome State Fault Refusal :=
  .next (serve l 0x32 tag (fun s => acceptWith (voiceNos.flatMap (voiceBytes s)) s) s)

/-! ### Entry to PLAYING and starvation (R73, R80) -/

/-- The fade-in of a voice that enters PLAYING (R73, which names no poster: the Stream Engine, DEDUCED, log 16). -/
def fadeInPost (v : VoiceNo) (goal : Level) (t : Nat) : Post :=
  { target := .voice v, goal := goal, time := t, action := .nothing, poster := .stream }

/-- A STARTING voice that is primed enters PLAYING, and a pending fade-in is posted (R73). -/
def enterPlaying (v : VoiceNo) (s : State) : State :=
  let x := s.voice v
  match x.state with
  | .starting fadeIn =>
    if x.primed then
      let t := s.setVoice v { x with state := .playing }
      match fadeIn with
      | some d => post (fadeInPost v x.startLevel d) t
      | none => t
    else s
  | _ => s

/-- ENTER_PLAYING (R73). -/
def execEnterPlaying (v : VoiceNo) (s : State) : Host.Outcome State Fault Refusal := .next (occur (enterPlaying v) s)

/-- The UNDERRUN record of a voice (R80, R176); its owner is an instance id or a call id, and no cue number. -/
def underrunEvent (v : VoiceNo) (x : Voice) (count : Nat) : Event :=
  { Event.ofOwner x.owner
      { kind := .underrun, voice := .ofNat 8 v.val, aux1 := .ofNat 16 x.region, aux2 := .ofNat 16 count,
        aux3 := .ofNat 32 x.next } with cue := 0 }

/-- The count that an entry to STARVED gives (R64, R80). -/
def Voice.nextUnderruns (x : Voice) : Nat := min (x.underruns + 1) Config.counterTop

/-- A PLAYING voice whose FIFO is empty while its region is not exhausted enters STARVED (R80). -/
def enterStarved (v : VoiceNo) (s : State) : State :=
  let x := s.voice v
  if x.state = .playing ∧ x.fifo = [] ∧ x.exhausted = false then
    raise (underrunEvent v x x.nextUnderruns) (s.setVoice v { x with state := .starved, underruns := x.nextUnderruns })
  else s

/-- ENTER_STARVED (R80). -/
def execEnterStarved (v : VoiceNo) (s : State) : Host.Outcome State Fault Refusal := .next (occur (enterStarved v) s)

/-- A STARVED voice that is primed returns to PLAYING (R80). -/
def returnToPlaying (v : VoiceNo) (s : State) : State :=
  let x := s.voice v
  if x.state = .starved ∧ x.primed = true then s.setVoice v { x with state := .playing } else s

/-- RETURN_TO_PLAYING (R80). -/
def execReturnToPlaying (v : VoiceNo) (s : State) : Host.Outcome State Fault Refusal :=
  .next (occur (returnToPlaying v) s)

/-! ### Ends (R69, R81, R82, R85) -/

/-- Whether a voice has reached its natural end: PLAYING, or STOPPING with stop mode FADE, exhausted and with an
empty FIFO (R81). -/
def Voice.atNaturalEnd (x : Voice) : Bool :=
  match x.state with
  | .playing => x.exhausted && x.fifo.isEmpty
  | .stoppingFade => x.exhausted && x.fifo.isEmpty
  | _ => false

/-- The voices that the end of a stop-at-end voice stops: those of its instance in STARTING, PLAYING or STARVED
(R82). -/
def soundingVoices (id : Nat) (s : State) : List VoiceNo :=
  (voicesOfInst s id).filter fun v => match (s.voice v).state with
    | .starting _ => true
    | .playing => true
    | .starved => true
    | _ => false

/-- Stop-at-end: the other voices of the instance are stopped with fade time 0 (R82). -/
def stopSiblings (x : Voice) (s : State) : State :=
  match x.state, x.owner with
  | .playing, .inst id _ => if x.stopAtEnd then stopVoices (soundingVoices id s) 0 s else s
  | _, _ => s

/-- The natural end of a voice: it becomes FREE, its owner loses it, and stop-at-end is applied (R81, R82). -/
def naturalEnd (v : VoiceNo) (s : State) : State :=
  let x := s.voice v
  if x.atNaturalEnd then stopSiblings x (ownerLost x.owner .complete (freeVoice v s)) else s

/-- VOICE_NATURAL_END (R81). -/
def execVoiceNaturalEnd (v : VoiceNo) (s : State) : Host.Outcome State Fault Refusal := .next (occur (naturalEnd v) s)

/-- The end of a STOPPING voice's declick ramp: it becomes FREE and its owner loses it (R85). -/
def endDeclick (v : VoiceNo) (s : State) : State :=
  match (s.voice v).state with
  | .stoppingRamp p =>
    if Config.rampFrames ≤ p then ownerLost (s.voice v).owner .voiceStopped (freeVoice v s) else s
  | _ => s

/-- DECLICK_RAMP_END (R85). -/
def execDeclickRampEnd (v : VoiceNo) (s : State) : Host.Outcome State Fault Refusal := .next (occur (endDeclick v) s)

/-- A voice's tail is dropped (R151). -/
def dropTail (v : VoiceNo) (s : State) : State :=
  { s with relay := { s.relay with tails := s.relay.tails.filter fun tl => tl.voice != v } }

/-- The end of a RECLAIMING voice's ramp: FREE where its start was cancelled, and STARTING for its new owner otherwise,
with its first fetch request posted (R69). -/
def endReclaim (v : VoiceNo) (s : State) : State :=
  let x := s.voice v
  match x.state with
  | .reclaiming p _ _ cancelled =>
    if Config.rampFrames ≤ p then
      if cancelled then ownerLost x.owner .voiceStopped (freeVoice v s)
      else postFetch v (dropTail v (s.setVoice v
        (Voice.started { x with fifo := [], next := x.inWord, faultReported := false })))
    else s
  | _ => s

/-- RECLAIM_RAMP_END (R69). -/
def execReclaimRampEnd (v : VoiceNo) (s : State) : Host.Outcome State Fault Refusal := .next (occur (endReclaim v) s)

/-! ### The decoder (R76) -/

/-- DECODER_RUN (R76). -/
def execDecoderRun (v : VoiceNo) (s : State) : Host.Outcome State Fault Refusal := .next (occur (runDecoder v) s)

end Sys2Proof.Machine
end

