-- ==== Sys2Proof/Machine/Dispatch.lean ====
section
/-! DEFINITION. The dispatch of a command to its meaning: one arm for each constructor of Instr. -/

namespace Sys2Proof.Machine

/-- The effect of one command on everything but the queue of waiting commands. -/
def exec (i : Instr) (s : State) : Host.Outcome State Fault Refusal :=
  match i with
  | .readResponse l => Sys2Proof.Machine.execReadResponse l s
  | .badFrame l tx => Sys2Proof.Machine.execBadFrame l tx s
  | .unknownRequest l code tag => Sys2Proof.Machine.execUnknownRequest l code tag s
  | .attach l tag revision => Sys2Proof.Machine.execAttach l tag revision s
  | .detach l tag => Sys2Proof.Machine.execDetach l tag s
  | .setPresence l tag period => Sys2Proof.Machine.execSetPresence l tag period s
  | .setEventMask l tag mask => Sys2Proof.Machine.execSetEventMask l tag mask s
  | .readEvents l tag count => Sys2Proof.Machine.execReadEvents l tag count s
  | .readStatus l tag => Sys2Proof.Machine.execReadStatus l tag s
  | .editHold l tag => Sys2Proof.Machine.execEditHold l tag s
  | .editRelease l tag => Sys2Proof.Machine.execEditRelease l tag s
  | .putCue l tag words => Sys2Proof.Machine.execPutCue l tag words s
  | .deleteCue l tag cue => Sys2Proof.Machine.execDeleteCue l tag cue s
  | .putScene l tag words => Sys2Proof.Machine.execPutScene l tag words s
  | .deleteScene l tag id => Sys2Proof.Machine.execDeleteScene l tag id s
  | .readCue l tag cue direction => Sys2Proof.Machine.execReadCue l tag cue direction s
  | .readScene l tag id direction => Sys2Proof.Machine.execReadScene l tag id direction s
  | .loadShow l tag => Sys2Proof.Machine.execLoadShow l tag s
  | .loadAbort l tag => Sys2Proof.Machine.execLoadAbort l tag s
  | .setAccessDelay l tag ns => Sys2Proof.Machine.execSetAccessDelay l tag ns s
  | .go l tag expected => Sys2Proof.Machine.execGo l tag expected s
  | .standby l tag => Sys2Proof.Machine.execStandby l tag s
  | .fire l tag cue => Sys2Proof.Machine.execFire l tag cue s
  | .setPlayhead l tag cue => Sys2Proof.Machine.execSetPlayhead l tag cue s
  | .setGoAuthority l tag value => Sys2Proof.Machine.execSetGoAuthority l tag value s
  | .setStandbyRequired l tag value => Sys2Proof.Machine.execSetStandbyRequired l tag value s
  | .setGuard l tag ms => Sys2Proof.Machine.execSetGuard l tag ms s
  | .stopCue l tag cue fade => Sys2Proof.Machine.execStopCue l tag cue fade s
  | .stopAll l tag fade => Sys2Proof.Machine.execStopAll l tag fade s
  | .readRunning l tag => Sys2Proof.Machine.execReadRunning l tag s
  | .play l tag action => Sys2Proof.Machine.execPlay l tag action s
  | .stopVoice l tag voice fade => Sys2Proof.Machine.execStopVoice l tag voice fade s
  | .readVoices l tag => Sys2Proof.Machine.execReadVoices l tag s
  | .setLevel l tag source output level time => Sys2Proof.Machine.execSetLevel l tag source output level time s
  | .setTrim l tag output level time => Sys2Proof.Machine.execSetTrim l tag output level time s
  | .readLevels l tag output => Sys2Proof.Machine.execReadLevels l tag output s
  | .blank l tag output => Sys2Proof.Machine.execBlank l tag output s
  | .openOutput l tag output => Sys2Proof.Machine.execOpenOutput l tag output s
  | .readMeters l tag => Sys2Proof.Machine.execReadMeters l tag s
  | .setReference l tag value => Sys2Proof.Machine.execSetReference l tag value s
  | .setFollow l tag output mode main => Sys2Proof.Machine.execSetFollow l tag output mode main s
  | .setOffset l tag source output offset => Sys2Proof.Machine.execSetOffset l tag source output offset s
  | .setCeiling l tag output ceiling => Sys2Proof.Machine.execSetCeiling l tag output ceiling s
  | .talkOn l tag input set level => Sys2Proof.Machine.execTalkOn l tag input set level s
  | .talkOff l tag => Sys2Proof.Machine.execTalkOff l tag s
  | .setLeveler l tag settings => Sys2Proof.Machine.execSetLeveler l tag settings s
  | .setDuckTimes l tag attack release => Sys2Proof.Machine.execSetDuckTimes l tag attack release s
  | .setGate l tag threshold seconds => Sys2Proof.Machine.execSetGate l tag threshold seconds s
  | .call l tag payload => Sys2Proof.Machine.execCall l tag payload s
  | .callEnd l tag id => Sys2Proof.Machine.execCallEnd l tag id s
  | .cancelCall l tag id => Sys2Proof.Machine.execCancelCall l tag id s
  | .readCalls l tag => Sys2Proof.Machine.execReadCalls l tag s
  | .showStop l tag => Sys2Proof.Machine.execShowStop l tag s
  | .resume l tag => Sys2Proof.Machine.execResume l tag s
  | .setStopTimes l tag stop resume => Sys2Proof.Machine.execSetStopTimes l tag stop resume s
  | .setAnnounce l tag input level => Sys2Proof.Machine.execSetAnnounce l tag input level s
  | .mhreqAsserted => Sys2Proof.Machine.execMhreqAsserted s
  | .mhend => Sys2Proof.Machine.execMhend s
  | .smRdySeen => Sys2Proof.Machine.execSmRdySeen s
  | .taccExpiry => Sys2Proof.Machine.execTaccExpiry s
  | .arbitrate => Sys2Proof.Machine.execArbitrate s
  | .voiceFetchComplete words => Sys2Proof.Machine.execVoiceFetchComplete words s
  | .loadReadComplete words => Sys2Proof.Machine.execLoadReadComplete words s
  | .showstopAsserted => Sys2Proof.Machine.execShowstopAsserted s
  | .showstopDeasserted => Sys2Proof.Machine.execShowstopDeasserted s
  | .resetAsserted => Sys2Proof.Machine.execResetAsserted s
  | .resetReleased line mhreq => Sys2Proof.Machine.execResetReleased line mhreq s
  | .referenceLost rate => Sys2Proof.Machine.execReferenceLost rate s
  | .lockAchieved => Sys2Proof.Machine.execLockAchieved s
  | .presenceExpiry l => Sys2Proof.Machine.execPresenceExpiry l s
  | .prewaitEnd id => Sys2Proof.Machine.execPrewaitEnd id s
  | .followExpiry id => Sys2Proof.Machine.execFollowExpiry id s
  | .callGateExpiry id => Sys2Proof.Machine.execCallGateExpiry id s
  | .talkGateExpiry => Sys2Proof.Machine.execTalkGateExpiry s
  | .millisecondTick sample => Sys2Proof.Machine.execMillisecondTick sample s
  | .fadeComplete target => Sys2Proof.Machine.execFadeComplete target s
  | .audioFrame live first => Sys2Proof.Machine.execAudioFrame live first s
  | .windowEnd => Sys2Proof.Machine.execWindowEnd s
  | .declickRampEnd v => Sys2Proof.Machine.execDeclickRampEnd v s
  | .reclaimRampEnd v => Sys2Proof.Machine.execReclaimRampEnd v s
  | .blankingRampEnd o => Sys2Proof.Machine.execBlankingRampEnd o s
  | .voiceNaturalEnd v => Sys2Proof.Machine.execVoiceNaturalEnd v s
  | .enterPlaying v => Sys2Proof.Machine.execEnterPlaying v s
  | .enterStarved v => Sys2Proof.Machine.execEnterStarved v s
  | .returnToPlaying v => Sys2Proof.Machine.execReturnToPlaying v s
  | .decoderRun v => Sys2Proof.Machine.execDecoderRun v s
  | .referencePresentAndInRange => Sys2Proof.Machine.execReferencePresentAndInRange s

end Sys2Proof.Machine
end

