-- ==== Sys2Proof/Safety.lean ====
section
/-! DEFINITION. What the manual says holds of the whole part at every point at which it can be observed: the conditions
that every command keeps. -/

namespace Sys2Proof.Machine

/-- A link record within its ranges (R168): tPRES 250..10,000 ms, at most 64 records, and while DETACHED an empty
queue with the lost flag clear (R173). -/
def Link.ok (k : Link) : Prop :=
  250 ≤ k.tPres ∧ k.tPres ≤ 10000 ∧ k.queue.length ≤ Config.queueRecords ∧
    (k.attached = false → k.queue = [] ∧ k.lost = false)

/-- Every link record is within its ranges, a link that holds the edit hold is ATTACHED, and while a load is READING
the loading link holds it (R27, R28, R168). -/
def LinksOk (s : State) : Prop :=
  s.links.console.ok ∧ s.links.prompt.ok ∧ s.links.monitor.ok ∧
    (∀ r, s.store.holder = some r → (s.link r).attached = true) ∧
    ∀ ld, s.smi.load = some ld → s.store.holder = some ld.link

/-- The fade list holds at most 256 entries, no two of one target, and each has steps still to take (R91). -/
def FadesOk (s : State) : Prop :=
  s.fades.length ≤ Config.maxFades ∧ (s.fades.map (·.target)).Nodup ∧ ∀ e ∈ s.fades, e.k < e.n

/-- Every FIFO is within its 1,024 entries (R64). -/
def FifosOk (s : State) : Prop := ∀ v : VoiceNo, (s.voice v).fifo.length ≤ Config.fifoEntries

/-- The playhead names a cue present in the store, or END, and END is its only value while the store is not READY
(R38). -/
def PlayheadOk (s : State) : Prop :=
  ∀ n, s.seq.playhead = some n → s.store.state = .ready ∧ (cueOf n s).isSome = true

/-- The counts of a header are within the capacities that R10 checks. -/
def Header.ok (h : Header) : Prop :=
  h.regionCount ≤ Config.maxRegions ∧ h.sceneCount ≤ Config.maxScenes ∧ h.entryCount ≤ Config.maxEntries ∧
    h.cueCount ≤ Config.maxCues ∧ h.actionCount ≤ Config.maxActions

/-- The store is within its capacities with its cues in strictly ascending number order and its scenes in strictly
ascending identifier order (R22, R25), and a load that has judged its header is bound by it. -/
def StoreOk (s : State) : Prop :=
  s.store.cues.Pairwise (fun a b => a.num.toNat < b.num.toNat) ∧ s.store.cues.length ≤ Config.maxCues ∧
    actionTotal s.store.cues ≤ Config.maxActions ∧
    s.store.scenes.Pairwise (fun a b => a.id < b.id) ∧ s.store.scenes.length ≤ Config.maxScenes ∧
    entryTotal s.store.scenes ≤ Config.maxEntries ∧
    ∀ ld h, s.smi.load = some ld → ld.header = some h → h.ok

/-- The running cue table holds at most 24 instances, with distinct ids in 1..255, and the counter is in 1..255
(R46). -/
def TableOk (s : State) : Prop :=
  s.seq.instances.length ≤ Config.maxInstances ∧ (s.seq.instances.map (·.id)).Nodup ∧
    (∀ i ∈ s.seq.instances, 1 ≤ i.id ∧ i.id ≤ 255) ∧ 1 ≤ s.seq.nextId ∧ s.seq.nextId ≤ 255

/-! ### The terms of the statements -/

/-- The link, code and tag of a command that is a request of the permissions table (10.5). -/
def requestOf : Instr → Option (Role × Byte × Byte)
  | .attach l t _ => some (l, 0x01, t)
  | .detach l t => some (l, 0x02, t)
  | .setPresence l t _ => some (l, 0x03, t)
  | .setEventMask l t _ => some (l, 0x04, t)
  | .readEvents l t _ => some (l, 0x05, t)
  | .readStatus l t => some (l, 0x06, t)
  | .editHold l t => some (l, 0x10, t)
  | .editRelease l t => some (l, 0x11, t)
  | .putCue l t _ => some (l, 0x12, t)
  | .deleteCue l t _ => some (l, 0x13, t)
  | .putScene l t _ => some (l, 0x14, t)
  | .deleteScene l t _ => some (l, 0x15, t)
  | .readCue l t _ _ => some (l, 0x16, t)
  | .readScene l t _ _ => some (l, 0x17, t)
  | .loadShow l t => some (l, 0x18, t)
  | .loadAbort l t => some (l, 0x19, t)
  | .setAccessDelay l t _ => some (l, 0x1A, t)
  | .go l t _ => some (l, 0x20, t)
  | .standby l t => some (l, 0x21, t)
  | .fire l t _ => some (l, 0x22, t)
  | .setPlayhead l t _ => some (l, 0x23, t)
  | .setGoAuthority l t _ => some (l, 0x24, t)
  | .setStandbyRequired l t _ => some (l, 0x25, t)
  | .setGuard l t _ => some (l, 0x26, t)
  | .stopCue l t _ _ => some (l, 0x27, t)
  | .stopAll l t _ => some (l, 0x28, t)
  | .readRunning l t => some (l, 0x29, t)
  | .play l t _ => some (l, 0x30, t)
  | .stopVoice l t _ _ => some (l, 0x31, t)
  | .readVoices l t => some (l, 0x32, t)
  | .setLevel l t _ _ _ _ => some (l, 0x40, t)
  | .setTrim l t _ _ _ => some (l, 0x41, t)
  | .readLevels l t _ => some (l, 0x42, t)
  | .blank l t _ => some (l, 0x48, t)
  | .openOutput l t _ => some (l, 0x49, t)
  | .readMeters l t => some (l, 0x4A, t)
  | .setReference l t _ => some (l, 0x4B, t)
  | .setFollow l t _ _ _ => some (l, 0x50, t)
  | .setOffset l t _ _ _ => some (l, 0x51, t)
  | .setCeiling l t _ _ => some (l, 0x52, t)
  | .talkOn l t _ _ _ => some (l, 0x53, t)
  | .talkOff l t => some (l, 0x54, t)
  | .setLeveler l t _ => some (l, 0x60, t)
  | .setDuckTimes l t _ _ => some (l, 0x61, t)
  | .setGate l t _ _ => some (l, 0x62, t)
  | .call l t _ => some (l, 0x63, t)
  | .callEnd l t _ => some (l, 0x64, t)
  | .cancelCall l t _ => some (l, 0x65, t)
  | .readCalls l t => some (l, 0x66, t)
  | .showStop l t => some (l, 0x70, t)
  | .resume l t => some (l, 0x71, t)
  | .setStopTimes l t _ _ => some (l, 0x72, t)
  | .setAnnounce l t _ _ => some (l, 0x73, t)
  | .readResponse _ | .badFrame _ _ | .unknownRequest _ _ _ => none
  | .mhreqAsserted | .mhend | .smRdySeen | .taccExpiry | .arbitrate => none
  | .voiceFetchComplete _ | .loadReadComplete _ | .showstopAsserted | .showstopDeasserted => none
  | .resetAsserted | .resetReleased _ _ | .referenceLost _ | .lockAchieved => none
  | .presenceExpiry _ | .prewaitEnd _ | .followExpiry _ | .callGateExpiry _ | .talkGateExpiry => none
  | .millisecondTick _ | .fadeComplete _ | .audioFrame _ _ | .windowEnd | .declickRampEnd _ => none
  | .reclaimRampEnd _ | .blankingRampEnd _ | .voiceNaturalEnd _ | .enterPlaying _ => none
  | .enterStarved _ | .returnToPlaying _ | .decoderRun _ | .referencePresentAndInRange => none

/-- A link's request of a code reaches the owning block (R170): RESET_n is not asserted, the link is ATTACHED, and the
permissions table grants the code to its role. -/
def Serves (l : Role) (code : Byte) (s : State) : Prop :=
  s.timing.inReset = false ∧ (s.link l).attached = true ∧ permitted code l = true

/-- The next state in which a request has been answered: the response is in the link's slot, over the state given. -/
def answered (l : Role) (code tag : Byte) (r : Result) (payload : List Byte) (s : State) :
    Host.Outcome State Fault Refusal :=
  .next (respond l code tag { result := r, payload := payload } s)

/-- A fade target whose level exists now: a duck level exists while its zone is present (R90). -/
def Held (t : FadeTarget) (s : State) : Prop :=
  match t with
  | .duck z => z.val < s.relay.zones.length
  | _ => True

/-- The newest record of every ATTACHED link's queue is the event, stamped with the show clock, or the link has lost
records (R174). -/
def Newest (e : Event) (s : State) : Prop :=
  ∀ r, (s.link r).attached = true →
    (s.link r).queue.getLast? = some { e with clock := s.timing.showClock } ∨ (s.link r).lost = true

/-- The event stands in every ATTACHED link's queue, stamped with the show clock, or the link has lost records
(R174). -/
def Raised (e : Event) (s : State) : Prop :=
  ∀ r, (s.link r).attached = true →
    { e with clock := s.timing.showClock } ∈ (s.link r).queue ∨ (s.link r).lost = true

/-- Whether a live call came from the prompt link (R153). -/
def Call.isPromptLive (c : Call) : Bool :=
  c.origin == .prompt && match c.source with
    | .live _ => true
    | _ => false

/-- A link's record after events have been raised one after another at a show clock (R174). -/
def Link.receives (now : BitVec 32) (es : List Event) (k : Link) : Link :=
  es.foldl (fun k e => Link.append { e with clock := now } k) k

/-- The call-ended record of a call with a reason code (R152, R176). -/
def callEnded (c : Call) (reason : Byte) : Event := { kind := .callEnded, call := .ofNat 8 c.id, reason := reason }

/-- A zone has been released at the end of its call (R144, R152): it carries no call; with tRELEASE 0 it is CLEAR at
duck 0; with tRELEASE above 0 it is RELEASING, or it has snapped to CLEAR at duck 0; and where an entry stands on its
duck or the list has room for 16, it is RELEASING with a fade to 0 over tRELEASE from where the duck stood, whose
completion is DUCK RELEASED. -/
def Released (z : ZoneNo) (s t : State) : Prop :=
  ∀ a, s.zone? z = some a → ∃ b, t.zone? z = some b ∧ b.carried = none ∧ b.output = a.output ∧
    b.leveler = a.leveler ∧ (b.phase = .releasing ∨ (b.phase = .clear ∧ b.duck = 0 ∧ b.peak = 0)) ∧
    (s.relay.release = 0 → b.phase = .clear) ∧
    (0 < s.relay.release → s.fades.length + 16 ≤ Config.maxFades ∨ (fadeFor (.duck z) s).isSome = true →
      b = { a with carried := none, phase := .releasing } ∧
        ∃ e, fadeFor (.duck z) t = some e ∧ e.goal = .db 0 ∧ e.n = s.relay.release ∧ e.k = 0 ∧
          e.start = .db a.duck ∧ e.action = .duckReleased)

/-- What a link's detach raises for the links that remain, in the order of R173: LOAD_FAILED (ABORTED) of its load,
HOLD_CHANGED (NONE) of its edit hold, and CALL_ENDED (LINK_LOST) of the prompt link's live calls, the PLAYING ones in the
order of their starts and then the WAITING ones in queue order (R153). -/
def detachEvents (l : Role) (s : State) : List Event :=
  (match s.smi.load with
    | some ld => if ld.link = l then [{ kind := .loadFailed, reason := 9, aux1 := .ofNat 16 ld.phase.code }] else []
    | none => []) ++
  (if s.store.holder = some l then [{ kind := .holdChanged, reason := 0 }] else []) ++
  (if l = .prompt then ((s.relay.playing ++ s.relay.waiting).filter Call.isPromptLive).map (callEnded · 6) else [])

/-- What the load of a detaching link leaves (R16, R18, R173): no load, an empty store, every output UNUSED, the playhead
END, and a read of the load in flight marked discard. -/
def LoadAborted (s t : State) : Prop :=
  t.smi = { s.smi with load := none, regions := [], port := t.smi.port } ∧
    (∀ tr d, s.smi.port = .fetch tr → tr.user = .load d → t.smi.port = .fetch { tr with user := .load true }) ∧
    ((∀ tr d, s.smi.port = .fetch tr → tr.user ≠ .load d) → t.smi.port = s.smi.port) ∧
    t.store = { s.store with state := .noShow, cues := [], scenes := [], holder := t.store.holder } ∧
    t.seq = { s.seq with playhead := none, standby := false, instances := t.seq.instances } ∧
    t.mix = { s.mix with classes := Vector.replicate 32 .unused }

/-- What the end of the prompt link's live calls leaves where no other call waits (R152, R153): those calls are gone,
their zones are released, and nothing else of the calls and zones moves. -/
def PromptCallsEnded (s t : State) : Prop :=
  t.relay.waiting = [] ∧ t.relay.playing = s.relay.playing.filter (fun c => !c.isPromptLive) ∧
    (∀ c ∈ s.relay.playing, c.isPromptLive = true → ∀ z : ZoneNo, c.zones.getLsbD z = true → Released z s t) ∧
    (∀ z : ZoneNo, (∀ c ∈ s.relay.playing, c.isPromptLive = true → c.zones.getLsbD z = false) →
      t.zone? z = s.zone? z) ∧
    t.seq.instances = s.seq.instances

/-- What detaching a link leaves, by the steps of R173: the link's own record, its load, the edit hold, the prompt link's
live calls, the monitor link's talk, and the records that the other links receive, in order. -/
def Detached (l : Role) (s t : State) : Prop :=
  t.link l = { s.link l with attached := false, timer := 0, queue := [], lost := false } ∧
    t.store.holder = (if s.store.holder = some l then none else s.store.holder) ∧
    (∀ ld, s.smi.load = some ld → ld.link = l → LoadAborted s t) ∧
    ((∀ ld, s.smi.load = some ld → ld.link ≠ l) →
      t.smi = s.smi ∧ t.mix = s.mix ∧ t.store = { s.store with holder := t.store.holder } ∧
        t.seq = { s.seq with instances := t.seq.instances }) ∧
    (l = .prompt → ∀ c ∈ t.relay.playing ++ t.relay.waiting, c.isPromptLive = false) ∧
    (l = .prompt → (∀ c ∈ s.relay.waiting, c.isPromptLive = true) →
      ((s.relay.playing ++ s.relay.waiting).map (·.id)).Nodup → s.fades.length + 16 ≤ Config.maxFades →
      PromptCallsEnded s t ∧
        ∀ r, r ≠ l → t.link r = (s.link r).receives s.timing.showClock (detachEvents l s)) ∧
    (l ≠ .prompt → t.relay = s.relay ∧ t.stream = s.stream ∧ t.seq.instances = s.seq.instances ∧ t.fades = s.fades ∧
      ∀ r, r ≠ l → t.link r = (s.link r).receives s.timing.showClock (detachEvents l s)) ∧
    t.foldback = (match l, s.foldback.talk with
      | .monitor, some _ =>
        { s.foldback with talk := none, lastEnd := some { cause := .linkLost, time := s.timing.showClock } }
      | _, _ => s.foldback) ∧
    t.showStop = s.showStop ∧ t.timing = s.timing

/-- How far a voice number stands after the last served one, counting upward and wrapping: 0 for the next (R4). -/
def rotationRank (last v : VoiceNo) : Nat := (v.val + 31 - last.val) % 32

/-- A waiting voice is served before another (R4): URGENT before NORMAL, then the higher priority, then the first
after the last-served voice. -/
def ServedBefore (s : State) (v w : VoiceNo) : Prop :=
  ((s.voice v).urgent = true ∧ (s.voice w).urgent = false) ∨
    ((s.voice v).urgent = (s.voice w).urgent ∧
      ((s.voice w).priority < (s.voice v).priority ∨
        ((s.voice v).priority = (s.voice w).priority ∧
          rotationRank s.smi.lastServed v < rotationRank s.smi.lastServed w)))

/-- A victim comes before another (R67): STOPPING first, then the lower priority, then the earlier start, as the longer
time since it by the show clock (log 9), then the lower voice number. -/
def TakenBefore (s : State) (v w : VoiceNo) : Prop :=
  let a := s.voice v
  let b := s.voice w
  (a.stopping = true ∧ b.stopping = false) ∨
    (a.stopping = b.stopping ∧
      (a.priority < b.priority ∨
        (a.priority = b.priority ∧
          ((s.timing.showClock - b.startTime).toNat < (s.timing.showClock - a.startTime).toNat ∨
            ((s.timing.showClock - b.startTime).toNat = (s.timing.showClock - a.startTime).toNat ∧ v < w)))))

/-- The FIFO entries that stream words stand for, in order (R76). -/
def streamEntries : List Word → List FifoEntry
  | [] => []
  | w :: ws =>
    (match streamWord w with
      | .audio x => [.frame x]
      | .silence n => zeroFrames n
      | .marker id => [.marker id]
      | .reserved => [.frame 0]) ++ streamEntries ws

/-- What the failure or abort of a load leaves (R16), with LOAD_FAILED as the newest record. -/
def LoadFailed (why : LoadFailure) (phase : LoadPhase) (s t : State) : Prop :=
  t.smi.load = none ∧ t.smi.regions = [] ∧ t.smi.tacc = s.smi.tacc ∧
    t.store = { s.store with state := .noShow, cues := [], scenes := [] } ∧
    t.seq = { s.seq with playhead := none, standby := false } ∧
    t.mix = { s.mix with classes := Vector.replicate 32 .unused } ∧
    t.stream = s.stream ∧ t.fades = s.fades ∧ t.foldback = s.foldback ∧ t.relay = s.relay ∧ t.showStop = s.showStop ∧
    Newest { kind := .loadFailed, reason := .ofNat 8 why.code, aux1 := .ofNat 16 phase.code } t

/-- The guard of GO has run out, or no stamp is present (R41). -/
def GuardPassed (s : State) : Prop :=
  ∀ st, s.seq.stamp = some st → s.seq.guardMs ≤ (s.timing.showClock - st.time).toNat

/-- A fire finds room: the table is not full, or a RUNNING instance without a pending follow may be retired (R48). -/
def TableHasRoom (s : State) : Prop :=
  s.seq.instances.length < Config.maxInstances ∨ ∃ i ∈ s.seq.instances, i.phase = .running ∧ i.follow = none

/-- The first four checks of GO pass for a role (R41). -/
def MayGo (l : Role) (s : State) : Prop :=
  s.seq.authority.permits l = true ∧ s.store.state = .ready ∧ s.showStop.state ≠ .stopped

/-- A new instance of a cue, in PREWAIT (R47). -/
def waitingInst (id : Nat) (c : Cue) (cause : Cause) (now : BitVec 32) : CueInstance :=
  { id := id, cue := c.num, phase := .prewait, preWait := c.preWait, follow := none, cause := cause, fireTime := now,
    stopped := false }

/-- An instance stands at the end of its pre-wait with a cue of one action, and captures no follow (R49, R54). -/
def Dispatches (i : CueInstance) (a : Action) (s : State) : Prop :=
  s.timing.inReset = false ∧ TableOk s ∧ i ∈ s.seq.instances ∧ i.phase = .prewait ∧ i.preWait = 0 ∧ i.follow = none ∧
    (∃ c, cueOf i.cue s = some c ∧ c.actions = [a]) ∧
    ∀ d, s.store.cues.find? (fun d => decide (i.cue.toNat < d.num.toNat)) = some d → d.trigger ≠ .follow

/-- The record of a voice that a PLAY has just taken from FREE, with its first fetch request posted (R66, R74). -/
def freshVoice (p : PlaySpec) (owner : Owner) (regionLen : Nat) (now : BitVec 32) : Voice :=
  { state := .starting (if p.fadeIn = 0 then none else some p.fadeIn), owner := owner, priority := p.priority,
    dest := .stem p.stem, group := p.group, stopAtEnd := p.stopAtEnd, region := p.region, inWord := p.inWord,
    startLevel := p.level, fadeIn := p.fadeIn, next := p.inWord, out := p.out.getD regionLen, loop := p.loop,
    loops := p.loops, level := if p.fadeIn = 0 then p.level else .off, startTime := now, fetch := .waiting, buf := [],
    bufPos := 0, silence := 0, fifo := [], faultReported := false, underruns := 0 }

/-- The state in which a voice has become FREE: its fade entry and its tail are gone (R81, R83, R85, R151). -/
def voiceFreed (v : VoiceNo) (s : State) : State :=
  { s with
    stream := { s.stream with voices := s.stream.voices.set v Voice.freeRecord },
    fades := s.fades.filter fun e => e.target != .voice v,
    relay := { s.relay with tails := s.relay.tails.filter fun tl => tl.voice != v } }

/-- The record of a voice that a PLAY has just stolen: RECLAIMING for the new work, with what its ramp still needs of the
old (R67, R68). -/
def stolenVoice (p : PlaySpec) (owner : Owner) (regionLen : Nat) (now : BitVec 32) (x : Voice) : Voice :=
  { freshVoice p owner regionLen now with
    state := .reclaiming (match x.state with
      | .stoppingRamp q => q
      | _ => 0) x.dest x.level false,
    level := x.level, fetch := .none,
    fifo := match x.state with
      | .starting _ | .starved => []
      | _ => x.fifo.filter fun e => match e with
        | .frame _ => true
        | .marker _ => false }

/-- A voice record on the declick ramp from its first frame (R83). -/
def Voice.ramping (x : Voice) : Voice := { x with state := .stoppingRamp 0, fetch := .none }

/-- A voice has been sent on a fade that stops it: STOPPING with stop mode FADE, and an entry from the level where it
stood to the goal over the time, with completion action STOP VOICE (R83, R86). -/
def StopFading (v : VoiceNo) (goal : Level) (time : Nat) (s t : State) : Prop :=
  t.voice v = { s.voice v with state := .stoppingFade } ∧
    ∃ e, fadeFor (.voice v) t = some e ∧ e.goal = goal ∧ e.n = time ∧ e.k = 0 ∧ e.start = (s.voice v).level ∧
      e.action = .stopVoice

/-- What a stop with a fade time makes of a voice, by its state (R83). With a time above 0 a sounding voice takes the
fade wherever an entry stands on its level or the list has room, and the declick ramp only otherwise. -/
def StoppedVoice (time : Nat) (room : Prop) (v : VoiceNo) (s t : State) : Prop :=
  let x := s.voice v
  let y := t.voice v
  let faded : Prop := (StopFading v .off time s t ∨ y = x.ramping) ∧
    (room ∨ (fadeFor (.voice v) s).isSome = true → StopFading v .off time s t)
  match x.state with
  | .free => y = x
  | .starting _ => y = Voice.freeRecord ∧ fadeFor (.voice v) t = none
  | .playing | .starved => (time = 0 → y = x.ramping) ∧ (0 < time → faded)
  | .stoppingFade => (time = 0 → y = x.ramping ∧ fadeFor (.voice v) t = none) ∧ (0 < time → faded)
  | .stoppingRamp _ => y = x
  | .reclaiming p d l _ => y = { x with state := .reclaiming p d l true }

/-- The fade list has room for a fade of each of the 32 voices. -/
def RoomForVoices (s : State) : Prop := s.fades.length + 32 ≤ Config.maxFades

/-- The owner that a voice has once every instance has ended: an instance's voice is an orphan (R61). -/
def ownerAtStop (s : State) (v : VoiceNo) : Owner :=
  if s.seq.instances.any (fun i => (s.voice v).ownedByInst i.id) then .orphan else (s.voice v).owner

/-- What entry to show stop leaves (R161), caused by the line or by a request: the cues, the voices that no call owns, the
stop mute, talk, the parts that it does not touch, and the records in the order of the steps, the instances in fire order
(log 23). -/
def EntersShowStop (line : Bool) (s t : State) : Prop :=
  t.showStop = { s.showStop with state := .stopped, mute := t.showStop.mute } ∧
    t.seq = { s.seq with instances := [] } ∧
    (∀ v, (t.voice v).ownedBySomeCall = false →
      (t.voice v).state = .free ∨ (t.voice v).stopping = true ∨
        ∃ p d x, (t.voice v).state = .reclaiming p d x true) ∧
    (s.relay.waiting = [] → ∀ v, (s.voice v).ownedBySomeCall = false →
      ∀ u : State, u.fades = s.fades → u.voice v = { s.voice v with owner := ownerAtStop s v } →
        StoppedVoice s.showStop.tStop (RoomForVoices s) v u t) ∧
    (s.showStop.tStop = 0 → t.showStop.mute = .off ∧ fadeFor .stopMute t = none) ∧
    (0 < s.showStop.tStop →
      (∃ e, fadeFor .stopMute t = some e ∧ e.goal = .off ∧ e.n = s.showStop.tStop ∧ e.k = 0 ∧
        e.start = s.showStop.mute ∧ t.showStop.mute = s.showStop.mute) ∨
      (t.showStop.mute = .off ∧ fadeFor .stopMute s = none ∧ Config.maxFades ≤ s.fades.length + 32)) ∧
    t.foldback = (match s.foldback.talk with
      | some _ => { s.foldback with talk := none, lastEnd := some { cause := .showStop, time := s.timing.showClock } }
      | none => s.foldback) ∧
    t.store = s.store ∧ t.mix = s.mix ∧ t.smi = s.smi ∧ t.timing = s.timing ∧
    (∀ e ∈ s.fades, (∀ v, e.target ≠ .voice v) → (∀ z, e.target ≠ .duck z) → e.target ≠ .stopMute → e ∈ t.fades) ∧
    ∃ es : List Event, (∀ e ∈ es, e.kind = .fadeOverflow ∨ e.kind = .callEnded ∨ e.kind = .callStarted) ∧
      ∀ r, t.link r = (s.link r).receives s.timing.showClock
        ((if line then [{ kind := .lineChanged, reason := 1 }] else []) ++
          s.seq.instances.map (fun i => { kind := .cueEnded, inst := .ofNat 8 i.id, cue := i.cue, reason := 2 }) ++
          es ++ [{ kind := .showStopped, reason := if line then 1 else 0 }])

/-- A voice is owned by a RUNNING instance that a stop reaches. -/
def Reached (p : CueInstance → Bool) (v : VoiceNo) (s : State) : Prop :=
  ∃ i ∈ s.seq.instances, p i = true ∧ i.phase ≠ .prewait ∧ (s.voice v).ownedByInst i.id = true

/-- What a stop of the instances that a predicate picks leaves (R47, R59): the others stand, the reached ones are gone
or stand RUNNING, marked stopped and without a follow, and their voices are stopped. -/
def InstancesStopped (p : CueInstance → Bool) (time : Nat) (s t : State) : Prop :=
  (∀ i ∈ s.seq.instances, p i = false → i ∈ t.seq.instances) ∧
    (∀ j ∈ t.seq.instances, ∃ i ∈ s.seq.instances,
      (p i = false ∧ j = i) ∨ (p i = true ∧ i.phase ≠ .prewait ∧ j = { i with stopped := true, follow := none })) ∧
    (∀ v, Reached p v s → StoppedVoice time (RoomForVoices s) v s t) ∧
    (∀ v, ¬ Reached p v s → (s.voice v).owner ≠ .orphan → t.voice v = s.voice v) ∧
    t.seq = { s.seq with instances := t.seq.instances } ∧ t.store = s.store ∧ t.smi = s.smi ∧ t.mix = s.mix ∧
    t.foldback = s.foldback ∧ t.relay.playing = s.relay.playing ∧ t.relay.waiting = s.relay.waiting ∧
    t.relay.zones = s.relay.zones ∧ t.showStop = s.showStop ∧ t.timing = s.timing

/-- Whether a voice delivers its FIFO in a frame: PLAYING, STOPPING or RECLAIMING (R65). -/
def Voice.delivers (x : Voice) : Bool :=
  match x.state with
  | .free => false
  | .starting _ => false
  | .starved => false
  | _ => true

/-- The source samples of a frame, from the stems' samples and the live inputs received in the last TDM frame (R108,
R121). -/
def frameSource (s : State) (stem : StemNo → Int) (i : SourceNo) : Int :=
  if h : i.val < 24 then stem ⟨i.val, h⟩ else s.mix.rx[(⟨i.val - 24, by omega⟩ : LiveNo)]

/-- The program sum P of an output over given stems (R113). -/
def frameProgram (s : State) (stem : StemNo → Int) (o : OutputNo) : Int :=
  (sourceNos.map fun i => product (frameSource s stem i) (effective s i o).gain).sum

/-- A live input's contribution at a level (R114). -/
def livePart (s : State) (i : LiveNo) (level : Int) : Int := product s.mix.rx[i] (Level.db level).gain

/-- The announce contribution of a MAIN or FOLDBACK output: while STOPPED, of an announce input that is not NONE
(R114). -/
def announcePart (s : State) : Int :=
  match s.showStop.state, s.showStop.announceIn with
  | .stopped, some i => livePart s i s.showStop.announceLevel
  | _, _ => 0

/-- The talkback contribution of a FOLDBACK output: while talk is ON, of an output in the talk set (R114). -/
def talkPart (s : State) (o : OutputNo) : Int :=
  match s.foldback.talk with
  | some k => if k.set.getLsbD o.val then livePart s k.input k.level else 0
  | none => 0

/-- The call contribution of a zone in a frame in which no call's voice sounds: its live call or the announcement of
the show-stop call (R114, R151, R156). -/
def callPart (s : State) (zn : Zone) : Int :=
  match zn.carried.bind (callOf · s) with
  | some c => match c.source with
    | .live i => livePart s i c.page
    | .recorded _ _ _ => 0
    | .announce => match s.showStop.announceIn with
      | some i => livePart s i s.showStop.announceLevel
      | none => 0
  | none => 0

/-- The call contribution that a voice gives a zone in a frame in which it delivers a sample to the call destination
(R87, R151): by the recorded call that the zone carries, where that call owns it and it is not RECLAIMING, and by each of
its tails that covers the zone. -/
def voicePart (s : State) (v : VoiceNo) (out : Int) (z : Nat) : Int :=
  (match (s.relay.zones[z]?.bind (·.carried)).bind (callOf · s) with
    | some c => match c.source, (s.voice v).state with
      | .recorded _ _ _, .reclaiming _ _ _ _ => 0
      | .recorded _ _ _, _ => if voiceOfCall s c.id = some v then product out (Level.db c.page).gain else 0
      | _, _ => 0
    | none => 0) +
  ((s.relay.tails.filter fun tl => tl.voice == v && tl.zones.getLsbD z).map fun tl =>
    product out (Level.db tl.page).gain).sum

/-- The sum of an output before its limit, over given stems and given contributions of call voices by zone: step 1 of
R115, by the output's class (R112 to R114). -/
def frameSum (s : State) (stem : StemNo → Int) (voiced : Nat → Int) (o : OutputNo) : Int :=
  let house := product (frameProgram s stem o) (((s.mix.trims[o]).add s.showStop.mute).toDomain).gain + announcePart s
  match s.mix.classes[o] with
  | .unused => 0
  | .main => house
  | .foldback => house + talkPart s o
  | .relay =>
    match s.relay.zones.find? (fun zn => zn.output == o) with
    | some zn =>
      product (frameProgram s stem o)
        ((((s.mix.trims[o]).add (.db zn.leveler)).add (.db zn.duck)).toDomain).gain + callPart s zn +
          voiced (s.relay.zones.findIdx fun zn => zn.output == o)
    | none => 0

/-- The sample of an output after its limit and, on FOLDBACK, its ceiling: steps 2 and 3 of R115. -/
def frameLimited (s : State) (stem : StemNo → Int) (voiced : Nat → Int) (o : OutputNo) : Int :=
  let y := sat24 (frameSum s stem voiced o)
  match s.mix.classes[o] with
  | .foldback =>
    max (-(magnitudeOf s.foldback.ceilings[o] : Int)) (min (magnitudeOf s.foldback.ceilings[o]) y)
  | _ => y

/-- The numerator over 240 of the blanking factor of an output in a frame (R117). -/
def blankingNumerator (b : Blanking) : Nat :=
  match b with
  | .opened => 240
  | .closing c => 239 - c
  | .blanked => 0
  | .opening p => min (p + 1) 240

/-- The saturations and ceiling actions of an output in a frame (R115). -/
def frameClips (s : State) (stem : StemNo → Int) (voiced : Nat → Int) (o : OutputNo) : Nat :=
  (if sat24 (frameSum s stem voiced o) = frameSum s stem voiced o then 0 else 1) +
    (if frameLimited s stem voiced o = sat24 (frameSum s stem voiced o) then 0 else 1)

/-- What a frame sends and measures, given its stems and its call voices by zone: the samples for the next TDM frame
(R115, R117, R121), and the meters of the outputs that are not UNUSED (R119). -/
def FrameSentWith (s : State) (stem : StemNo → Int) (voiced : Nat → Int) (t : State) : Prop :=
  (∀ o : OutputNo, t.mix.txNext[o] =
    (frameLimited s stem voiced o * blankingNumerator s.mix.blanking[o]).tdiv 240) ∧
    t.mix.tx = s.mix.txNext ∧
    ∀ o : OutputNo, (s.mix.classes[o] = .unused → t.mix.meters[o] = s.mix.meters[o]) ∧
      (s.mix.classes[o] ≠ .unused →
        t.mix.meters[o].peak = max s.mix.meters[o].peak (t.mix.txNext[o]).natAbs ∧
          t.mix.meters[o].clips = min 65535 (s.mix.meters[o].clips + frameClips s stem voiced o) ∧
          (t.mix.meters[o].reported = true ↔ s.mix.meters[o].reported = true ∨ 0 < frameClips s stem voiced o))

/-- What a frame sends and measures where no voice delivers to a call. -/
def FrameSent (s : State) (stem : StemNo → Int) (t : State) : Prop := FrameSentWith s stem (fun _ => 0) t

/-- The CLIP records of a frame (R119): one for each output that is not UNUSED, clips, and had not reported it, with the
cause of its first clip; and where no output does, nothing is raised. -/
def ClipsReported (s : State) (stem : StemNo → Int) (t : State) : Prop :=
  (∀ o : OutputNo, s.mix.classes[o] ≠ .unused → 0 < frameClips s stem (fun _ => 0) o →
    (s.mix.meters[o]).reported = false →
    Raised { kind := .clip, output := .ofNat 8 o.val,
             aux1 := if sat24 (frameSum s stem (fun _ => 0) o) = frameSum s stem (fun _ => 0) o then 1 else 0 } t) ∧
    ((∀ o : OutputNo, s.mix.classes[o] ≠ .unused → 0 < frameClips s stem (fun _ => 0) o →
      (s.mix.meters[o]).reported = true) → t.links = s.links)

/-- A zone of a set has been attacked by a call (R144, R150): it carries the call and is DUCKED, and its duck level is
on its way to −depth. -/
def Attacked (id depth : Nat) (s : State) (z : ZoneNo) (t : State) : Prop :=
  ∃ a b, s.zone? z = some a ∧ t.zone? z = some b ∧ b.output = a.output ∧ b.carried = some id ∧ b.phase = .ducked ∧
    (s.relay.attack = 0 → b.duck = -depth) ∧
    (0 < s.relay.attack → s.fades.length + 16 ≤ Config.maxFades →
      b.duck = a.duck ∧ ∃ e, fadeFor (.duck z) t = some e ∧ e.goal = .db (-depth) ∧ e.n = s.relay.attack ∧ e.k = 0 ∧
        e.start = .db a.duck)

/-- A time within 0..600,000 ms (R21, R23). -/
def TimeOk (t : Nat) : Prop := t ≤ Config.maxTime

/-- A level of a record within a range, or OFF (R23, R25). -/
def LevelOk (lo hi : Int) (l : Level) : Prop := l = .off ∨ ∃ x, l = .db x ∧ lo ≤ x ∧ x ≤ hi

/-- An optional word position within a range (R23). -/
def OptionalOk (lo hi : Nat) (w : Option Nat) : Prop := ∀ n, w = some n → lo ≤ n ∧ n ≤ hi

/-- A PLAY action with every field in the range of R23. -/
def PlayOk (p : PlaySpec) : Prop :=
  p.region ≤ 1023 ∧ p.inWord ≤ 16777215 ∧ OptionalOk 1 16777216 p.out ∧ OptionalOk 0 16777215 p.loop ∧
    p.loops ≤ 255 ∧ p.priority ≤ 2 ∧ LevelOk (-960) 0 p.level ∧ TimeOk p.fadeIn ∧ p.group ≤ 63

/-- A CALL action with every field in the range of R23. -/
def CallOk (c : CallSpec) : Prop :=
  c.region ≤ 1023 ∧ c.inWord ≤ 16777215 ∧ OptionalOk 1 16777216 c.out ∧ c.zones ≠ 0 ∧ 1 ≤ c.priority ∧
    c.priority ≤ 3 ∧ -300 ≤ c.page ∧ c.page ≤ 60 ∧ c.depth ≤ 600

/-- The target of a STOP action in the range of R23. -/
def StopTargetOk : StopTarget → Prop
  | .group g => 1 ≤ g ∧ g ≤ 63
  | .cue n => validCueNum n = true
  | .all => True

/-- An action with every field in the range of R23. -/
def ActionOk : Action → Prop
  | .play p => PlayOk p
  | .stop target t => StopTargetOk target ∧ TimeOk t
  | .voiceFade g l t _ => 1 ≤ g ∧ g ≤ 63 ∧ LevelOk (-960) 0 l ∧ TimeOk t
  | .level _ _ l t => LevelOk (-960) 100 l ∧ TimeOk t
  | .scene id t => 1 ≤ id ∧ id ≤ 999 ∧ TimeOk t
  | .trim _ l t => LevelOk (-960) 100 l ∧ TimeOk t
  | .foldbackMode _ _ => True
  | .call c => CallOk c

/-- The source of a MARKER trigger in the range of R21. -/
def TriggerOk : Trigger → Prop
  | .marker c _ => validCueNum c = true
  | _ => True

/-- A cue record with every field in the ranges of R21 and R23. -/
def CueOk (c : Cue) : Prop :=
  validCueNum c.num = true ∧ c.label.length ≤ Config.maxLabel ∧ (∀ b ∈ c.label, printable b = true) ∧
    TriggerOk c.trigger ∧ TimeOk c.preWait ∧ TimeOk c.followDelay ∧ c.actions.length ≤ Config.maxCueActions ∧
    ∀ a ∈ c.actions, ActionOk a

/-- A scene record with every field in the ranges of R25 and no (source, output) pair twice. -/
def SceneOk (sc : Scene) : Prop :=
  1 ≤ sc.id ∧ sc.id ≤ 999 ∧ 1 ≤ sc.entries.length ∧ sc.entries.length ≤ Config.maxSceneEntries ∧
    (sc.entries.map fun e => (e.source, e.output)).Nodup ∧ ∀ e ∈ sc.entries, LevelOk (-960) 100 e.level

end Sys2Proof.Machine
end

