-- ==== Sys2Proof/WellFormed.lean ====
section
/-! DEFINITION. Which commands are well-formed: those that a link's port or the part's own sequencing can hand
over. The widths of the fields are in the types; what is left are the conditions of R169, R170, R178 and the
ranges of the identifiers. -/

namespace Sys2Proof

/-- The command is one that the Link Controller, the show-memory bus or the part's own events can make. -/
def Instr.wellFormed : Instr → Bool
  -- a malformed transaction is one that the port reads as malformed (R169, R170)
  | .badFrame l tx => decodeTransaction l tx == .badFrame l tx
  -- an unknown request's code is not in the permissions table (R170)
  | .unknownRequest _ code _ => grantOf code == none
  -- a record's payload has the length its word 0 states and at most 1,024 bytes (R170, R178)
  | .putCue _ _ ws => recordFramed ws
  | .putScene _ _ ws => recordFramed ws
  -- a transfer moves 1 to 256 words (R5)
  | .voiceFetchComplete ws => decide (1 ≤ ws.length ∧ ws.length ≤ Config.blockWords)
  | .loadReadComplete ws => decide (1 ≤ ws.length ∧ ws.length ≤ Config.blockWords)
  -- instance and call ids are 1..255
  | .prewaitEnd id => id != 0
  | .followExpiry id => id != 0
  | .callGateExpiry id => id != 0
  -- each voice is taken once in a frame
  | .audioFrame _ first => decide first.Nodup
  | .readResponse _ | .attach _ _ _ | .detach _ _ | .setPresence _ _ _ | .setEventMask _ _ _ => true
  | .readEvents _ _ _ | .readStatus _ _ | .editHold _ _ | .editRelease _ _ | .deleteCue _ _ _ => true
  | .deleteScene _ _ _ | .readCue _ _ _ _ | .readScene _ _ _ _ | .loadShow _ _ | .loadAbort _ _ => true
  | .setAccessDelay _ _ _ | .go _ _ _ | .standby _ _ | .fire _ _ _ | .setPlayhead _ _ _ => true
  | .setGoAuthority _ _ _ | .setStandbyRequired _ _ _ | .setGuard _ _ _ | .stopCue _ _ _ _ => true
  | .stopAll _ _ _ | .readRunning _ _ | .play _ _ _ | .stopVoice _ _ _ _ | .readVoices _ _ => true
  | .setLevel _ _ _ _ _ _ | .setTrim _ _ _ _ _ | .readLevels _ _ _ | .blank _ _ _ => true
  | .openOutput _ _ _ | .readMeters _ _ | .setReference _ _ _ | .setFollow _ _ _ _ _ => true
  | .setOffset _ _ _ _ _ | .setCeiling _ _ _ _ | .talkOn _ _ _ _ _ | .talkOff _ _ => true
  | .setLeveler _ _ _ | .setDuckTimes _ _ _ _ | .setGate _ _ _ _ | .call _ _ _ | .callEnd _ _ _ => true
  | .cancelCall _ _ _ | .readCalls _ _ | .showStop _ _ | .resume _ _ | .setStopTimes _ _ _ _ => true
  | .setAnnounce _ _ _ _ | .mhreqAsserted | .mhend | .smRdySeen | .taccExpiry | .arbitrate => true
  | .showstopAsserted | .showstopDeasserted | .resetAsserted | .resetReleased _ _ => true
  | .referenceLost _ | .lockAchieved | .presenceExpiry _ | .talkGateExpiry | .millisecondTick _ => true
  | .fadeComplete _ | .windowEnd | .declickRampEnd _ | .reclaimRampEnd _ | .blankingRampEnd _ => true
  | .voiceNaturalEnd _ | .enterPlaying _ | .enterStarved _ | .returnToPlaying _ | .decoderRun _ => true
  | .referencePresentAndInRange => true

end Sys2Proof
end

