-- ==== Sys2Proof/Certificates/Slice0/Obligations.lean ====
section
/-! DEFINITION. The statements for the provers, block by block. A request that reaches its block (Serves) reloads the
link's presence timer first, so its effects stand over `reloadPresence l s` (R170). -/

open Sys2Proof Sys2Proof.Machine

/-! ### The whole part -/

/-- The step takes the command at the front of the queue, and an empty queue idles: the model's choice (log 1). -/
def Obligations.StepTakesFront : Prop :=
  ∀ (c : Instr) (s : State),
    step { s with pending := c :: s.pending } = exec c s ∧ (s.pending = [] → step s = .next s)

/-- No command stops the part: each answers a next state, and leaves the queue of waiting commands as it is. -/
def Obligations.EveryCommandAnswersNext : Prop :=
  ∀ (c : Instr) (s : State), ∃ t, exec c s = .next t ∧ t.pending = s.pending

/-- The state right after reset meets every invariant below. -/
def Obligations.ResetMeetsInvariants : Prop :=
  LinksOk State.reset ∧ FadesOk State.reset ∧ FifosOk State.reset ∧ PlayheadOk State.reset ∧ TableOk State.reset ∧
    StoreOk State.reset

/-- Every step keeps the link records within their ranges and the edit hold with an ATTACHED link, which is the loading
link while a load is READING (R27, R28, R168, R173, R174). -/
def Obligations.StepKeepsLinks : Prop := ∀ s t, LinksOk s → step s = .next t → LinksOk t

/-- Every step keeps the fade list to 256 entries of distinct targets, each with steps still to take (R91). -/
def Obligations.StepKeepsFades : Prop := ∀ s t, FadesOk s → step s = .next t → FadesOk t

/-- Every step keeps every FIFO within its 1,024 entries (R64, R76). -/
def Obligations.StepKeepsFifos : Prop := ∀ s t, FifosOk s → step s = .next t → FifosOk t

/-- Every step keeps the playhead on a stored cue or END, and on END while the store is not READY (R38). -/
def Obligations.StepKeepsPlayhead : Prop := ∀ s t, PlayheadOk s → step s = .next t → PlayheadOk t

/-- Every step keeps the running cue table to 24 instances with distinct ids in 1..255 (R46). -/
def Obligations.StepKeepsTable : Prop := ∀ s t, TableOk s → step s = .next t → TableOk t

/-- Every step keeps the Cue Store within its capacities and in strictly ascending order (R22, R25). -/
def Obligations.StepKeepsStore : Prop := ∀ s t, StoreOk s → step s = .next t → StoreOk t

/-- Which commands may write a setting: the guard stamp by GO (R42), the monitor offsets and ceilings by their requests
and a load (R132, R133), tACC (R2), the leveler settings (R141), the stop and resume times (R165) and the presence
periods (R168, R172) by their own requests, each also by device reset; and the leveler gain of a held zone by no
command but a load (R143). -/
def Obligations.SettingsHaveTheirWriters : Prop :=
  ∀ (c : Instr) (s t : State), exec c s = .next t → (∀ line m, c ≠ .resetReleased line m) →
    (t.seq.stamp ≠ s.seq.stamp → ∃ l tag e, c = .go l tag e) ∧
    (t.foldback.offsets ≠ s.foldback.offsets →
      (∃ l tag i o x, c = .setOffset l tag i o x) ∨ ∃ ws, c = .loadReadComplete ws) ∧
    (t.foldback.ceilings ≠ s.foldback.ceilings →
      (∃ l tag o x, c = .setCeiling l tag o x) ∨ ∃ ws, c = .loadReadComplete ws) ∧
    (t.smi.tacc ≠ s.smi.tacc → ∃ l tag n, c = .setAccessDelay l tag n) ∧
    (t.relay.leveler ≠ s.relay.leveler → ∃ l tag p, c = .setLeveler l tag p) ∧
    (t.showStop.tStop ≠ s.showStop.tStop ∨ t.showStop.tResume ≠ s.showStop.tResume →
      ∃ l tag a b, c = .setStopTimes l tag a b) ∧
    (∀ r, (t.link r).tPres ≠ (s.link r).tPres → ∃ tag p, c = .setPresence r tag p) ∧
    (∀ z zn zn', (∀ ws, c ≠ .loadReadComplete ws) → s.zone? z = some zn → t.zone? z = some zn' →
      (zoneHeld s zn = true → zn'.leveler = zn.leveler) ∧
      (-200 ≤ zn.leveler ∧ zn.leveler ≤ 100 → -200 ≤ zn'.leveler ∧ zn'.leveler ≤ 100))

/-- A request of the monitor link changes no level, blanking state or foldback setting of an output that is not
FOLDBACK, and leaves no fade of its crosspoints or its trim that did not stand before (R99, R100, R116, R129, R132,
R133). -/
def Obligations.MonitorReachesFoldbackOnly : Prop :=
  ∀ (c : Instr) (s t : State) (o : OutputNo), c.sender = some .monitor → exec c s = .next t →
    s.mix.classes[o] ≠ .foldback →
    t.mix.xpts[o] = s.mix.xpts[o] ∧ t.mix.trims[o] = s.mix.trims[o] ∧ t.mix.blanking[o] = s.mix.blanking[o] ∧
      t.foldback.modes[o] = s.foldback.modes[o] ∧ t.foldback.offsets[o] = s.foldback.offsets[o] ∧
      t.foldback.ceilings[o] = s.foldback.ceilings[o] ∧
      ∀ e ∈ t.fades, (e.target = .trim o ∨ ∃ i, e.target = .crosspoint i o) → e ∈ s.fades

/-! ### Forms (R102 to R104, R178) -/

/-- The transaction written for a well-formed link command is read back as that command (R169, R170, R178). -/
def Obligations.DecodeOfEncode : Prop :=
  ∀ (i : Instr) (l : Role) (tx : List Byte), i.wellFormed = true → i.sender = some l →
    encodeTransaction i = some tx → decodeTransaction l tx = i

/-- A cue or scene record within its ranges is read back from the words that READ CUE and READ SCENE return for it; and
what is read from any words is within its ranges: cue records and PLAY actions (R21, R23) with their word checks (R24),
scene records (R25), the header with its counts, its offsets and at most 16 RELAY outputs (R10), and region entries
(R11). -/
def Obligations.RecordsReadBack : Prop :=
  (∀ (regions : List Region) (c : Cue), CueOk c → (∀ a ∈ c.actions, wordCheck regions a = true) →
    readCueRecord regions c.words = .ok c) ∧
  (∀ sc : Scene, SceneOk sc → readSceneRecord sc.words = .ok sc) ∧
  (∀ (regions : List Region) (ws : List Word) (c : Cue), readCueRecord regions ws = .ok c →
    CueOk c ∧ ∀ a ∈ c.actions, wordCheck regions a = true) ∧
  (∀ (w : ActionWords) (p : PlaySpec), readPlay w = some p → PlayOk p) ∧
  (∀ (ws : List Word) (sc : Scene), readSceneRecord ws = .ok sc → SceneOk sc) ∧
  (∀ (ws : List Word) (h : Header), readHeader ws = .ok h →
    h.ok ∧ (h.classes.toList.countP fun c => c == .relay) ≤ 16 ∧
      h.regionOffset + 2 * h.regionCount ≤ 16777216 ∧ h.sceneOffset + h.sceneLen ≤ 16777216 ∧
      h.cueOffset + h.cueLen ≤ 16777216) ∧
  ∀ (ws : List Word) (rs : List Region), readRegions ws = some rs →
    ∀ r ∈ rs, 1 ≤ r.len ∧ r.base + r.len ≤ 16777216

/-- G and M are the integers nearest to 16,384 and 8,388,607 times 10^(L/200): twice the value, one less and one more,
raised to the 200th power, enclose the power of the exact value (R102, R103). -/
def Obligations.GainAndMagnitude : Prop :=
  (∀ L : Int, -960 ≤ L → L ≤ 120 →
    (gainOf L = 0 ∨ (2 * gainOf L - 1) ^ 200 * 10 ^ 960 < 32768 ^ 200 * 10 ^ (L + 960).toNat) ∧
      32768 ^ 200 * 10 ^ (L + 960).toNat < (2 * gainOf L + 1) ^ 200 * 10 ^ 960) ∧
  (∀ L : Int, (Level.db L).gain = gainOf L) ∧ Level.off.gain = 0 ∧
  (∀ L : Int, -960 ≤ L → L ≤ 0 →
    (magnitudeOf L = 0 ∨ (2 * magnitudeOf L - 1) ^ 200 * 10 ^ 960 < 16777214 ^ 200 * 10 ^ (L + 960).toNat) ∧
      16777214 ^ 200 * 10 ^ (L + 960).toNat < (2 * magnitudeOf L + 1) ^ 200 * 10 ^ 960)

/-- The level that a fade writes: the goal itself at the last step, and before it a number between start and goal that
has gone the whole tenths of its part of the way, with OFF worked as −960 (R94). That the truncation acts on the way
gone is the model's reading (log 22). -/
def Obligations.FadeLevelLaw : Prop :=
  ∀ (start goal : Level) (k n : Nat), 0 < n →
    fadeLevel start goal n n = goal ∧
    (k < n → ∃ x : Int, fadeLevel start goal k n = .db x ∧
      (start.num ≤ goal.num →
        start.num ≤ x ∧ x ≤ goal.num ∧ (x - start.num) * n ≤ (goal.num - start.num) * k ∧
          (goal.num - start.num) * k < (x - start.num + 1) * n) ∧
      (goal.num ≤ start.num →
        goal.num ≤ x ∧ x ≤ start.num ∧ (start.num - x) * n ≤ (start.num - goal.num) * k ∧
          (start.num - goal.num) * k < (start.num - x + 1) * n))

/-! ### Links -/

/-- READ RESPONSE shifts the slot's response out and keeps it, an EMPTY slot gives NONE_PENDING; a malformed frame is
answered BAD_FRAME with its code and tag, or 0 for both where fewer than two bytes came, and without a reload; an
unknown code is answered UNKNOWN_REQUEST with one (R169, R170). That the echo of a transaction with a bad command byte is
the two bytes after it is the model's reading (log 5), and that a transaction with no byte is answered at all is its
choice (log 27). -/
def Obligations.FramesAnswered : Prop :=
  ∀ (l : Role) (s : State), s.timing.inReset = false →
    (∀ r, (s.link l).slot = some r →
      exec (.readResponse l) s = .next (s.setLink l { s.link l with
        sdo := [r.code, r.tag, .ofNat 8 r.result.code, 0] ++ bytes16 (.ofNat 16 r.payload.length) ++ r.payload })) ∧
    ((s.link l).slot = none →
      exec (.readResponse l) s = .next (s.setLink l { s.link l with sdo := [0, 0, 31, 0, 0, 0] })) ∧
    (∀ cmd code tag rest, exec (.badFrame l (cmd :: code :: tag :: rest)) s = answered l code tag .badFrame [] s) ∧
    (∀ tx, tx.length ≤ 2 → exec (.badFrame l tx) s = answered l 0 0 .badFrame [] s) ∧
    (∀ code tag,
      exec (.unknownRequest l code tag) s = answered l code tag .unknownRequest [] (reloadPresence l s)) ∧
    ((s.link l).attached = true → reloadPresence l s = s.setLink l { s.link l with timer := (s.link l).tPres }) ∧
    ((s.link l).attached = false → reloadPresence l s = s)

/-- Every request but ATTACH and READ STATUS is answered NOT_ATTACHED on a DETACHED link, and a request that the
permissions table does not grant is answered NOT_PERMITTED; neither reaches its block (R170). -/
def Obligations.RefusedBeforeTheOwner : Prop :=
  ∀ (c : Instr) (l : Role) (code tag : Byte) (s : State), requestOf c = some (l, code, tag) →
    c.wellFormed = true → s.timing.inReset = false →
    ((s.link l).attached = false → code ≠ 0x01#8 → code ≠ 0x06#8 → exec c s = answered l code tag .notAttached [] s) ∧
    ((s.link l).attached = true → permitted code l = false →
      exec c s = answered l code tag .notPermitted [] (reloadPresence l s))

/-- ATTACH by its revision and the link's state (R171); SET PRESENCE with its clamp and reload (R172); SET EVENT MASK,
and the attention line that the mask leaves driven (R175). -/
def Obligations.LinkSetUp : Prop :=
  ∀ (l : Role) (tag : Byte) (s : State), s.timing.inReset = false →
    (∀ rev : Byte, rev ≠ 1#8 →
      exec (.attach l tag rev) s = answered l 0x01 tag .badRevision [] (reloadPresence l s)) ∧
    ((s.link l).attached = true →
      exec (.attach l tag 1) s = answered l 0x01 tag .accepted (u8 (roleCode l) ++ u8 1 ++ u16 (s.link l).tPres)
        (reloadPresence l s)) ∧
    ((s.link l).attached = false →
      exec (.attach l tag 1) s = answered l 0x01 tag .accepted (u8 (roleCode l) ++ u8 1 ++ u16 (s.link l).tPres)
        (s.setLink l { s.link l with attached := true, timer := (s.link l).tPres, queue := [], lost := false })) ∧
    (∀ (period : Half) (p : Nat), (s.link l).attached = true → p = max 250 (min 10000 period.toNat) →
      exec (.setPresence l tag period) s = answered l 0x03 tag .accepted (u16 p)
        (s.setLink l { s.link l with tPres := p, timer := p })) ∧
    (∀ mask : Word, (s.link l).attached = true → ∃ k : Link,
      exec (.setEventMask l tag mask) s = answered l 0x04 tag .accepted (bytes32 (mask &&& 0x0FFFFFFF))
        (s.setLink l k) ∧
      k = { s.link l with timer := (s.link l).tPres, mask := k.mask } ∧
      (∀ e : EventKind, k.masks e = mask.getLsbD (e.code - 1)) ∧
      (k.attention = true ↔ ∃ e ∈ (s.link l).queue, mask.getLsbD (e.kind.code - 1) = false))

/-- DETACH, and the expiry of a presence timer that has reached 0, have the effects of R173 in order: the link's record,
the end of its load (R16, R18), the edit hold (R28), the end of the prompt link's live calls (R153) or of the monitor
link's talk (R136), with the records that the remaining links receive in that order; an expiry then raises LINK_LOST with
the role. The records and zones of ended calls are stated where every waiting call is one of them, so that the scan starts
none. A timer that has not run out does not expire (log 1). -/
def Obligations.LinkDetaches : Prop :=
  ∀ (l : Role) (s : State), s.timing.inReset = false → (s.link l).attached = true →
    (∀ tag, ∃ t, exec (.detach l tag) s = answered l 0x02 tag .accepted [] t ∧ Detached l s t) ∧
    ((s.link l).timer = 0 → ∃ t,
      exec (.presenceExpiry l) s = .next (raise { kind := .linkLost, reason := .ofNat 8 (roleCode l) } t) ∧
        Detached l s t) ∧
    ((s.link l).timer ≠ 0 → exec (.presenceExpiry l) s = .next s)

/-- An event reaches every ATTACHED link: appended where there is room, dropped with the lost flag set where 64 stand
(R174). READ EVENTS removes and returns the oldest records, 1 to 16 of 26 bytes each, and clears the lost flag (R176).
READ METERS returns the meters and clears them (R120). -/
def Obligations.ReadsThatTake : Prop :=
  (∀ (e : Event) (s : State) (r : Role),
    (raise e s).link r =
      if (s.link r).attached then
        if (s.link r).queue.length < 64 then
          { s.link r with queue := (s.link r).queue ++ [{ e with clock := s.timing.showClock }] }
        else { s.link r with lost := true }
      else s.link r) ∧
  (∀ e : Event, e.bytes.length = 26) ∧
  ∀ (l : Role) (tag count : Byte) (s : State), s.timing.inReset = false → (s.link l).attached = true →
    (∀ n, n = max 1 (min 16 count.toNat) →
      exec (.readEvents l tag count) s = answered l 0x05 tag .accepted
        (flag (s.link l).lost ++ u8 ((s.link l).queue.length - n) ++ u8 (min n (s.link l).queue.length) ++
          ((s.link l).queue.take n).flatMap Event.bytes)
        (s.setLink l { s.link l with
          timer := (s.link l).tPres, queue := (s.link l).queue.drop n, lost := false })) ∧
    exec (.readMeters l tag) s = answered l 0x4A tag .accepted (metersBlock s)
      { reloadPresence l s with
        mix := { s.mix with meters := Vector.replicate 32 { peak := 0, clips := 0, reported := false } },
        stream := { s.stream with stemSat := Vector.replicate 24 0 } } ∧
    (metersBlock s).length = 336

/-- The reads return their blocks and change nothing (R36, R62, R88, R101, R157, R177). That a direction above 2 is
answered BAD_FIELD (log 18), and that the status block is that of the state after the presence reload (log 5), are the
model's readings. -/
def Obligations.ReadsChangeNothing : Prop :=
  ∀ (l : Role) (tag : Byte) (s : State), s.timing.inReset = false →
    exec (.readStatus l tag) s =
      answered l 0x06 tag .accepted (statusBlock l (reloadPresence l s)) (reloadPresence l s) ∧
    ((s.link l).attached = true →
      exec (.readRunning l tag) s = answered l 0x29 tag .accepted (runningBlock s) (reloadPresence l s) ∧
      exec (.readVoices l tag) s =
        answered l 0x32 tag .accepted (voiceNos.flatMap (voiceBytes s)) (reloadPresence l s) ∧
      exec (.readCalls l tag) s = answered l 0x66 tag .accepted (callsBlock s) (reloadPresence l s) ∧
      (∀ (o : OutputNo) (b : Byte), b.toNat = o.val →
        exec (.readLevels l tag b) s = answered l 0x42 tag .accepted (levelsBlock s o) (reloadPresence l s)) ∧
      (∀ b : Byte, 32 ≤ b.toNat →
        exec (.readLevels l tag b) s = answered l 0x42 tag .badField [] (reloadPresence l s)) ∧
      (∀ (n : CueNum) (d : Byte), 2 < d.toNat →
        exec (.readCue l tag n d) s = answered l 0x16 tag .badField [] (reloadPresence l s)) ∧
      (∀ (n : CueNum) (d : Byte) (r : Option Cue), d.toNat ≤ 2 →
        r = (if d = 0 then s.store.cues.find? (·.num == n)
          else if d = 1 then s.store.cues.find? (fun c => decide (n.toNat < c.num.toNat))
          else s.store.cues.reverse.find? (fun c => decide (c.num.toNat < n.toNat))) →
        (∀ c, r = some c → exec (.readCue l tag n d) s =
          answered l 0x16 tag .accepted (bytesOfWords c.words) (reloadPresence l s)) ∧
        (r = none → exec (.readCue l tag n d) s = answered l 0x16 tag .noSuchCue [] (reloadPresence l s))) ∧
      (∀ (n : Half) (d : Byte), 2 < d.toNat →
        exec (.readScene l tag n d) s = answered l 0x17 tag .badField [] (reloadPresence l s)) ∧
      (∀ (n : Half) (d : Byte) (r : Option Scene), d.toNat ≤ 2 →
        r = (if d = 0 then s.store.scenes.find? (·.id == n.toNat)
          else if d = 1 then s.store.scenes.find? (fun c => decide (n.toNat < c.id))
          else s.store.scenes.reverse.find? (fun c => decide (c.id < n.toNat))) →
        (∀ sc, r = some sc → exec (.readScene l tag n d) s =
          answered l 0x17 tag .accepted (bytesOfWords sc.words) (reloadPresence l s)) ∧
        (r = none → exec (.readScene l tag n d) s = answered l 0x17 tag .noSuchScene [] (reloadPresence l s))))

/-- The blocks that the reads return have the lengths that the layouts of R178 give, and a FREE voice's fields after its
state are 0 (R88). -/
def Obligations.BlocksHaveTheirLengths : Prop :=
  ∀ s : State,
    (∀ l, (statusBlock l s).length = 90) ∧ (runningBlock s).length = 19 + 25 * s.seq.instances.length ∧
      (∀ v, (voiceBytes s v).length = 44) ∧
      (∀ v, (s.voice v).state = .free → voiceBytes s v = .ofNat 8 v.val :: List.replicate 43 0) ∧
      (∀ o, (levelsBlock s o).length = 782) ∧
      (callsBlock s).length = 22 + 24 * s.relay.zones.length +
        32 * (s.relay.playing.length + s.relay.waiting.length) + 5 * s.relay.tails.length

/-! ### Cue Store and Edit Hold -/

/-- EDIT HOLD by the three rows of R26, the gate that the four edits share (R29), and a record not framed as R178
allows, which is a malformed frame (R170, log 5). -/
def Obligations.EditHoldAndGate : Prop :=
  (∀ (l : Role) (tag : Byte) (s : State), Serves l 0x10 s →
    (s.store.holder = none → exec (.editHold l tag) s = answered l 0x10 tag .accepted []
      (raise { kind := .holdChanged, reason := .ofNat 8 (roleCode l) }
        { reloadPresence l s with store := { s.store with holder := some l } })) ∧
    (s.store.holder = some l → exec (.editHold l tag) s = answered l 0x10 tag .accepted [] (reloadPresence l s)) ∧
    (∀ h, s.store.holder = some h → h ≠ l →
      exec (.editHold l tag) s = answered l 0x10 tag .held (u8 (roleCode h)) (reloadPresence l s))) ∧
  (∀ (c : Instr) (l : Role) (code tag : Byte) (s : State), requestOf c = some (l, code, tag) →
    code ∈ [0x12#8, 0x13#8, 0x14#8, 0x15#8] → c.wellFormed = true → Serves l code s →
    (s.store.holder ≠ some l → exec c s = answered l code tag .notHolder [] (reloadPresence l s)) ∧
    (s.store.holder = some l → s.store.state = .noShow →
      exec c s = answered l code tag .noShow [] (reloadPresence l s)) ∧
    (s.store.holder = some l → s.store.state = .loading →
      exec c s = answered l code tag .loading [] (reloadPresence l s))) ∧
  ∀ (l : Role) (tag : Byte) (words : List Word) (s : State), s.timing.inReset = false → recordFramed words = false →
    exec (.putCue l tag words) s = answered l 0x12 tag .badFrame [] s ∧
    exec (.putScene l tag words) s = answered l 0x14 tag .badFrame [] s

/-- EDIT RELEASE (R27): accepted from the holder while no load is READING, with HOLD_CHANGED to NONE; refused LOADING
while one is, where the holder is the loading link; refused NOT_HOLDER from any other link. -/
def Obligations.EditReleaseTaken : Prop :=
  ∀ (l : Role) (tag : Byte) (s : State), LinksOk s → Serves l 0x11 s →
    (s.store.holder = some l → s.smi.load = none →
      exec (.editRelease l tag) s = answered l 0x11 tag .accepted []
        (raise { kind := .holdChanged, reason := 0 }
          { reloadPresence l s with store := { s.store with holder := none } })) ∧
    (∀ ld, s.smi.load = some ld → s.store.holder = some ld.link ∧
      (s.store.holder = some l →
        exec (.editRelease l tag) s = answered l 0x11 tag .loading [] (reloadPresence l s))) ∧
    (s.store.holder ≠ some l →
      exec (.editRelease l tag) s = answered l 0x11 tag .notHolder [] (reloadPresence l s))

/-- PUT CUE past the gate: the four classes of refusal in order, with the failing item (R30), and the placing of the
record, which inserts or replaces and leaves everything but the store's cues (R22, R29, R31). -/
def Obligations.PutCueTaken : Prop :=
  ∀ (l : Role) (tag : Byte) (words : List Word) (s : State), Serves l 0x12 s → s.store.holder = some l →
    s.store.state = .ready → recordFramed words = true →
    s.store.cues.Pairwise (fun a b => a.num.toNat < b.num.toNat) →
    (∀ item, readCueRecord s.smi.regions words = .error item →
      exec (.putCue l tag words) s = answered l 0x12 tag .badField (u8 item) (reloadPresence l s)) ∧
    ∀ c, readCueRecord s.smi.regions words = .ok c →
      (∀ before a after, c.actions = before ++ a :: after →
        (∀ b ∈ before, referenceCheck s.smi.regions s.store.scenes b = true) →
        referenceCheck s.smi.regions s.store.scenes a = false →
        exec (.putCue l tag words) s =
          answered l 0x12 tag .badReference (u8 (before.length + 1)) (reloadPresence l s)) ∧
      ∀ others, others = s.store.cues.filter (fun d => d.num != c.num) →
        (∀ a ∈ c.actions, referenceCheck s.smi.regions s.store.scenes a = true) →
        (600 ≤ others.length ∨ 4096 < actionTotal others + c.actions.length →
          exec (.putCue l tag words) s = answered l 0x12 tag .storeFull [] (reloadPresence l s)) ∧
        (others.length < 600 → actionTotal others + c.actions.length ≤ 4096 →
          ((cueOf c.num s).isSome = true → (∃ i ∈ s.seq.instances, i.cue = c.num ∧ i.phase = .prewait) →
            exec (.putCue l tag words) s = answered l 0x12 tag .inUse [] (reloadPresence l s)) ∧
          ((∀ i ∈ s.seq.instances, i.cue = c.num → i.phase ≠ .prewait) → ∃ cs : List Cue,
            exec (.putCue l tag words) s = answered l 0x12 tag .accepted
              (u16 (others.length + 1) ++ u16 (actionTotal others + c.actions.length))
              { reloadPresence l s with store := { s.store with cues := cs } } ∧
            cs.Pairwise (fun a b => a.num.toNat < b.num.toNat) ∧ ∀ d, d ∈ cs ↔ d = c ∨ d ∈ others))

/-- DELETE CUE past the gate (R32): a number not stored and a cue in PREWAIT are refused; otherwise the record goes,
and a deleted playhead moves to the next GO cue with PLAYHEAD_MOVED. -/
def Obligations.DeleteCueTaken : Prop :=
  ∀ (l : Role) (tag : Byte) (n : CueNum) (s : State) (cs : List Cue), Serves l 0x13 s → s.store.holder = some l →
    s.store.state = .ready → cs = s.store.cues.filter (fun c => c.num != n) →
    (cueOf n s = none → exec (.deleteCue l tag n) s = answered l 0x13 tag .noSuchCue [] (reloadPresence l s)) ∧
    ((cueOf n s).isSome = true →
      ((∃ i ∈ s.seq.instances, i.cue = n ∧ i.phase = .prewait) →
        exec (.deleteCue l tag n) s = answered l 0x13 tag .inUse [] (reloadPresence l s)) ∧
      ((∀ i ∈ s.seq.instances, i.cue = n → i.phase ≠ .prewait) →
        (s.seq.playhead ≠ some n →
          exec (.deleteCue l tag n) s = answered l 0x13 tag .accepted (u16 cs.length ++ u16 (actionTotal cs))
            { reloadPresence l s with store := { s.store with cues := cs } }) ∧
        ∀ p, s.seq.playhead = some n →
          p = (cs.find? fun c => decide (n.toNat < c.num.toNat) && c.trigger == .go).map (·.num) →
          exec (.deleteCue l tag n) s = answered l 0x13 tag .accepted (u16 cs.length ++ u16 (actionTotal cs))
            (raise { kind := .playheadMoved, endFlag := p.isNone, cue := p.getD 0, reason := 2 }
              { reloadPresence l s with
                store := { s.store with cues := cs }, seq := { s.seq with playhead := p, standby := false } })))

/-- PUT SCENE past the gate refuses a bad field with its item and a store over its capacity, and else inserts or
replaces the scene (R25, R33); DELETE SCENE refuses an identifier not stored and else removes the scene (R34). -/
def Obligations.SceneEditsTaken : Prop :=
  ∀ (l : Role) (tag : Byte) (s : State), Serves l 0x14 s → s.store.holder = some l → s.store.state = .ready →
    s.store.scenes.Pairwise (fun a b => a.id < b.id) →
    (∀ words, recordFramed words = true →
      (∀ item, readSceneRecord words = .error item →
        exec (.putScene l tag words) s = answered l 0x14 tag .badField (u8 item) (reloadPresence l s)) ∧
      ∀ sc others, readSceneRecord words = .ok sc → others = s.store.scenes.filter (fun d => d.id != sc.id) →
        (128 ≤ others.length ∨ 4096 < entryTotal others + sc.entries.length →
          exec (.putScene l tag words) s = answered l 0x14 tag .storeFull [] (reloadPresence l s)) ∧
        (others.length < 128 → entryTotal others + sc.entries.length ≤ 4096 → ∃ ss : List Scene,
          exec (.putScene l tag words) s = answered l 0x14 tag .accepted
            (u16 (others.length + 1) ++ u16 (entryTotal others + sc.entries.length))
            { reloadPresence l s with store := { s.store with scenes := ss } } ∧
          ss.Pairwise (fun a b => a.id < b.id) ∧ ∀ d, d ∈ ss ↔ d = sc ∨ d ∈ others)) ∧
    ∀ (id : Half) (rest : List Scene), rest = s.store.scenes.filter (fun sc => sc.id != id.toNat) →
      (sceneOf id.toNat s = none →
        exec (.deleteScene l tag id) s = answered l 0x15 tag .noSuchScene [] (reloadPresence l s)) ∧
      ((sceneOf id.toNat s).isSome = true →
        exec (.deleteScene l tag id) s = answered l 0x15 tag .accepted (u16 rest.length ++ u16 (entryTotal rest))
          { reloadPresence l s with store := { s.store with scenes := rest } })

/-! ### Loading a show -/

/-- LOAD SHOW: the five refusals of R14 in order and the effects at acceptance. LOAD ABORT: refused NOT_HOLDER and
NO_LOAD, and otherwise the load ends ABORTED, with a read of it in flight marked discard (R16, R18). -/
def Obligations.LoadRequests : Prop :=
  ∀ (l : Role) (tag : Byte) (s : State), Serves l 0x18 s →
    (s.store.holder ≠ some l →
      exec (.loadShow l tag) s = answered l 0x18 tag .notHolder [] (reloadPresence l s) ∧
      exec (.loadAbort l tag) s = answered l 0x19 tag .notHolder [] (reloadPresence l s)) ∧
    (s.store.holder = some l →
      (∀ ld, s.smi.load = some ld →
        exec (.loadShow l tag) s = answered l 0x18 tag .loading [] (reloadPresence l s) ∧
        ∃ t, exec (.loadAbort l tag) s = answered l 0x19 tag .accepted [] t ∧ LoadFailed .aborted ld.phase s t ∧
          (∀ tr d, s.smi.port = .fetch tr → tr.user = .load d →
            t.smi.port = .fetch { tr with user := .load true }) ∧
          ((∀ tr d, s.smi.port = .fetch tr → tr.user ≠ .load d) → t.smi.port = s.smi.port)) ∧
      (s.smi.load = none →
        exec (.loadAbort l tag) s = answered l 0x19 tag .noLoad [] (reloadPresence l s) ∧
        (s.showStop.state ≠ .normal →
          exec (.loadShow l tag) s = answered l 0x18 tag .showStopped [] (reloadPresence l s)) ∧
        (s.showStop.state = .normal → s.smi.port = .held →
          exec (.loadShow l tag) s = answered l 0x18 tag .memoryHeld [] (reloadPresence l s)) ∧
        (s.showStop.state = .normal → s.smi.port ≠ .held →
          ((∃ v, (s.voice v).state ≠ .free) ∨ s.seq.instances ≠ [] ∨ s.relay.playing ≠ [] ∨ s.relay.waiting ≠ [] →
            exec (.loadShow l tag) s = answered l 0x18 tag .busy [] (reloadPresence l s)) ∧
          ((∀ v, (s.voice v).state = .free) → s.seq.instances = [] → s.relay.playing = [] → s.relay.waiting = [] →
            exec (.loadShow l tag) s = answered l 0x18 tag .accepted []
              { reloadPresence l s with
                smi := { s.smi with
                  load := some { link := l, phase := .header, next := 0, remaining := 16, words := [], ended := false,
                                 header := none, regions := [] },
                  regions := [] },
                store := { s.store with state := .loading, cues := [], scenes := [] },
                seq := { s.seq with playhead := none, standby := false },
                fades := s.fades.filter fun e => match e.target with
                  | .voice _ | .stopMute => true
                  | .crosspoint _ _ | .trim _ | .duck _ => false,
                mix := { s.mix with classes := Vector.replicate 32 .unused },
                foldback := match s.foldback.talk with
                  | some _ => { s.foldback with
                      talk := none, lastEnd := some { cause := .load, time := s.timing.showClock } }
                  | none => s.foldback,
                relay := { s.relay with zones := [] } }))))

/-- A load read that completes (R6, R15, R16): dropped where it is marked discard; in HEADER and REGIONS the words
collect and the phase's end starts the next phase, past one of zero words, or fails the load; in SCENES and CUES the words
of a record collect over the reads, and a record wholly taken is checked, placed or fails the load with its reason; words
left over and counts that differ at the block's end fail it with COUNT_MISMATCH (R12). A transfer still in ACCESS does not
complete (log 1). What leftover words are, where the counts are already placed, is the model's reading (log 12). -/
def Obligations.LoadReadTaken : Prop :=
  ∀ (words : List Word) (s : State) (tr : Transfer), s.timing.inReset = false → s.smi.port = .fetch tr →
    (tr.phase = .access → exec (.loadReadComplete words) s = .next s) ∧
    (tr.phase = .transfer → words.length = tr.len →
      (tr.user = .load true →
        exec (.loadReadComplete words) s = .next { s with smi := { s.smi with port := .idle } }) ∧
      ∀ ld, tr.user = .load false → s.smi.load = some ld →
        ∀ (next : Load → State) (fails : LoadFailure → LoadPhase → Prop),
        (next = fun l => { s with smi := { s.smi with port := .idle, load := some l } }) →
        (fails = fun why phase => ∃ t, exec (.loadReadComplete words) s = .next t ∧ LoadFailed why phase s t) →
        (ld.phase = .regions → words.length < ld.remaining →
          exec (.loadReadComplete words) s = .next (next { ld with
            words := ld.words ++ words, next := ld.next + words.length, remaining := ld.remaining - words.length })) ∧
        (ld.phase = .header → words.length = ld.remaining →
          (∀ why, readHeader (ld.words ++ words) = .error why → fails why .header) ∧
          ∀ h, readHeader (ld.words ++ words) = .ok h →
            (0 < h.regionCount →
              exec (.loadReadComplete words) s = .next (next { ld with
                phase := .regions, next := h.regionOffset, remaining := 2 * h.regionCount, words := [],
                ended := false, header := some h })) ∧
            (h.regionCount = 0 → 0 < h.sceneLen →
              exec (.loadReadComplete words) s = .next (next { ld with
                phase := .scenes, next := h.sceneOffset, remaining := h.sceneLen, words := [], ended := false,
                header := some h, regions := [] }))) ∧
        (∀ h, ld.phase = .regions → ld.header = some h → words.length = ld.remaining →
          (readRegions (ld.words ++ words) = none → fails .pastEnd .regions) ∧
          ∀ rs, readRegions (ld.words ++ words) = some rs →
            (0 < h.sceneLen →
              exec (.loadReadComplete words) s = .next (next { ld with
                phase := .scenes, next := h.sceneOffset, remaining := h.sceneLen, words := [], ended := false,
                regions := rs })) ∧
            (h.sceneLen = 0 → s.store.scenes = [] →
              (h.sceneCount = 0 → h.entryCount = 0 → 0 < h.cueLen →
                exec (.loadReadComplete words) s = .next (next { ld with
                  phase := .cues, next := h.cueOffset, remaining := h.cueLen, words := [], ended := false,
                  regions := rs })) ∧
              (h.sceneCount ≠ 0 ∨ h.entryCount ≠ 0 → fails .countMismatch .scenes))) ∧
        (∀ h phase, (phase = .scenes ∨ phase = .cues) → ld.phase = phase → ld.header = some h → ld.ended = false →
          words ≠ [] → words.length ≤ ld.remaining →
          (∀ done : Prop, (done ↔ phase = .scenes ∧ h.sceneCount ≤ s.store.scenes.length ∨
              phase = .cues ∧ h.cueCount ≤ s.store.cues.length) →
            (ld.words.length + ld.remaining < statedLength (ld.words ++ words) →
              (¬ done → fails .badRecord phase) ∧ (done → words.length = ld.remaining → fails .countMismatch phase)) ∧
            (statedLength (ld.words ++ words) = (ld.words ++ words).length → ¬ done →
              (phase = .scenes → ∀ item, readSceneRecord (ld.words ++ words) = .error item →
                fails .badRecord phase) ∧
              (phase = .cues → ∀ item, readCueRecord ld.regions (ld.words ++ words) = .error item →
                fails .badRecord phase))) ∧
          ((ld.words ++ words).length < statedLength (ld.words ++ words) →
            statedLength (ld.words ++ words) ≤ ld.words.length + ld.remaining →
            exec (.loadReadComplete words) s = .next (next { ld with
              words := ld.words ++ words, next := ld.next + words.length,
              remaining := ld.remaining - words.length }))) ∧
        (∀ h sc, ld.phase = .scenes → ld.header = some h → ld.ended = false → SceneOk sc →
          ld.words ++ words = sc.words → words ≠ [] → words.length ≤ ld.remaining →
          ((sceneOf sc.id s).isSome = true → fails .duplicate .scenes) ∧
          (sceneOf sc.id s = none → ∀ n m, n = s.store.scenes.length + 1 →
            m = entryTotal s.store.scenes + sc.entries.length →
            (h.sceneCount < n ∨ h.entryCount < m → fails .countMismatch .scenes) ∧
            (n ≤ h.sceneCount → m ≤ h.entryCount → ∀ placed : State → State,
              (placed = fun t => { t with store := { s.store with scenes := placeScene sc s.store.scenes } }) →
              (words.length < ld.remaining →
                exec (.loadReadComplete words) s = .next (placed (next { ld with
                  words := [], next := ld.next + words.length, remaining := ld.remaining - words.length }))) ∧
              (words.length = ld.remaining →
                (n ≠ h.sceneCount ∨ m ≠ h.entryCount → fails .countMismatch .scenes) ∧
                (n = h.sceneCount → m = h.entryCount → 0 < h.cueLen →
                  exec (.loadReadComplete words) s = .next (placed (next { ld with
                    phase := .cues, next := h.cueOffset, remaining := h.cueLen, words := [] }))))))) ∧
        ∀ h c, ld.phase = .cues → ld.header = some h → ld.ended = false → CueOk c → ld.words ++ words = c.words →
          words ≠ [] → words.length ≤ ld.remaining → (∀ a ∈ c.actions, wordCheck ld.regions a = true) →
          ((cueOf c.num s).isSome = true → fails .duplicate .cues) ∧
          (cueOf c.num s = none →
            ((∃ a ∈ c.actions, referenceCheck ld.regions s.store.scenes a = false) → fails .badReference .cues) ∧
            ((∀ a ∈ c.actions, referenceCheck ld.regions s.store.scenes a = true) → ∀ n m,
              n = s.store.cues.length + 1 → m = actionTotal s.store.cues + c.actions.length →
              (h.cueCount < n ∨ h.actionCount < m → fails .countMismatch .cues) ∧
              (words.length = ld.remaining → n ≠ h.cueCount ∨ m ≠ h.actionCount → fails .countMismatch .cues) ∧
              (n ≤ h.cueCount → m ≤ h.actionCount → words.length < ld.remaining →
                exec (.loadReadComplete words) s = .next { next { ld with
                    words := [], next := ld.next + words.length, remaining := ld.remaining - words.length } with
                  store := { s.store with cues := placeCue c s.store.cues } }))))

/-- A CUES block of well-formed cues with distinct numbers, whose counts are those of the header, ends the load with
success: every cue is stored in order, and the effects of R17 stand; in STOPPED every new zone joins the show-stop
call. -/
def Obligations.LoadPlacesTheImage : Prop :=
  ∀ (s : State) (tr : Transfer) (ld : Load) (h : Header) (cs : List Cue), s.timing.inReset = false →
    s.smi.port = .fetch tr → tr.phase = .transfer → tr.user = .load false →
    tr.len = (cs.flatMap Cue.words).length → s.smi.load = some ld → ld.phase = .cues → ld.header = some h →
    ld.ended = false → ld.words = [] → ld.remaining = tr.len → s.store.cues = [] → (∀ c ∈ cs, CueOk c) →
    (cs.map (·.num)).Nodup →
    (∀ c ∈ cs, ∀ a ∈ c.actions,
      wordCheck ld.regions a = true ∧ referenceCheck ld.regions s.store.scenes a = true) →
    h.cueCount = cs.length → h.actionCount = actionTotal cs →
    ∃ t, exec (.loadReadComplete (cs.flatMap Cue.words)) s = .next t ∧
      t.smi = { s.smi with port := .idle, load := none, regions := ld.regions } ∧
      t.store = { s.store with state := .ready, cues := t.store.cues } ∧
      t.store.cues.Pairwise (fun a b => a.num.toNat < b.num.toNat) ∧ (∀ c, c ∈ t.store.cues ↔ c ∈ cs) ∧
      t.seq = { s.seq with
        playhead := (t.store.cues.find? fun c => c.trigger == .go).map (·.num), standby := false } ∧
      t.mix = { s.mix with
        classes := h.classes, xpts := Vector.replicate 32 (Vector.replicate 40 .off),
        trims := Vector.replicate 32 (.db 0) } ∧
      t.foldback = { s.foldback with
        modes := Vector.replicate 32 .independent, offsets := Vector.replicate 32 (Vector.replicate 40 0),
        ceilings := Vector.replicate 32 0 } ∧
      t.relay.zones.map (·.output) = (List.finRange 32).filter (fun o => h.classes[o] == .relay) ∧
      t.showStop = s.showStop ∧ t.stream = s.stream ∧
      (s.showStop.state ≠ .stopped →
        (∀ zn ∈ t.relay.zones, zn = { output := zn.output, leveler := 0, duck := 0, phase := .clear, peak := 0,
                                      carried := none }) ∧
        t.fades = s.fades ∧
        Newest { kind := .loadDone, aux1 := .ofNat 16 cs.length, aux2 := .ofNat 16 s.store.scenes.length,
                 zones := .ofNat 16 ld.regions.length } t) ∧
      ∀ c, s.showStop.state = .stopped → s.relay.playing.find? (fun d => d.source == .announce) = some c →
        ∀ z zn, t.zone? z = some zn → zn.carried = some c.id ∧ zn.phase = .ducked

/-! ### Show Memory Interface -/

/-- ARBITRATE by R4: nothing on a port that is not IDLE; the hold where MHREQ is asserted; else the fetch of the voice
that is served before every other waiting voice, with its block of R5, and there is one where a voice waits; else the
load read; else nothing. -/
def Obligations.ArbiterPicks : Prop :=
  ∀ s : State, s.timing.inReset = false →
    (s.smi.port ≠ .idle → exec .arbitrate s = .next s) ∧
    (s.smi.port = .idle →
      (s.smi.mhreq = true →
        exec .arbitrate s = .next
          (raise { kind := .memoryHold, reason := 1 } { s with smi := { s.smi with port := .held } })) ∧
      (s.smi.mhreq = false →
        (∀ v x reg, x = s.voice v → s.smi.regions[x.region]? = some reg → x.fetch = .waiting →
          (∀ w, w ≠ v → (s.voice w).fetch = .waiting → ServedBefore s v w) →
          exec .arbitrate s = .next { s with
            smi := { s.smi with
              port := .fetch { phase := .access, user := .voice v, start := reg.base + x.next,
                               len := min 256 (x.out - x.next), tacc := s.smi.tacc, ready := false,
                               taccExpired := false },
              lastServed := v },
            stream := { s.stream with voices := s.stream.voices.set v { x with fetch := .inFlight } } }) ∧
        ((∃ v, (s.voice v).fetch = .waiting) →
          ∃ v, (s.voice v).fetch = .waiting ∧ ∀ w, w ≠ v → (s.voice w).fetch = .waiting → ServedBefore s v w) ∧
        ((∀ v, (s.voice v).fetch ≠ .waiting) →
          (∀ ld, s.smi.load = some ld → 0 < ld.remaining →
            exec .arbitrate s = .next { s with smi := { s.smi with
              port := .fetch { phase := .access, user := .load false, start := ld.next, len := min 256 ld.remaining,
                               tacc := s.smi.tacc, ready := false, taccExpired := false } } }) ∧
          ((∀ ld, s.smi.load = some ld → ld.remaining = 0) → exec .arbitrate s = .next s))))

/-- MHREQ and its end by the port state (R7, R8), and the two events that end ACCESS, at the later of which TRANSFER
begins (R1). That these two rows have no effect outside ACCESS is the model's choice (log 1, log 4). -/
def Obligations.PortLines : Prop :=
  ∀ s : State, s.timing.inReset = false →
    (s.smi.port = .idle → exec .mhreqAsserted s = .next
      (raise { kind := .memoryHold, reason := 1 } { s with smi := { s.smi with port := .held, mhreq := true } })) ∧
    (s.smi.port ≠ .idle → exec .mhreqAsserted s = .next { s with smi := { s.smi with mhreq := true } }) ∧
    (s.smi.port = .held → exec .mhend s = exec .arbitrate
      (raise { kind := .memoryHold, reason := 0 } { s with smi := { s.smi with port := .idle, mhreq := false } })) ∧
    (s.smi.port ≠ .held → exec .mhend s = .next { s with smi := { s.smi with mhreq := false } }) ∧
    (∀ t, s.smi.port = .fetch t → t.phase = .access →
      exec .smRdySeen s = .next { s with smi := { s.smi with
        port := .fetch { t with ready := true, phase := if t.taccExpired then .transfer else .access } } } ∧
      exec .taccExpiry s = .next { s with smi := { s.smi with
        port := .fetch { t with taccExpired := true, phase := if t.ready then .transfer else .access } } }) ∧
    ((∀ t, s.smi.port = .fetch t → t.phase = .transfer) →
      exec .smRdySeen s = .next s ∧ exec .taccExpiry s = .next s)

/-- SET ACCESS DELAY sets tACC to the value rounded down to a multiple of 10 ns, at most 2,550 ns, in every state and
from CONSOLE alone; nothing else sets it but device reset, to 200 ns; a transfer takes the delay at its start and keeps
it (R2). -/
def Obligations.AccessDelay : Prop :=
  (∀ (tag : Byte) (ns : Half) (s : State) (n : Nat), Serves .console 0x1A s →
    n % 10 = 0 → n ≤ ns.toNat → n ≤ 2550 → (ns.toNat < n + 10 ∨ n = 2550) →
    exec (.setAccessDelay .console tag ns) s = answered .console 0x1A tag .accepted (u16 n)
      { reloadPresence .console s with smi := { s.smi with tacc := n } }) ∧
  (∀ (l : Role) (tag : Byte) (ns : Half) (s : State), s.timing.inReset = false → (s.link l).attached = true →
    l ≠ .console →
    exec (.setAccessDelay l tag ns) s = answered l 0x1A tag .notPermitted [] (reloadPresence l s)) ∧
  (∀ (c : Instr) (s t : State), exec c s = .next t →
    ((∀ l tag ns, c ≠ .setAccessDelay l tag ns) → (∀ line m, c ≠ .resetReleased line m) → t.smi.tacc = s.smi.tacc) ∧
    (∀ line m, c = .resetReleased line m → t.smi.tacc = 200) ∧
    (∀ tr tr', s.smi.port = .fetch tr' → t.smi.port = .fetch tr → tr.tacc = tr'.tacc) ∧
    (∀ tr, (∀ tr', s.smi.port ≠ .fetch tr') → t.smi.port = .fetch tr → tr.tacc = s.smi.tacc))

/-- A voice fetch that completes frees the port; its words are discarded where the voice's fetch state is not IN FLIGHT
(R6), and otherwise fill the fetch buffer, the next word advances, and returns to the loop point at the out word while
loops remain (R75, R77), before the decoder runs. A transfer still in ACCESS does not complete (log 1). -/
def Obligations.VoiceFetchTaken : Prop :=
  ∀ (words : List Word) (s : State) (tr : Transfer) (v : VoiceNo) (x : Voice), s.timing.inReset = false →
    s.smi.port = .fetch tr → tr.user = .voice v → x = s.voice v →
    (tr.phase = .access → exec (.voiceFetchComplete words) s = .next s) ∧
    (tr.phase = .transfer → words.length = tr.len →
      (x.fetch ≠ .inFlight →
        exec (.voiceFetchComplete words) s = .next { s with smi := { s.smi with port := .idle } }) ∧
      ∀ y : Voice, x.fetch = .inFlight →
        y = { x with
          fetch := .none, buf := words, bufPos := x.next,
          next := if x.next + words.length = x.out ∧ 0 < x.loops then x.loop.getD x.inWord
                  else x.next + words.length,
          loops := if x.next + words.length = x.out ∧ 0 < x.loops ∧ x.loops ≠ 255 then x.loops - 1 else x.loops } →
        exec (.voiceFetchComplete words) s = exec (.decoderRun v)
          { s with smi := { s.smi with port := .idle },
                   stream := { s.stream with voices := s.stream.voices.set v y } })

/-! ### Cue Sequencer -/

/-- The refusals of GO in the order of R41: the authority, the store, the show state, the guard with the cue and the
milliseconds left, END (whose result code is a free value, log 20), the expected number, standby, and the table. -/
def Obligations.GoRefused : Prop :=
  ∀ (l : Role) (tag : Byte) (expected : Option CueNum) (s : State), Serves l 0x20 s →
    ((s.seq.authority = .promptOnly ∧ l ≠ .prompt ∨ s.seq.authority = .consoleOnly ∧ l ≠ .console) →
      exec (.go l tag expected) s = answered l 0x20 tag .notPermitted [] (reloadPresence l s)) ∧
    (s.seq.authority.permits l = true →
      (s.store.state = .noShow →
        exec (.go l tag expected) s = answered l 0x20 tag .noShow [] (reloadPresence l s)) ∧
      (s.store.state = .loading →
        exec (.go l tag expected) s = answered l 0x20 tag .loading [] (reloadPresence l s)) ∧
      (s.store.state = .ready → s.showStop.state = .stopped →
        exec (.go l tag expected) s = answered l 0x20 tag .showStopped [] (reloadPresence l s))) ∧
    (MayGo l s →
      (∀ st age, s.seq.stamp = some st → age = (s.timing.showClock - st.time).toNat → age < s.seq.guardMs →
        exec (.go l tag expected) s = answered l 0x20 tag .doubleGo
          (cueField (some st.cue) ++ u16 (s.seq.guardMs - age)) (reloadPresence l s)) ∧
      (GuardPassed s →
        (s.seq.playhead = none →
          exec (.go l tag expected) s = answered l 0x20 tag .endOfList [] (reloadPresence l s)) ∧
        ∀ p, s.seq.playhead = some p →
          (∀ e, expected = some e → e ≠ p →
            exec (.go l tag expected) s =
              answered l 0x20 tag .stale (cueField (some p)) (reloadPresence l s)) ∧
          (expected = none ∨ expected = some p →
            (s.seq.standbyRequired = true → s.seq.standby = false →
              exec (.go l tag expected) s = answered l 0x20 tag .notStandingBy [] (reloadPresence l s)) ∧
            (s.seq.standbyRequired = false ∨ s.seq.standby = true → ¬ TableHasRoom s →
              exec (.go l tag expected) s = answered l 0x20 tag .cueTableFull [] (reloadPresence l s)))))

/-- An accepted GO (R42): the playhead cue is fired with a fresh instance id, after a retirement where the table is
full (R48); the guard stamp is set with its number; the playhead moves to the next GO cue, standby clears and
PLAYHEAD_MOVED is raised. -/
def Obligations.GoAccepted : Prop :=
  ∀ (l : Role) (tag : Byte) (expected : Option CueNum) (s : State) (p : CueNum) (c : Cue), Serves l 0x20 s →
    TableOk s → MayGo l s → GuardPassed s → s.seq.playhead = some p → cueOf p s = some c →
    (expected = none ∨ expected = some p) → (s.seq.standbyRequired = false ∨ s.seq.standby = true) →
    TableHasRoom s →
    ∃ t id, exec (.go l tag expected) s = answered l 0x20 tag .accepted
        (cueField (some p) ++ u8 id ++ cueField t.seq.playhead) t ∧
      1 ≤ id ∧ id ≤ 255 ∧
      t.seq.stamp = some { time := s.timing.showClock, cue := p } ∧
      t.seq.playhead = (s.store.cues.find? fun d => decide (p.toNat < d.num.toNat) && d.trigger == .go).map (·.num) ∧
      t.seq.standby = false ∧
      Newest { kind := .playheadMoved, endFlag := t.seq.playhead.isNone, cue := t.seq.playhead.getD 0, reason := 0 } t ∧
      t.store = s.store ∧ t.smi = s.smi ∧ t.timing = s.timing ∧
      (s.seq.instances.length < 24 →
        (∀ i ∈ s.seq.instances, i.id ≠ id) ∧
        ((∀ i ∈ s.seq.instances, i.id ≠ s.seq.nextId) → id = s.seq.nextId) ∧
        (0 < c.preWait →
          t.seq.instances = s.seq.instances ++ [waitingInst id c (.go l) s.timing.showClock] ∧
          t.seq.nextId = (if id = 255 then 1 else id + 1) ∧
          t.stream = s.stream ∧ t.fades = s.fades ∧ t.mix = s.mix ∧ t.foldback = s.foldback ∧ t.relay = s.relay ∧
          t.showStop = s.showStop)) ∧
      (∀ before old after, s.seq.instances.length = 24 → s.seq.instances = before ++ old :: after →
        (∀ i ∈ before, i.phase = .running → i.follow ≠ none) → old.phase = .running → old.follow = none →
        (∀ i ∈ before ++ after, i.id ≠ id) ∧
        (0 < c.preWait →
          t.seq.instances = before ++ after ++ [waitingInst id c (.go l) s.timing.showClock] ∧
          ∀ v, t.voice v = if (s.voice v).ownedByInst old.id then { s.voice v with owner := .orphan } else s.voice v))

/-- Of two GO requests within the guard, the second is refused DOUBLE_GO, whatever it expects, with the cue that the
first fired (R43). -/
def Obligations.SecondGoRefused : Prop :=
  ∀ (l l' : Role) (tag tag' : Byte) (expected expected' : Option CueNum) (s t u : State) (r : Response) (p : CueNum)
    (age : Nat), Serves l 0x20 s → exec (.go l tag expected) s = .next t → (t.link l).slot = some r →
    r.result = .accepted → s.seq.playhead = some p → u.seq.stamp = t.seq.stamp → u.seq.guardMs = t.seq.guardMs →
    (u.timing.showClock - t.timing.showClock).toNat = age → age < s.seq.guardMs → Serves l' 0x20 u → MayGo l' u →
    exec (.go l' tag' expected') u = answered l' 0x20 tag' .doubleGo
      (cueField (some p) ++ u16 (s.seq.guardMs - age)) (reloadPresence l' u)

/-- STANDBY (R39), SET PLAYHEAD (R45), and the GO settings SET GO AUTHORITY, SET STANDBY REQUIRED and SET GUARD
(R40). -/
def Obligations.PlayheadAndGoSettings : Prop :=
  ∀ (tag : Byte) (s : State),
    (Serves .prompt 0x21 s →
      (s.store.state = .noShow →
        exec (.standby .prompt tag) s = answered .prompt 0x21 tag .noShow [] (reloadPresence .prompt s)) ∧
      (s.store.state = .loading →
        exec (.standby .prompt tag) s = answered .prompt 0x21 tag .loading [] (reloadPresence .prompt s)) ∧
      (s.store.state = .ready →
        (s.seq.playhead = none →
          exec (.standby .prompt tag) s = answered .prompt 0x21 tag .endOfList [] (reloadPresence .prompt s)) ∧
        ∀ p, s.seq.playhead = some p →
          exec (.standby .prompt tag) s = answered .prompt 0x21 tag .accepted []
            (raise { kind := .standby, cue := p }
              { reloadPresence .prompt s with seq := { s.seq with standby := true } }))) ∧
    (∀ (l : Role) (n : CueNum), Serves l 0x23 s →
      (s.store.state = .noShow →
        exec (.setPlayhead l tag n) s = answered l 0x23 tag .noShow [] (reloadPresence l s)) ∧
      (s.store.state = .loading →
        exec (.setPlayhead l tag n) s = answered l 0x23 tag .loading [] (reloadPresence l s)) ∧
      (s.store.state = .ready →
        (major n ≠ 0 → cueOf n s = none →
          exec (.setPlayhead l tag n) s = answered l 0x23 tag .noSuchCue [] (reloadPresence l s)) ∧
        ∀ p, (p = none ∧ major n = 0 ∨ p = some n ∧ major n ≠ 0 ∧ (cueOf n s).isSome = true) →
          (s.seq.playhead = p →
            exec (.setPlayhead l tag n) s = answered l 0x23 tag .accepted [] (reloadPresence l s)) ∧
          (s.seq.playhead ≠ p →
            exec (.setPlayhead l tag n) s = answered l 0x23 tag .accepted []
              (raise { kind := .playheadMoved, endFlag := p.isNone, cue := p.getD 0, reason := 1 }
                { reloadPresence l s with seq := { s.seq with playhead := p, standby := false } })))) ∧
    (Serves .prompt 0x24 s →
      (∀ (value : Byte) (a : GoAuthority), value.toNat = a.code →
        exec (.setGoAuthority .prompt tag value) s = answered .prompt 0x24 tag .accepted []
          { reloadPresence .prompt s with seq := { s.seq with authority := a } }) ∧
      (∀ value : Byte, 2 < value.toNat →
        exec (.setGoAuthority .prompt tag value) s =
          answered .prompt 0x24 tag .badField [] (reloadPresence .prompt s)) ∧
      (∀ (value : Byte) (b : Bool), value.toNat = b.toNat →
        exec (.setStandbyRequired .prompt tag value) s = answered .prompt 0x25 tag .accepted []
          { reloadPresence .prompt s with seq := { s.seq with standbyRequired := b } }) ∧
      (∀ value : Byte, 1 < value.toNat →
        exec (.setStandbyRequired .prompt tag value) s =
          answered .prompt 0x25 tag .badField [] (reloadPresence .prompt s)) ∧
      ∀ (ms : Half) (n : Nat), n = min ms.toNat 2000 →
        exec (.setGuard .prompt tag ms) s = answered .prompt 0x26 tag .accepted (u16 n)
          { reloadPresence .prompt s with seq := { s.seq with guardMs := n } })

/-- FIRE by its checks in order (R44); an accepted fire of a cue with a pre-wait adds its instance in PREWAIT with
CUE_FIRED (R47), and that of a cue with nothing to do runs and ends at once (R51, R58); neither touches the playhead,
the standby flag or the stamp. -/
def Obligations.FireTaken : Prop :=
  ∀ (tag : Byte) (n : CueNum) (s : State), Serves .console 0x22 s →
    (s.store.state = .noShow →
      exec (.fire .console tag n) s = answered .console 0x22 tag .noShow [] (reloadPresence .console s)) ∧
    (s.store.state = .loading →
      exec (.fire .console tag n) s = answered .console 0x22 tag .loading [] (reloadPresence .console s)) ∧
    (s.store.state = .ready → s.showStop.state = .stopped →
      exec (.fire .console tag n) s = answered .console 0x22 tag .showStopped [] (reloadPresence .console s)) ∧
    (s.store.state = .ready → s.showStop.state ≠ .stopped →
      (cueOf n s = none →
        exec (.fire .console tag n) s = answered .console 0x22 tag .noSuchCue [] (reloadPresence .console s)) ∧
      ∀ c, cueOf n s = some c →
        (¬ TableHasRoom s →
          exec (.fire .console tag n) s = answered .console 0x22 tag .cueTableFull [] (reloadPresence .console s)) ∧
        ∀ i, s.seq.instances.length < 24 → TableOk s → (∀ j ∈ s.seq.instances, j.id ≠ s.seq.nextId) →
          i = waitingInst s.seq.nextId c (.fire .console) s.timing.showClock →
          (0 < c.preWait →
            exec (.fire .console tag n) s = answered .console 0x22 tag .accepted (u8 i.id)
              (raise { kind := .cueFired, inst := .ofNat 8 i.id, cue := n, reason := 1, aux1 := 1 }
                { reloadPresence .console s with seq := { s.seq with
                    instances := s.seq.instances ++ [i], nextId := if i.id = 255 then 1 else i.id + 1 } })) ∧
          (c.preWait = 0 → c.actions = [] → (∀ v, (s.voice v).ownedByInst i.id = false) →
            (∀ d, s.store.cues.find? (fun d => decide (n.toNat < d.num.toNat)) = some d → d.trigger ≠ .follow) →
            exec (.fire .console tag n) s = answered .console 0x22 tag .accepted (u8 i.id)
              (raise { kind := .cueEnded, inst := .ofNat 8 i.id, cue := n }
                (raise { kind := .cueRunning, inst := .ofNat 8 i.id, cue := n }
                  (raise { kind := .cueFired, inst := .ofNat 8 i.id, cue := n, reason := 1, aux1 := 1 }
                    { reloadPresence .console s with seq := { s.seq with
                        nextId := if i.id = 255 then 1 else i.id + 1 } })))))

/-- STOP CUE reaches every instance of its cue and answers their number (R59); STOP ALL reaches every instance, and
stops every orphan, over 1,000 ms where no fade time is given (R60). A fade time is at most 600,000 ms. A sounding voice
takes its fade over that time wherever an entry stands on its level or the list has room, and the declick ramp only
otherwise (R83, R92, R93). -/
def Obligations.StopsReachInstances : Prop :=
  ∀ (l : Role) (tag : Byte) (s : State), TableOk s →
    (∀ (n : CueNum) (fade : Word), Serves l 0x27 s →
      ∃ t, exec (.stopCue l tag n fade) s = answered l 0x27 tag .accepted
          (u8 (s.seq.instances.countP fun i => i.cue == n)) t ∧
        InstancesStopped (fun i => i.cue == n) (min fade.toNat 600000) s t ∧
        ∀ v, (s.voice v).owner = .orphan → t.voice v = s.voice v) ∧
    ∀ (fade : Option Word) (time : Nat), Serves l 0x28 s →
      (fade = none → time = 1000) → (∀ w, fade = some w → time = min w.toNat 600000) →
      ∃ t, exec (.stopAll l tag fade) s = answered l 0x28 tag .accepted [] t ∧
        InstancesStopped (fun _ => true) time s t ∧
        ∀ v, (s.voice v).owner = .orphan → StoppedVoice time (RoomForVoices s) v s t

/-- The ends of an instance's timers. PREWAIT_END: an instance whose cue has no actions ends at once where no follow is
captured (R49, R51, R58), and stands RUNNING with a captured follow whose delay is above 0 (R54). FOLLOW_EXPIRY: the
follow goes, and its cue is fired where it is stored with trigger FOLLOW, and dropped otherwise (R55, log 7). Neither
row has an effect before its time has run out (log 1). -/
def Obligations.InstanceTimers : Prop :=
  ∀ (id : Byte) (s : State) (i : CueInstance), s.timing.inReset = false → TableOk s → i ∈ s.seq.instances →
    i.id = id.toNat →
    (i.phase = .prewait →
      (0 < i.preWait → exec (.prewaitEnd id) s = .next s) ∧
      (∀ c, i.preWait = 0 → cueOf i.cue s = some c → c.actions = [] →
        ((∀ v, (s.voice v).ownedByInst i.id = false) →
          (∀ d, s.store.cues.find? (fun d => decide (i.cue.toNat < d.num.toNat)) = some d → d.trigger ≠ .follow) →
          exec (.prewaitEnd id) s = .next
            (raise { kind := .cueEnded, inst := id, cue := i.cue, reason := if i.stopped then 1 else 0 }
              (raise { kind := .cueRunning, inst := id, cue := i.cue }
                { s with seq := { s.seq with instances := s.seq.instances.filter fun j => j.id != i.id } }))) ∧
        (∀ d, s.store.cues.find? (fun d => decide (i.cue.toNat < d.num.toNat)) = some d → d.trigger = .follow →
          0 < c.followDelay →
          exec (.prewaitEnd id) s = .next
            (raise { kind := .cueRunning, inst := id, cue := i.cue }
              { s with seq := { s.seq with instances := s.seq.instances.map fun j => if j.id = i.id then
                  { i with phase := .running, follow := some { cue := d.num, delay := c.followDelay } } else j } })))) ∧
    ((i.follow = none ∨ ∃ f, i.follow = some f ∧ 0 < f.delay) → exec (.followExpiry id) s = .next s) ∧
    ∀ f, i.phase = .running → i.follow = some f → f.delay = 0 → (∃ v, (s.voice v).ownedByInst i.id = true) →
      ∀ t, t = { s with seq := { s.seq with instances := s.seq.instances.map fun j =>
            if j.id = i.id then { i with follow := none } else j } } →
        ((∀ c, cueOf f.cue s = some c → c.trigger ≠ .follow) →
          exec (.followExpiry id) s = .next
            (raise { kind := .followDropped, inst := id, cue := i.cue, aux1 := .ofNat 16 (major f.cue),
                     aux2 := .ofNat 16 (point f.cue) } t)) ∧
        ∀ c, cueOf f.cue s = some c → c.trigger = .follow → s.seq.instances.length < 24 →
          (∀ j ∈ s.seq.instances, j.id ≠ s.seq.nextId) → 0 < c.preWait →
          exec (.followExpiry id) s = .next
            (raise { kind := .cueFired, inst := .ofNat 8 s.seq.nextId, cue := f.cue, reason := 2 }
              { t with seq := { t.seq with
                instances := t.seq.instances ++ [waitingInst s.seq.nextId c .follow s.timing.showClock],
                nextId := if s.seq.nextId = 255 then 1 else s.seq.nextId + 1 } })

/-- What the end of a pre-wait hands over for a cue of one action (R50, R51): levels, trims and scenes as fades or at once
(R92, R98), a foldback mode (R130), a FREE voice, a stolen one whose old owner is told, or VOICE_SHORTAGE (R66, R67, R68,
R70), the stop of a group, of the other instances of a cue, or of all others with the orphans (R52), a voice fade without
and with stop-at-end (R86), a call or CALL_DROPPED (R147), and ACTION_FAULT with its position and reason where the target
does not exist. That the Stream Engine posts a voice fade without stop-at-end is the model's choice (log 28), and that a
victim's earlier start is counted modulo 2^32 of the show clock its reading (log 9). -/
def Obligations.ActionsDispatched : Prop :=
  ∀ (s : State) (i : CueInstance) (a : Action), Dispatches i a s →
    ∃ t, exec (.prewaitEnd (.ofNat 8 i.id)) s = .next t ∧ t.store = s.store ∧ t.timing = s.timing ∧
      (∀ src o g time, a = .level src o g time →
        (time = 0 → t.mix = { s.mix with xpts := s.mix.xpts.set o (s.mix.xpts[o].set src g) }) ∧
        (0 < time → fadeFor (.crosspoint src o) s = none → s.fades.length < 256 →
          t.mix = s.mix ∧ t.fades = s.fades ++ [{
            target := .crosspoint src o, start := s.mix.xpts[o][src], goal := g, n := time, k := 0, due := false,
            action := .nothing, poster := .sequencer }])) ∧
      (∀ o g time, a = .trim o g time →
        (time = 0 → t.mix = { s.mix with trims := s.mix.trims.set o g }) ∧
        (0 < time → fadeFor (.trim o) s = none → s.fades.length < 256 →
          t.mix = s.mix ∧ t.fades = s.fades ++ [{
            target := .trim o, start := s.mix.trims[o], goal := g, n := time, k := 0, due := false,
            action := .nothing, poster := .sequencer }])) ∧
      (∀ id time, a = .scene id time →
        (∀ sc, time = 0 → sceneOf id s = some sc → (sc.entries.map fun e => (e.source, e.output)).Nodup →
          ∀ e ∈ sc.entries, t.mix.xpts[e.output][e.source] = e.level) ∧
        (∀ sc, 0 < time → sceneOf id s = some sc → (sc.entries.map fun e => (e.source, e.output)).Nodup →
          s.fades.length + sc.entries.length ≤ 256 →
          t.mix = s.mix ∧ ∀ e ∈ sc.entries, fadeFor (.crosspoint e.source e.output) t = some {
            target := .crosspoint e.source e.output, start := s.mix.xpts[e.output][e.source], goal := e.level, n := time,
            k := 0, due := false, action := .nothing, poster := .sequencer }) ∧
        (sceneOf id s = none →
          Raised { kind := .actionFault, inst := .ofNat 8 i.id, cue := i.cue, aux1 := 1, reason := 20 } t)) ∧
      (∀ o m, a = .foldbackMode o m →
        (s.mix.classes[o] = .foldback → (∀ n, m = .follow n → s.mix.classes[n] = .main) →
          t.foldback = { s.foldback with modes := s.foldback.modes.set o m }) ∧
        (s.mix.classes[o] ≠ .foldback → t.foldback = s.foldback ∧
          Raised { kind := .actionFault, inst := .ofNat 8 i.id, cue := i.cue, aux1 := 1, reason := 25 } t) ∧
        (∀ n, s.mix.classes[o] = .foldback → m = .follow n → s.mix.classes[n] ≠ .main → t.foldback = s.foldback ∧
          Raised { kind := .actionFault, inst := .ofNat 8 i.id, cue := i.cue, aux1 := 1, reason := 16 } t)) ∧
      (∀ p, a = .play p →
        (∀ v reg, s.smi.regions[p.region]? = some reg → p.inWord < p.out.getD reg.len → (s.voice v).state = .free →
          (∀ w, w < v → (s.voice w).state ≠ .free) →
          t.voice v = freshVoice p (.inst i.id i.cue) reg.len s.timing.showClock ∧
            ∃ j ∈ t.seq.instances, j = { i with phase := .running }) ∧
        (∀ v reg, s.smi.regions[p.region]? = some reg → (∀ w, (s.voice w).state ≠ .free) →
          (s.voice v).candidate p.priority = true →
          (∀ u, u ≠ v → (s.voice u).candidate p.priority = true → TakenBefore s v u) →
          (∀ id, (s.voice v).owner ≠ .call id) →
          t.voice v = stolenVoice p (.inst i.id i.cue) reg.len s.timing.showClock (s.voice v) ∧
            fadeFor (.voice v) t = none ∧ (∃ j ∈ t.seq.instances, j = { i with phase := .running }) ∧
            ∀ j c, j ∈ s.seq.instances → j.id ≠ i.id → (s.voice v).owner = .inst j.id c → j.phase = .running →
              j.follow = none → (∀ u, u ≠ v → (s.voice u).ownedByInst j.id = false) →
              (∀ k ∈ t.seq.instances, k.id ≠ j.id) ∧
                Raised { kind := .cueEnded, inst := .ofNat 8 j.id, cue := j.cue,
                         reason := if j.stopped then 1 else 0 } t) ∧
        ((∀ v, (s.voice v).state ≠ .free ∧
            (p.priority < (s.voice v).priority ∨ ∃ q d x c, (s.voice v).state = .reclaiming q d x c)) →
          Raised { kind := .voiceShortage, inst := .ofNat 8 i.id, cue := i.cue, aux1 := 1,
                   aux2 := .ofNat 16 p.priority } t ∧ t.stream = s.stream)) ∧
      (∀ g time, a = .stop (.group g) time →
        (∀ v, (s.voice v).group = g → StoppedVoice time (RoomForVoices s) v s t) ∧
          ∀ v, (s.voice v).group ≠ g → t.voice v = s.voice v) ∧
      (∀ target time (p : CueInstance → Bool), a = .stop target time →
        ((∃ n, target = .cue n ∧ p = fun j => j.cue == n) ∨ (target = .all ∧ p = fun _ => true)) →
        (∀ v, Reached p v s → StoppedVoice time (RoomForVoices s) v s t) ∧
        (∀ v, ¬ Reached p v s → (s.voice v).owner ≠ .orphan → t.voice v = s.voice v) ∧
        (∀ v, (s.voice v).owner = .orphan → (target = .all → StoppedVoice time (RoomForVoices s) v s t) ∧
          (target ≠ .all → t.voice v = s.voice v)) ∧
        ∀ j ∈ s.seq.instances, j.id ≠ i.id →
          (p j = false → j ∈ t.seq.instances) ∧
          (p j = true → (∀ k ∈ t.seq.instances, k.id = j.id →
              j.phase ≠ .prewait ∧ k = { j with stopped := true, follow := none }) ∧
            (j.phase = .prewait →
              Raised { kind := .cueEnded, inst := .ofNat 8 j.id, cue := j.cue, reason := 1 } t))) ∧
      (∀ g goal time, a = .voiceFade g goal time false → s.fades.length + 32 ≤ 256 → 0 < time →
        ∀ v f, (s.voice v).group = g → ((s.voice v).state = .playing ∨ (s.voice v).state = .starved ∨
            (s.voice v).state = .starting f) →
          fadeFor (.voice v) t = some {
            target := .voice v, start := (s.voice v).level, goal := goal, n := time, k := 0, due := false,
            action := .nothing, poster := .stream } ∧
          t.voice v = { s.voice v with state := match (s.voice v).state with
            | .starting _ => .starting none
            | st => st }) ∧
      (∀ g goal, a = .voiceFade g goal 0 false →
        ∀ v, (s.voice v).group = g → (s.voice v).state = .playing ∨ (s.voice v).state = .starved →
          t.voice v = { s.voice v with level := goal } ∧ fadeFor (.voice v) t = none) ∧
      (∀ g goal time, a = .voiceFade g goal time true →
        ∀ v, (s.voice v).group = g →
          ((∃ f, (s.voice v).state = .starting f) → t.voice v = Voice.freeRecord) ∧
          ((s.voice v).state = .playing ∨ (s.voice v).state = .starved →
            (time = 0 → t.voice v = (s.voice v).ramping) ∧
            (0 < time → RoomForVoices s ∨ (fadeFor (.voice v) s).isSome = true → StopFading v goal time s t)) ∧
          ((s.voice v).stopping = true ∨ (∃ q d x c, (s.voice v).state = .reclaiming q d x c) →
            t.voice v = s.voice v)) ∧
      ∀ c, a = .call c →
        (∀ z, c.zones.getLsbD z = true → s.relay.zones.length ≤ z →
          t.relay = s.relay ∧
          Raised { kind := .actionFault, inst := .ofNat 8 i.id, cue := i.cue, aux1 := 1, reason := 26 } t) ∧
        ((∀ z, c.zones.getLsbD z = true → z < s.relay.zones.length) →
          (8 ≤ s.relay.waiting.countP (fun d => d.source != .announce) →
            t.relay = s.relay ∧
            Raised { kind := .callDropped, inst := .ofNat 8 i.id, cue := i.cue, aux1 := 1, reason := 27 } t) ∧
          (s.relay.waiting = [] → s.relay.playing = [] → (∀ zn ∈ s.relay.zones, zn.carried = none) →
            (∃ v, (s.voice v).state = .free) →
            ∃ d, t.relay.playing = [d] ∧ t.relay.waiting = [] ∧ d.id = s.relay.nextId ∧
              d.source = .recorded c.region c.inWord c.out ∧ d.zones = c.zones ∧ d.page = c.page ∧
              d.depth = c.depth ∧ d.origin = .cue i.id i.cue 1))

/-! ### Stream Engine -/

/-- PLAY by its checks in order (R71): a field out of the range of R23 or a failed word check is BAD_FIELD; a
lowest-numbered FREE voice starts as an orphan (R66); with none FREE the victim that comes before every other candidate is
RECLAIMING for the new work, keeping for its ramp what was heard, and an instance that it leaves with nothing else ends
(R58, R67, R68); with no candidate the request is refused (R70). That earlier start times are counted modulo 2^32 of the
show clock is the model's reading (log 9). -/
def Obligations.PlayTaken : Prop :=
  ∀ (tag : Byte) (w : ActionWords) (s : State), Serves .console 0x30 s →
    (s.store.state = .noShow →
      exec (.play .console tag w) s = answered .console 0x30 tag .noShow [] (reloadPresence .console s)) ∧
    (s.store.state = .loading →
      exec (.play .console tag w) s = answered .console 0x30 tag .loading [] (reloadPresence .console s)) ∧
    (s.store.state = .ready → s.showStop.state = .stopped →
      exec (.play .console tag w) s = answered .console 0x30 tag .showStopped [] (reloadPresence .console s)) ∧
    (s.store.state = .ready → s.showStop.state ≠ .stopped →
      (bitsAt w.a0 24 8 ≠ 1 ∨ readPlay w = none →
        exec (.play .console tag w) s = answered .console 0x30 tag .badField [] (reloadPresence .console s)) ∧
      ∀ p, PlayOk p → w = (Action.play p).words →
        (wordCheck s.smi.regions (.play p) = false →
          exec (.play .console tag w) s = answered .console 0x30 tag .badField [] (reloadPresence .console s)) ∧
        (s.smi.regions.length ≤ p.region →
          exec (.play .console tag w) s = answered .console 0x30 tag .badReference [] (reloadPresence .console s)) ∧
        ∀ reg, s.smi.regions[p.region]? = some reg → wordCheck s.smi.regions (.play p) = true →
          (∀ v, (s.voice v).state = .free → (∀ u, u < v → (s.voice u).state ≠ .free) →
            exec (.play .console tag w) s = answered .console 0x30 tag .accepted (u8 v.val)
              { reloadPresence .console s with stream := { s.stream with
                  voices := s.stream.voices.set v (freshVoice p .orphan reg.len s.timing.showClock) } }) ∧
          ((∀ v, (s.voice v).state ≠ .free) →
            (∀ (v : VoiceNo) (x : Voice) (t : State), x = s.voice v → x.candidate p.priority = true →
              (∀ u, u ≠ v → (s.voice u).candidate p.priority = true → TakenBefore s v u) →
              t = { reloadPresence .console s with
                    fades := s.fades.filter fun e => e.target != .voice v,
                    stream := { s.stream with
                      voices := s.stream.voices.set v (stolenVoice p .orphan reg.len s.timing.showClock x) } } →
              (x.owner = .orphan →
                exec (.play .console tag w) s = answered .console 0x30 tag .accepted (u8 v.val) t) ∧
              ∀ i c, TableOk s → i ∈ s.seq.instances → x.owner = .inst i.id c → i.phase = .running →
                i.follow = none → (∀ u, u ≠ v → (s.voice u).ownedByInst i.id = false) →
                exec (.play .console tag w) s = answered .console 0x30 tag .accepted (u8 v.val)
                  (raise { kind := .cueEnded, inst := .ofNat 8 i.id, cue := i.cue,
                           reason := if i.stopped then 1 else 0 }
                    { t with seq := { s.seq with instances := s.seq.instances.filter fun j => j.id != i.id } })) ∧
            ((∀ v, (s.voice v).candidate p.priority = false) →
              exec (.play .console tag w) s =
                answered .console 0x30 tag .voiceShortage [] (reloadPresence .console s))))

/-- STOP VOICE (R72) answers the voice's state and stops it by R83, touching no other voice: over a time above 0 it fades
wherever an entry stands on its level or the list has room, and else ramps, with FADE_OVERFLOW (R93). A call whose voice
becomes FREE from STARTING, at the end of a stop fade (R84), of a declick ramp (R85), or of a cancelled RECLAIMING ramp
(R69) ends VOICE_STOPPED, and at a natural end (R81) COMPLETE (R152, R154). A call whose voice a recorded call steals ends
VOICE_LOST, and the voice makes a tail (R68, R151). That a victim's earlier start is counted modulo 2^32 of the show clock
is the model's reading (log 9). That the Stream Engine posts a stop fade is R91's. -/
def Obligations.StopVoiceByState : Prop :=
  (∀ (tag b : Byte) (fade : Word) (s : State), Serves .console 0x31 s →
    (32 ≤ b.toNat →
      exec (.stopVoice .console tag b fade) s = answered .console 0x31 tag .badField [] (reloadPresence .console s)) ∧
    ∀ (v : VoiceNo) (time : Nat), v.val = b.toNat → time = min fade.toNat 600000 →
      ∃ t, exec (.stopVoice .console tag b fade) s =
          answered .console 0x31 tag .accepted (u8 (s.voice v).state.code) t ∧
        ((∀ f id, (s.voice v).state = .starting f → (s.voice v).owner ≠ .call id) →
          StoppedVoice time (s.fades.length < 256) v s t ∧ (∀ u, u ≠ v → t.voice u = s.voice u) ∧
            t.relay.playing = s.relay.playing ∧ t.relay.waiting = s.relay.waiting) ∧
        (0 < time → 256 ≤ s.fades.length → fadeFor (.voice v) s = none →
          ((s.voice v).state = .playing ∨ (s.voice v).state = .starved ∨ (s.voice v).state = .stoppingFade) →
          t.voice v = (s.voice v).ramping ∧ t.fades = s.fades ∧
            Newest { kind := .fadeOverflow, reason := 2, voice := .ofNat 8 v.val, aux1 := 0x8000, aux2 := 5,
                     aux3 := .ofNat 32 time } t) ∧
        ∀ f id c, (s.voice v).state = .starting f → (s.voice v).owner = .call id → s.relay.waiting = [] →
          s.relay.playing.find? (fun d => d.id == id) = some c → (∀ u, u ≠ v → (s.voice u).owner ≠ .call id) →
          t.voice v = Voice.freeRecord ∧ callOf id t = none ∧ Newest (callEnded c 1) t ∧
            ∀ z : ZoneNo, c.zones.getLsbD z = true → Released z s t) ∧
  (∀ (s : State) (v : VoiceNo) (x : Voice) (c : Call) (i : Instr) (reason : Byte), s.timing.inReset = false →
    x = s.voice v → x.owner = .call c.id → s.relay.waiting = [] →
    s.relay.playing.find? (fun d => d.id == c.id) = some c → (∀ u, u ≠ v → (s.voice u).owner ≠ .call c.id) →
    ((x.state = .playing ∨ x.state = .stoppingFade) ∧ x.exhausted = true ∧ x.fifo = [] ∧ i = .voiceNaturalEnd v ∧
        reason = 0 ∨
      (∃ e, fadeFor (.voice v) s = some e ∧ e.due = true ∧ e.action = .stopVoice ∧ e.goal = .off) ∧
        i = .fadeComplete (.voice v) ∧ reason = 1 ∨
      (∃ p, x.state = .stoppingRamp p ∧ 240 ≤ p) ∧ i = .declickRampEnd v ∧ reason = 1 ∨
      (∃ p d g, x.state = .reclaiming p d g true ∧ 240 ≤ p) ∧ i = .reclaimRampEnd v ∧ reason = 1) →
    ∃ t, exec i s = .next t ∧ t.voice v = Voice.freeRecord ∧ (∀ u, u ≠ v → t.voice u = s.voice u) ∧
      t.relay.waiting = [] ∧ t.relay.playing = s.relay.playing.filter (fun d => d.id != c.id) ∧
      t.relay.tails = s.relay.tails.filter (fun tl => tl.voice != v) ∧ Newest (callEnded c reason) t ∧
      ∀ z : ZoneNo, c.zones.getLsbD z = true → Released z s t) ∧
  ∀ (tag : Byte) (p : CallPayload) (s : State) (v : VoiceNo) (x : Voice) (reg : Region) (d : Call) (id : Nat),
    Serves .prompt 0x63 s → p.kind = 1 → p.zones ≠ 0 → 1 ≤ p.priority.toNat → p.priority.toNat ≤ 3 →
    -300 ≤ p.page.toInt → p.page.toInt ≤ 60 → p.depth.toNat ≤ 600 → p.region.toNat < 1024 → p.outWord = 0 →
    s.store.state ≠ .loading → s.smi.regions[p.region.toNat]? = some reg → p.inWord.toNat < reg.len →
    p.inWord.toNat < 16777216 →
    (∀ z : ZoneNo, p.zones.getLsbD z = true → ∃ zn, s.zone? z = some zn ∧ zn.carried = none) →
    s.relay.waiting = [] → id = s.relay.nextId → (∀ e ∈ s.relay.playing, e.id ≠ id) →
    (∀ e ∈ s.relay.playing, e.zones &&& p.zones = 0) → (∀ w, (s.voice w).state ≠ .free) → x = s.voice v →
    x.candidate 3 = true → (∀ u, u ≠ v → (s.voice u).candidate 3 = true → TakenBefore s v u) →
    x.owner = .call d.id → s.relay.playing.find? (fun e => e.id == d.id) = some d →
    (∀ u, u ≠ v → (s.voice u).owner ≠ .call d.id) →
    ∃ t, exec (.call .prompt tag p) s = answered .prompt 0x63 tag .accepted (u8 id ++ u8 1) t ∧
      callOf d.id t = none ∧ Raised (callEnded d 2) t ∧ { voice := v, zones := d.zones, page := d.page } ∈ t.relay.tails ∧
      (t.voice v).owner = .call id ∧ (t.voice v).dest = .call ∧
      (∃ q, (t.voice v).state = .reclaiming q x.dest x.level false) ∧
      (∀ z : ZoneNo, d.zones.getLsbD z = true → Released z s t) ∧
      ∀ z : ZoneNo, p.zones.getLsbD z = true → ∃ zn, t.zone? z = some zn ∧ zn.carried = some id ∧ zn.phase = .ducked

/-- The events of a voice: entry to PLAYING with its fade-in (R73), starvation with UNDERRUN and the return (R80), the
end of the declick ramp (R85), the end of a reclaiming ramp (R69), and the natural end, with the end of an instance
whose last voice it was (R57, R58, R81). A row whose condition does not hold has no effect (log 1). R73 names no poster of
the fade-in: that it is the Stream Engine is the model's reading (log 16). -/
def Obligations.VoiceEvents : Prop :=
  ∀ (s : State) (v : VoiceNo) (x : Voice), s.timing.inReset = false → x = s.voice v →
    ((x.state = .starting none ∨ x.state = .starved) → x.primed = true →
      (x.state = .starved → exec (.returnToPlaying v) s = .next { s with stream := { s.stream with
        voices := s.stream.voices.set v { x with state := .playing } } }) ∧
      (x.state = .starting none → exec (.enterPlaying v) s = .next { s with stream := { s.stream with
        voices := s.stream.voices.set v { x with state := .playing } } })) ∧
    (∀ d, x.state = .starting (some d) → 0 < d → x.primed = true → fadeFor (.voice v) s = none →
      s.fades.length < 256 →
      exec (.enterPlaying v) s = .next { s with
        stream := { s.stream with voices := s.stream.voices.set v { x with state := .playing } },
        fades := s.fades ++ [{ target := .voice v, start := x.level, goal := x.startLevel, n := d, k := 0, due := false,
                               action := .nothing, poster := .stream }] }) ∧
    (x.primed = false → exec (.enterPlaying v) s = .next s ∧ exec (.returnToPlaying v) s = .next s) ∧
    (x.primed = true ↔ 256 ≤ x.frames ∨ 1024 ≤ x.fifo.length ∨ x.exhausted = true) ∧
    (x.exhausted = true ↔ x.next = x.out ∧ x.loops = 0 ∧ x.fetch = .none ∧ x.buf = [] ∧ x.silence = 0) ∧
    (x.state = .playing → x.fifo = [] → x.exhausted = false → ∀ n, n = min (x.underruns + 1) 65535 →
      exec (.enterStarved v) s = .next
        (raise { kind := .underrun, voice := .ofNat 8 v.val,
                 inst := match x.owner with
                   | .inst id _ => .ofNat 8 id
                   | _ => 0,
                 call := match x.owner with
                   | .call id => .ofNat 8 id
                   | _ => 0,
                 aux1 := .ofNat 16 x.region, aux2 := .ofNat 16 n, aux3 := .ofNat 32 x.next }
          { s with stream := { s.stream with
              voices := s.stream.voices.set v { x with state := .starved, underruns := n } } })) ∧
    ((x.state ≠ .playing ∨ x.fifo ≠ []) → exec (.enterStarved v) s = .next s) ∧
    (∀ p, x.state = .stoppingRamp p →
      (p < 240 → exec (.declickRampEnd v) s = .next s) ∧
      (240 ≤ p → x.owner = .orphan → exec (.declickRampEnd v) s = .next (voiceFreed v s)) ∧
      ∀ i c, 240 ≤ p → TableOk s → i ∈ s.seq.instances → i.phase = .running → i.follow = none → x.owner = .inst i.id c →
        (∀ u, u ≠ v → (s.voice u).ownedByInst i.id = false) →
        exec (.declickRampEnd v) s = .next
          (raise { kind := .cueEnded, inst := .ofNat 8 i.id, cue := i.cue, reason := if i.stopped then 1 else 0 }
            { voiceFreed v s with
              seq := { s.seq with instances := s.seq.instances.filter fun j => j.id != i.id } })) ∧
    (∀ p d l c, x.state = .reclaiming p d l c →
      (p < 240 → exec (.reclaimRampEnd v) s = .next s) ∧
      (240 ≤ p → c = true → x.owner = .orphan → exec (.reclaimRampEnd v) s = .next (voiceFreed v s)) ∧
      (240 ≤ p → c = false → x.fetch = .none → x.buf = [] → x.inWord < x.out →
        exec (.reclaimRampEnd v) s = .next { s with
          stream := { s.stream with voices := s.stream.voices.set v {
              x with
              state := .starting (if x.fadeIn = 0 then none else some x.fadeIn),
              level := if x.fadeIn = 0 then x.startLevel else .off,
              next := x.inWord, fifo := [], faultReported := false, fetch := .waiting } },
          relay := { s.relay with tails := s.relay.tails.filter fun tl => tl.voice != v } })) ∧
    ((x.state = .playing ∨ x.state = .stoppingFade) → x.exhausted = true → x.fifo = [] →
      (x.owner = .orphan → exec (.voiceNaturalEnd v) s = .next (voiceFreed v s)) ∧
      (∀ i c, TableOk s → i ∈ s.seq.instances → i.phase = .running → i.follow = none → x.owner = .inst i.id c →
        (∀ u, u ≠ v → (s.voice u).ownedByInst i.id = false) →
        exec (.voiceNaturalEnd v) s = .next
          (raise { kind := .cueEnded, inst := .ofNat 8 i.id, cue := i.cue, reason := if i.stopped then 1 else 0 }
            { voiceFreed v s with
              seq := { s.seq with instances := s.seq.instances.filter fun j => j.id != i.id } })) ∧
      ∀ id c, x.owner = .inst id c →
        ∃ t, exec (.voiceNaturalEnd v) s = .next t ∧ t.voice v = Voice.freeRecord ∧
          (x.state = .playing → x.stopAtEnd = true →
            ∀ u, u ≠ v → (s.voice u).ownedByInst id = true →
              ((∃ f, (s.voice u).state = .starting f) → t.voice u = Voice.freeRecord) ∧
              ((s.voice u).state = .playing ∨ (s.voice u).state = .starved → t.voice u = (s.voice u).ramping)) ∧
          (x.state = .stoppingFade ∨ x.stopAtEnd = false → ∀ u, u ≠ v → t.voice u = s.voice u)) ∧
    ((x.exhausted = false ∨ x.fifo ≠ []) → exec (.voiceNaturalEnd v) s = .next s)

/-- DECODER_RUN on a FIFO within its 1,024 entries loses and invents nothing: the FIFO, then the silence run's
remainder, then what the buffer's words stand for are the same sequence before and after, and the run stops at a full
FIFO or with nothing left (R13, R76). The next request is posted where the buffer is empty and words remain (R74), and
the first RESERVED word of a start raises FORMAT_FAULT with its position (R78). Nothing else is touched. -/
def Obligations.DecoderConserves : Prop :=
  ∀ (s : State) (v : VoiceNo) (x : Voice), s.timing.inReset = false → x = s.voice v → x.fifo.length ≤ 1024 →
    ((x.state = .free ∨ ∃ p d l c, x.state = .reclaiming p d l c) → exec (.decoderRun v) s = .next s) ∧
    (x.state ≠ .free → (∀ p d l c, x.state ≠ .reclaiming p d l c) →
      ∃ (y : Voice) (taken : List Word), x.buf = taken ++ y.buf ∧
        y.fifo ++ List.replicate y.silence (.frame 0) ++ streamEntries y.buf =
          x.fifo ++ List.replicate x.silence (.frame 0) ++ streamEntries x.buf ∧
        y.fifo.length ≤ 1024 ∧ (y.fifo.length = 1024 ∨ (y.silence = 0 ∧ y.buf = [])) ∧
        y.bufPos = x.bufPos + taken.length ∧
        y = { x with fifo := y.fifo, silence := y.silence, buf := y.buf, bufPos := y.bufPos, fetch := y.fetch,
                     faultReported := y.faultReported } ∧
        (x.fetch = .none → y.buf = [] → x.next < x.out → (∀ p, x.state ≠ .stoppingRamp p) → y.fetch = .waiting) ∧
        (x.fetch ≠ .none ∨ y.buf ≠ [] ∨ x.out ≤ x.next ∨ (∃ p, x.state = .stoppingRamp p) → y.fetch = x.fetch) ∧
        ((∀ w ∈ taken, streamWord w ≠ .reserved) →
          y.faultReported = x.faultReported ∧
          exec (.decoderRun v) s = .next { s with stream := { s.stream with voices := s.stream.voices.set v y } }) ∧
        ∀ before w after, taken = before ++ w :: after → (∀ u ∈ before, streamWord u ≠ .reserved) →
          streamWord w = .reserved →
          y.faultReported = true ∧
          exec (.decoderRun v) s = .next
            (if x.faultReported then { s with stream := { s.stream with voices := s.stream.voices.set v y } }
             else raise (Event.ofOwner x.owner
                 { kind := .formatFault, voice := .ofNat 8 v.val, aux1 := .ofNat 16 x.region,
                   aux2 := .ofNat 16 (x.bufPos + before.length) })
               { s with stream := { s.stream with voices := s.stream.voices.set v y } }))

/-! ### Levels and the Fade Engine -/

/-- SET LEVEL and SET TRIM by their checks (R99, R100) and the four cases of a post (R92, R93), with the level clamped
to −960..+100 or OFF and the time to 600,000 ms; the answer names both and the case. -/
def Obligations.LevelControls : Prop :=
  (∀ (l : Role) (tag source output : Byte) (level : Half) (time : Word) (s : State), s.store.state ≠ .loading →
    (Serves l 0x40 s → 40 ≤ source.toNat ∨ 32 ≤ output.toNat →
      exec (.setLevel l tag source output level time) s =
        answered l 0x40 tag .badField [] (reloadPresence l s)) ∧
    (Serves l 0x41 s → 32 ≤ output.toNat →
      exec (.setTrim l tag output level time) s = answered l 0x41 tag .badField [] (reloadPresence l s))) ∧
  ∀ (l : Role) (tag source output : Byte) (level : Half) (time : Word) (s : State) (c : Instr) (code : Byte)
    (T : FadeTarget) (o : OutputNo) (put : Level → State → State), Serves l code s →
    ((c = .setLevel l tag source output level time ∧ code = 0x40 ∧ ∃ i : SourceNo, i.val = source.toNat ∧
        o.val = output.toNat ∧ T = .crosspoint i o ∧ put = fun g t => { t with mix := { t.mix with
          xpts := t.mix.xpts.set o (t.mix.xpts[o].set i g) } }) ∨
      (c = .setTrim l tag output level time ∧ code = 0x41 ∧ o.val = output.toNat ∧ T = .trim o ∧
        put = fun g t => { t with mix := { t.mix with trims := t.mix.trims.set o g } })) →
    (s.store.state = .loading → exec c s = answered l code tag .loading [] (reloadPresence l s)) ∧
    (s.store.state ≠ .loading →
      (l = .monitor → s.mix.classes[o] ≠ .foldback →
        exec c s = answered l code tag .notPermitted [] (reloadPresence l s)) ∧
      ∀ (g : Level) (n : Nat), (l = .monitor → s.mix.classes[o] = .foldback) →
        (level = 0x8000#16 → g = .off) → (level ≠ 0x8000#16 → g = .db (max (-960) (min 100 level.toInt))) →
        n = min time.toNat 600000 →
        (n = 0 → exec c s = answered l code tag .accepted (lv g ++ u32 n ++ u8 0)
          { put g (reloadPresence l s) with fades := s.fades.filter fun e => e.target != T }) ∧
        ∀ e : FadeEntry, 0 < n →
          e = { target := T, start := getLevel T s, goal := g, n := n, k := 0, due := false, action := .nothing,
                poster := .link l } →
          ((fadeFor T s).isSome = true → exec c s = answered l code tag .accepted (lv g ++ u32 n ++ u8 1)
            { reloadPresence l s with fades := s.fades.map fun f => if f.target = T then e else f }) ∧
          (fadeFor T s = none → s.fades.length < 256 →
            exec c s = answered l code tag .accepted (lv g ++ u32 n ++ u8 2)
              { reloadPresence l s with fades := s.fades ++ [e] }) ∧
          (fadeFor T s = none → 256 ≤ s.fades.length →
            exec c s = answered l code tag .accepted (lv g ++ u32 n ++ u8 3)
              (raise (Event.ofTarget T
                  { kind := .fadeOverflow, reason := .ofNat 8 (targetKind T), aux1 := g.bits,
                    aux2 := .ofNat 16 (roleCode l), aux3 := .ofNat 32 n })
                (put g (reloadPresence l s)))))

/-- MILLISECOND_TICK, where 48 frames have passed: the show clock and every timer step by one millisecond (R49, R53,
R123, R125, R137, R155, R159, R172), every fade writes its next level or is due for its last step, and no other level
moves (R94); before that it has no effect (log 1). That a gate timer stands in a millisecond whose latest frame reloaded it
(log 6), and that an entry becomes due instead of taking its last step here (log 16), are the model's readings. -/
def Obligations.MillisecondSteps : Prop :=
  ∀ (sample : LineState) (s : State), s.timing.inReset = false →
    (s.timing.frames < 48 → exec (.millisecondTick sample) s = .next s) ∧
    (48 ≤ s.timing.frames → FadesOk s → (∀ e ∈ s.fades, Held e.target s) →
      ∃ t, exec (.millisecondTick sample) s = .next t ∧
        t.timing = { s.timing with showClock := s.timing.showClock + 1, frames := s.timing.frames - 48 } ∧
        t.seq = { s.seq with instances := s.seq.instances.map fun i =>
          { i with preWait := if i.phase = .prewait then i.preWait - 1 else i.preWait,
                   follow := i.follow.map fun f => { f with delay := f.delay - 1 } } } ∧
        (∀ r, t.link r = { s.link r with
          timer := if (s.link r).attached then (s.link r).timer - 1 else (s.link r).timer }) ∧
        t.relay.playing = s.relay.playing.map (fun c => { c with gate := c.gate.map fun g =>
          { g with left := if g.reloaded then g.left else g.left - 1 } }) ∧
        t.foldback = { s.foldback with talk := s.foldback.talk.map fun k =>
          { k with gate := { k.gate with left := if k.gate.reloaded then k.gate.left else k.gate.left - 1 } } } ∧
        t.mix.clock = { s.mix.clock with
          qualified := if s.mix.clock.present ∧ (s.mix.clock.state = .acquiring ∨ s.mix.clock.state = .holdover) then
            min (s.mix.clock.qualified + 1) 1000 else s.mix.clock.qualified } ∧
        t.showStop = { s.showStop with
          sampleNew := sample, sampleOld := s.showStop.sampleNew, mute := t.showStop.mute } ∧
        t.fades = s.fades.map (fun e => if e.k + 1 < e.n then { e with k := e.k + 1 } else { e with due := true }) ∧
        (∀ e ∈ s.fades, e.k + 1 < e.n → getLevel e.target t = fadeLevel e.start e.goal (e.k + 1) e.n) ∧
        (∀ T, (∀ e ∈ s.fades, e.target = T → e.n ≤ e.k + 1) → getLevel T t = getLevel T s) ∧
        t.store = s.store ∧ t.smi = s.smi)

/-- FADE_COMPLETE takes the last step of an entry that is due: the goal is written, the entry goes, and its completion
is run: a voice at OFF becomes FREE and one above it takes the declick ramp (R84), a released duck clears its zone
(R144), and a stop mute in RESUMING ends the resume (R164). An entry that is not due has no last step yet (log 1,
log 16). -/
def Obligations.FadeCompletes : Prop :=
  ∀ (s : State) (T : FadeTarget), s.timing.inReset = false →
    ((∀ e, fadeFor T s = some e → e.due = false) → exec (.fadeComplete T) s = .next s) ∧
    ∀ (e : FadeEntry) (rest : List FadeEntry), fadeFor T s = some e → e.due = true →
      rest = s.fades.filter (fun f => f.target != T) →
      (∀ i o, T = .crosspoint i o → e.action = .nothing →
        exec (.fadeComplete T) s = .next { s with
          fades := rest, mix := { s.mix with xpts := s.mix.xpts.set o (s.mix.xpts[o].set i e.goal) } }) ∧
      (∀ o, T = .trim o → e.action = .nothing →
        exec (.fadeComplete T) s = .next { s with
          fades := rest, mix := { s.mix with trims := s.mix.trims.set o e.goal } }) ∧
      (∀ v, T = .voice v → e.action = .nothing →
        exec (.fadeComplete T) s = .next { s with
          fades := rest,
          stream := { s.stream with voices := s.stream.voices.set v { s.voice v with level := e.goal } } }) ∧
      (∀ v, T = .voice v → e.action = .stopVoice → e.goal = .off → (s.voice v).owner = .orphan →
        exec (.fadeComplete T) s = .next (voiceFreed v s)) ∧
      (∀ v, T = .voice v → e.action = .stopVoice → e.goal ≠ .off → (s.voice v).state = .stoppingFade →
        exec (.fadeComplete T) s = .next { s with
          fades := rest,
          stream := { s.stream with
            voices := s.stream.voices.set v { s.voice v with
              level := e.goal, state := .stoppingRamp 0, fetch := .none } } }) ∧
      (∀ z zn, T = .duck z → e.action = .duckReleased → e.goal = .db 0 → s.zone? z = some zn → zn.phase = .releasing →
        exec (.fadeComplete T) s = .next { s with
          fades := rest,
          relay := { s.relay with
            zones := s.relay.zones.set z.val { zn with duck := 0, phase := .clear, peak := 0 } } }) ∧
      (T = .stopMute → e.action = .nothing →
        (s.showStop.state = .resuming →
          exec (.fadeComplete T) s = .next
            (raise { kind := .showResumed, reason := 1 }
              { s with fades := rest, showStop := { s.showStop with mute := e.goal, state := .normal } })) ∧
        (s.showStop.state ≠ .resuming →
          exec (.fadeComplete T) s = .next
            { s with fades := rest, showStop := { s.showStop with mute := e.goal } }))

/-! ### Mix Matrix -/

/-- BLANK and OPEN by the table of R116, with its two refusals, and the end of a ramp at 240 frames (R117). A ramp that
has not reached it does not end (log 1). -/
def Obligations.BlankingTaken : Prop :=
  (∀ (l : Role) (tag b : Byte) (s : State), Serves l 0x48 s →
    (32 ≤ b.toNat →
      exec (.blank l tag b) s = answered l 0x48 tag .badField [] (reloadPresence l s) ∧
      exec (.openOutput l tag b) s = answered l 0x49 tag .badField [] (reloadPresence l s)) ∧
    ∀ o : OutputNo, o.val = b.toNat →
      (l = .monitor → s.mix.classes[o] ≠ .foldback →
        exec (.blank l tag b) s = answered l 0x48 tag .notPermitted [] (reloadPresence l s) ∧
        exec (.openOutput l tag b) s = answered l 0x49 tag .notPermitted [] (reloadPresence l s)) ∧
      ((l = .monitor → s.mix.classes[o] = .foldback) → ∀ (old new : Blanking) (code pos : Nat),
        s.mix.blanking[o] = old → code = new.code → pos = new.pos →
        ((old = .opened ∧ new = .closing 0 ∨ (∃ c, old = .closing c ∧ new = old) ∨ old = .blanked ∧ new = old ∨
            old = .opening 0 ∧ new = .blanked ∨ ∃ p, old = .opening p ∧ 0 < p ∧ new = .closing (240 - p)) →
          exec (.blank l tag b) s = answered l 0x48 tag .accepted (u8 code ++ u8 pos)
            { reloadPresence l s with mix := { s.mix with blanking := s.mix.blanking.set o new } }) ∧
        ((old = .opened ∧ new = old ∨ old = .closing 0 ∧ new = .opened ∨
            (∃ c, old = .closing c ∧ 0 < c ∧ new = .opening (240 - c)) ∨ old = .blanked ∧ new = .opening 0 ∨
            ∃ p, old = .opening p ∧ new = old) →
          exec (.openOutput l tag b) s = answered l 0x49 tag .accepted (u8 code ++ u8 pos)
            { reloadPresence l s with mix := { s.mix with blanking := s.mix.blanking.set o new } }))) ∧
  ∀ (s : State) (o : OutputNo), s.timing.inReset = false →
    (∀ c, s.mix.blanking[o] = .closing c →
      (240 ≤ c → exec (.blankingRampEnd o) s = .next { s with mix := { s.mix with
        blanking := s.mix.blanking.set o .blanked } }) ∧
      (c < 240 → exec (.blankingRampEnd o) s = .next s)) ∧
    (∀ p, s.mix.blanking[o] = .opening p →
      (240 ≤ p → exec (.blankingRampEnd o) s = .next { s with mix := { s.mix with
        blanking := s.mix.blanking.set o .opened } }) ∧
      (p < 240 → exec (.blankingRampEnd o) s = .next s)) ∧
    (s.mix.blanking[o] = .opened ∨ s.mix.blanking[o] = .blanked → exec (.blankingRampEnd o) s = .next s)

/-- The clock reference (R122 to R124): SET REFERENCE by the present state, the loss of the reference, which leaves
HOLDOVER and REF_LOST where it was EXTERNAL LOCKED, the lock after 1,000 ms of qualification with REF_LOCKED, and the
reference present again, from which qualification counts anew. That the last two rows have no effect where their condition
does not hold (log 1), that the rate kept is an operand, and the mark of the frame being aligned (log 15), are the
model's choices. -/
def Obligations.ReferenceTable : Prop :=
  ∀ (s : State) (k : ClockRef), s.timing.inReset = false → k = s.mix.clock →
    (∀ (tag b : Byte), Serves .console 0x4B s →
      (b = 0 → k.state = .internal →
        exec (.setReference .console tag b) s =
          answered .console 0x4B tag .accepted (u8 0) (reloadPresence .console s)) ∧
      (b = 0 → k.state ≠ .internal →
        exec (.setReference .console tag b) s = answered .console 0x4B tag .accepted (u8 0)
          { reloadPresence .console s with mix := { s.mix with
            clock := { k with state := .internal, qualified := 0, holdRate := none } } }) ∧
      (b = 1 → k.state = .internal →
        exec (.setReference .console tag b) s = answered .console 0x4B tag .accepted (u8 1)
          { reloadPresence .console s with mix := { s.mix with
            clock := { k with state := .acquiring, qualified := 0 } } }) ∧
      (b = 1 → k.state ≠ .internal →
        exec (.setReference .console tag b) s =
          answered .console 0x4B tag .accepted (u8 k.state.code) (reloadPresence .console s)) ∧
      (2 ≤ b.toNat →
        exec (.setReference .console tag b) s =
          answered .console 0x4B tag .badField [] (reloadPresence .console s))) ∧
    (∀ rate,
      (k.state = .locked → exec (.referenceLost rate) s = .next (raise { kind := .refLost }
        { s with mix := { s.mix with clock := { k with
          state := .holdover, present := false, qualified := 0, holdRate := some rate, pacer := .heldRate } } })) ∧
      (k.state ≠ .locked → exec (.referenceLost rate) s =
        .next { s with mix := { s.mix with clock := { k with present := false, qualified := 0 } } })) ∧
    (k.present = true → 1000 ≤ k.qualified → k.state = .acquiring ∨ k.state = .holdover →
      exec .lockAchieved s = .next (raise { kind := .refLocked }
        { s with mix := { s.mix with clock := { k with
          state := .locked, qualified := 0, holdRate := none, aligning := true } } })) ∧
    (k.present = false ∨ k.qualified < 1000 ∨ k.state = .internal ∨ k.state = .locked →
      exec .lockAchieved s = .next s) ∧
    (k.present = false → exec .referencePresentAndInRange s =
      .next { s with mix := { s.mix with clock := { k with present := true, qualified := 0 } } }) ∧
    (k.present = true → exec .referencePresentAndInRange s = .next s)

/-- A frame in which no voice delivers: the outputs are formed from the live inputs and the contributions (R112 to R117),
the meters and CLIP (R119), the 24-bit samples in their slots, moved on by one TDM frame (R121), the blanking ramps, which
end at 240 (R117), an unheld zone's window peak (R113, R142), and the gates of talk and of PLAYING live calls, which
reload above the threshold (R137, R155). A frame in which one voice delivers to the call destination: its sample reaches
the zones of its call and of its tails, and no stem (R87, R151). The reloaded mark (log 6), a peak kept at 8,388,608
(log 26), and the settings and calls being those at the start of the frame (log 14) are the model's. -/
def Obligations.AudioFrameOutputs : Prop :=
  (∀ (live : Vector (BitVec 24) 16) (first : List VoiceNo) (s : State), s.timing.inReset = false →
    (∀ v, (s.voice v).delivers = false) →
    ∃ t, exec (.audioFrame live first) s = .next t ∧ FrameSent s (fun _ => 0) t ∧ ClipsReported s (fun _ => 0) t ∧
      (∀ i : LiveNo, t.mix.rx[i] = (live[i]).toInt) ∧
      (∀ (line : Fin 4) (slot : Fin 8) (o : OutputNo), o.val = 8 * line.val + slot.val →
        tdmOut t line slot = BitVec.ofInt 24 s.mix.txNext[o] ++ 0#8) ∧
      (∀ (lines : Vector (Vector (BitVec 32) 8) 2) (line : Fin 2) (slot : Fin 8) (i : LiveNo), live = liveOfLines lines →
        i.val = 8 * line.val + slot.val → t.mix.rx[i] = ((lines[line][slot]).extractLsb' 8 24).toInt) ∧
      t.timing = { s.timing with frames := s.timing.frames + 1 } ∧ t.relay.window = s.relay.window + 1 ∧
      (∀ o : OutputNo, t.mix.blanking[o] = match s.mix.blanking[o] with
        | .closing c => if c + 1 < 240 then .closing (c + 1) else .blanked
        | .opening p => if p + 1 < 240 then .opening (p + 1) else .opened
        | .opened => .opened
        | .blanked => .blanked) ∧
      t.relay.zones = s.relay.zones.map (fun zn => if zn.duck < 0 ∨ s.showStop.state ≠ .normal then zn else
        { zn with peak := max zn.peak (min 8388608 (product (frameProgram s (fun _ => 0) zn.output)
          (((s.mix.trims[zn.output]).add (.db zn.leveler)).toDomain).gain).natAbs) }) ∧
      (∀ gate : LiveNo → GateTimer → GateTimer,
        (gate = fun i g => if magnitudeOf s.relay.gateThreshold < (s.mix.rx[i]).natAbs then
          { left := 1000 * s.relay.gateSeconds, reloaded := true } else { g with reloaded := false }) →
        t.foldback = { s.foldback with talk := s.foldback.talk.map fun k => { k with gate := gate k.input k.gate } } ∧
        t.relay.playing = s.relay.playing.map fun c => match c.source with
          | .live i => { c with gate := c.gate.map (gate i) }
          | _ => c) ∧
      t.stream = s.stream ∧ t.seq = s.seq ∧ t.fades = s.fades ∧ t.store = s.store ∧ t.smi = s.smi ∧
      t.showStop = s.showStop ∧ t.mix.xpts = s.mix.xpts ∧ t.mix.trims = s.mix.trims ∧ t.mix.classes = s.mix.classes ∧
      t.relay.waiting = s.relay.waiting ∧ t.relay.tails = s.relay.tails) ∧
  ∀ (live : Vector (BitVec 24) 16) (first : List VoiceNo) (s : State) (v : VoiceNo) (x : Voice) (smp : Int)
    (rest : List FifoEntry) (out : Int) (st : VoiceState), s.timing.inReset = false → x = s.voice v → x.buf = [] →
    x.silence = 0 → (∀ u, u ≠ v → (s.voice u).delivers = false) →
    (x.fifo = .frame smp :: rest ∨ (x.fifo = [] ∧ smp = 0 ∧ rest = [] ∧ x.state ≠ .playing)) →
    ((x.state = .playing ∨ x.state = .stoppingFade) ∧ x.dest = .call ∧ st = x.state ∧
        out = product smp x.level.gain ∨
      (∃ p, x.state = .stoppingRamp p ∧ p < 240 ∧ x.dest = .call ∧ st = .stoppingRamp (p + 1) ∧
        out = (product smp x.level.gain * (239 - p : Nat)).tdiv 240) ∨
      ∃ p g c, x.state = .reclaiming p .call g c ∧ p < 240 ∧ st = .reclaiming (p + 1) .call g c ∧
        out = (product smp g.gain * (239 - p : Nat)).tdiv 240) →
    ∃ t, exec (.audioFrame live first) s = .next t ∧ FrameSentWith s (fun _ => 0) (voicePart s v out) t ∧
      t.voice v = { x with state := st, fifo := rest, fetch := (t.voice v).fetch } ∧
      (∀ u, u ≠ v → t.voice u = s.voice u) ∧ t.stream.stemSat = s.stream.stemSat

/-- A frame in which one voice with an empty buffer delivers: its head frame at its level, scaled by its ramp, reaches
its stem, and no other (R65, R79, R85, R87); a marker before the frame is reported, and fires the cue that it triggers
where the voice is PLAYING for an instance (R56). -/
def Obligations.VoiceFrame : Prop :=
  ∀ (live : Vector (BitVec 24) 16) (first : List VoiceNo) (s : State) (v : VoiceNo) (x : Voice) (smp : Int)
    (rest : List FifoEntry), s.timing.inReset = false → x = s.voice v → x.buf = [] → x.silence = 0 →
    (∀ u, u ≠ v → (s.voice u).delivers = false) →
    (x.fifo = .frame smp :: rest ∨ (x.fifo = [] ∧ smp = 0 ∧ rest = [] ∧ x.state ≠ .playing) →
      ∀ (k : StemNo) (out : Int) (st : VoiceState),
        ((x.state = .playing ∨ x.state = .stoppingFade) ∧ x.dest = .stem k ∧ st = x.state ∧
            out = product smp x.level.gain ∨
          (∃ p, x.state = .stoppingRamp p ∧ p < 240 ∧ x.dest = .stem k ∧ st = .stoppingRamp (p + 1) ∧
            out = (product smp x.level.gain * (239 - p : Nat)).tdiv 240) ∨
          ∃ p g c, x.state = .reclaiming p (.stem k) g c ∧ p < 240 ∧ st = .reclaiming (p + 1) (.stem k) g c ∧
            out = (product smp g.gain * (239 - p : Nat)).tdiv 240) →
        ∃ t, exec (.audioFrame live first) s = .next t ∧
          FrameSent s (fun j => if j = k then sat24 out else 0) t ∧
          t.voice v = { x with state := st, fifo := rest, fetch := (t.voice v).fetch } ∧
          (∀ u, u ≠ v → t.voice u = s.voice u) ∧
          (∀ j : StemNo, t.stream.stemSat[j] = if j = k ∧ sat24 out ≠ out then min (s.stream.stemSat[j] + 1) 65535
            else s.stream.stemSat[j]) ∧
          t.seq = s.seq ∧ t.fades = s.fades) ∧
    ∀ id, x.fifo = .marker id :: .frame smp :: rest → x.state = .playing →
      ∃ t, exec (.audioFrame live first) s = .next t ∧
        (x.owner = .orphan →
          Raised { kind := .marker, voice := .ofNat 8 v.val, aux1 := .ofNat 16 id.toNat } t ∧ t.seq = s.seq ∧
            (t.voice v).fifo = rest) ∧
        ∀ i c, x.owner = .inst i c →
          Raised { kind := .marker, voice := .ofNat 8 v.val, aux1 := .ofNat 16 id.toNat, inst := .ofNat 8 i,
                   cue := c } t ∧
          ((∀ q ∈ s.store.cues, q.trigger ≠ .marker c id) → t.seq = s.seq ∧ (t.voice v).fifo = rest) ∧
          ∀ q, s.store.cues.filter (fun d => d.trigger == .marker c id) = [q] → 0 < q.preWait →
            s.seq.instances.length < 24 → (∀ j ∈ s.seq.instances, j.id ≠ s.seq.nextId) →
            t.seq.instances = s.seq.instances ++ [waitingInst s.seq.nextId q .marker s.timing.showClock] ∧
              (t.voice v).fifo = rest

/-! ### Foldback Controller -/

/-- SET FOLLOW, SET OFFSET and SET CEILING by their checks and clamps (R129, R132, R133), TALK ON and TALK OFF (R135,
R136) and the expiry of the talk gate (R137), which has no effect while the gate still runs (the model's choice, log 1). -/
def Obligations.FoldbackAndTalk : Prop :=
  (∀ s : State, s.timing.inReset = false →
    ((∀ k, s.foldback.talk = some k → 0 < k.gate.left) → exec .talkGateExpiry s = .next s) ∧
    ∀ k, s.foldback.talk = some k → k.gate.left = 0 →
      exec .talkGateExpiry s = .next { s with foldback := { s.foldback with
        talk := none, lastEnd := some { cause := .gate, time := s.timing.showClock } } }) ∧
  ∀ (l : Role) (tag : Byte) (s : State), Serves l 0x50 s →
    (∀ output mode main : Byte, 32 ≤ output.toNat ∨ 2 ≤ mode.toNat ∨ (mode = 1 ∧ 32 ≤ main.toNat) →
      exec (.setFollow l tag output mode main) s = answered l 0x50 tag .badField [] (reloadPresence l s)) ∧
    (∀ (source output : Byte) (offset : Half), 40 ≤ source.toNat ∨ 32 ≤ output.toNat →
      exec (.setOffset l tag source output offset) s = answered l 0x51 tag .badField [] (reloadPresence l s)) ∧
    (∀ (output : Byte) (ceiling : Half), 32 ≤ output.toNat →
      exec (.setCeiling l tag output ceiling) s = answered l 0x52 tag .badField [] (reloadPresence l s)) ∧
    (∀ (output mode main : Byte) (o : OutputNo) (m : FoldMode), o.val = output.toNat →
      (mode = 0 ∧ m = .independent ∨ mode = 1 ∧ ∃ n : OutputNo, n.val = main.toNat ∧ m = .follow n) →
      (s.mix.classes[o] ≠ .foldback →
        exec (.setFollow l tag output mode main) s = answered l 0x50 tag .notFoldback [] (reloadPresence l s)) ∧
      (∀ n, s.mix.classes[o] = .foldback → m = .follow n → s.mix.classes[n] ≠ .main →
        exec (.setFollow l tag output mode main) s = answered l 0x50 tag .badReference [] (reloadPresence l s)) ∧
      (s.mix.classes[o] = .foldback → (∀ n, m = .follow n → s.mix.classes[n] = .main) →
        exec (.setFollow l tag output mode main) s = answered l 0x50 tag .accepted (u8 m.code ++ u8 m.main)
          { reloadPresence l s with foldback := { s.foldback with modes := s.foldback.modes.set o m } })) ∧
    (∀ (source output : Byte) (offset : Half) (i : SourceNo) (o : OutputNo) (x : Int), i.val = source.toNat →
      o.val = output.toNat → x = max (-240) (min 120 offset.toInt) →
      (s.mix.classes[o] ≠ .foldback →
        exec (.setOffset l tag source output offset) s =
          answered l 0x51 tag .notFoldback [] (reloadPresence l s)) ∧
      (s.mix.classes[o] = .foldback →
        exec (.setOffset l tag source output offset) s = answered l 0x51 tag .accepted (i16 x)
          { reloadPresence l s with foldback := { s.foldback with
            offsets := s.foldback.offsets.set o (s.foldback.offsets[o].set i x) } })) ∧
    (∀ (output : Byte) (ceiling : Half) (o : OutputNo) (x : Int), o.val = output.toNat →
      x = max (-200) (min 0 ceiling.toInt) →
      (s.mix.classes[o] ≠ .foldback →
        exec (.setCeiling l tag output ceiling) s = answered l 0x52 tag .notFoldback [] (reloadPresence l s)) ∧
      (s.mix.classes[o] = .foldback →
        exec (.setCeiling l tag output ceiling) s = answered l 0x52 tag .accepted (i16 x)
          { reloadPresence l s with foldback := { s.foldback with ceilings := s.foldback.ceilings.set o x } })) ∧
    (∀ (input : Byte) (set : BitVec 32) (level : Half), Serves l 0x53 s →
      (s.showStop.state = .stopped →
        exec (.talkOn l tag input set level) s = answered l 0x53 tag .showStopped [] (reloadPresence l s)) ∧
      (s.showStop.state ≠ .stopped → 16 ≤ input.toNat ∨ set = 0 →
        exec (.talkOn l tag input set level) s = answered l 0x53 tag .badField [] (reloadPresence l s)) ∧
      ∀ i : LiveNo, s.showStop.state ≠ .stopped → i.val = input.toNat → set ≠ 0 →
        (∀ o : OutputNo, set.getLsbD o = true → s.mix.classes[o] ≠ .foldback →
          (∀ q : OutputNo, q < o → set.getLsbD q = true → s.mix.classes[q] = .foldback) →
          exec (.talkOn l tag input set level) s =
            answered l 0x53 tag .notFoldback (u8 o.val) (reloadPresence l s)) ∧
        ∀ x : Int, (∀ o : OutputNo, set.getLsbD o = true → s.mix.classes[o] = .foldback) →
          x = max (-300) (min 60 level.toInt) →
          exec (.talkOn l tag input set level) s = answered l 0x53 tag .accepted (i16 x)
            { reloadPresence l s with foldback := { s.foldback with
              talk := some { input := i, set := set, level := x,
                             gate := { left := 1000 * s.relay.gateSeconds, reloaded := false } } } }) ∧
    (Serves l 0x54 s →
      (s.foldback.talk = none →
        exec (.talkOff l tag) s = answered l 0x54 tag .accepted (u8 0) (reloadPresence l s)) ∧
      ∀ k, s.foldback.talk = some k →
        exec (.talkOff l tag) s = answered l 0x54 tag .accepted (u8 1)
          { reloadPresence l s with foldback := { s.foldback with
            talk := none, lastEnd := some { cause := .talkOff, time := s.timing.showClock } } })

/-! ### Relay Controller -/

/-- SET LEVELER, SET DUCK TIMES and SET GATE with their clamps (R141), and the end of the leveler window after 4,800
frames: an unheld zone's gain moves by the step that its peak asks for, within −200..+100, a held one's stays, and every
peak becomes 0 (R142, R143). A window with frames still to come does not end (log 1). That the steps are read as signed
fields is the model's (log 11). -/
def Obligations.RelaySettingsAndWindow : Prop :=
  (∀ (l : Role) (tag : Byte) (s : State),
    (∀ (p : LevelerPayload) (v : Leveler), Serves l 0x60 s →
      v = { target := max (-300) (min (-60) p.target.toInt), up := max 0 (min 20 p.up.toInt),
            down := max 0 (min 50 p.down.toInt), leap := max 0 (min 120 p.leap.toInt),
            gate := max (-700) (min (-300) p.gate.toInt) } →
      exec (.setLeveler l tag p) s = answered l 0x60 tag .accepted
        (i16 v.target ++ i16 v.up ++ i16 v.down ++ i16 v.leap ++ i16 v.gate)
        { reloadPresence l s with relay := { s.relay with leveler := v } }) ∧
    (∀ (a r : Half) (m n : Nat), Serves l 0x61 s → m = min a.toNat 2000 → n = min r.toNat 5000 →
      exec (.setDuckTimes l tag a r) s = answered l 0x61 tag .accepted (u16 m ++ u16 n)
        { reloadPresence l s with relay := { s.relay with attack := m, release := n } }) ∧
    ∀ (threshold : Half) (seconds : Byte) (x : Int) (n : Nat), x = max (-600) (min (-200) threshold.toInt) →
      n = max 2 (min 60 seconds.toNat) → Serves l 0x62 s →
      exec (.setGate l tag threshold seconds) s = answered l 0x62 tag .accepted (i16 x ++ u8 n)
        { reloadPresence l s with relay := { s.relay with gateThreshold := x, gateSeconds := n } }) ∧
  ∀ s : State, s.timing.inReset = false →
    (s.relay.window < 4800 → exec .windowEnd s = .next s) ∧
    (4800 ≤ s.relay.window →
      exec .windowEnd s = .next { s with relay := { s.relay with
        window := s.relay.window - 4800,
        zones := s.relay.zones.map fun zn =>
          if zn.duck < 0 ∨ s.showStop.state ≠ .normal then { zn with peak := 0 }
          else { zn with peak := 0, leveler := max (-200) (min 100 (zn.leveler +
            if magnitudeOf (s.relay.leveler.target + 60) < zn.peak then -s.relay.leveler.leap
            else if magnitudeOf s.relay.leveler.target < zn.peak then -s.relay.leveler.down
            else if magnitudeOf s.relay.leveler.gate < zn.peak then s.relay.leveler.up
            else 0)) } } })

/-- CALL by the six checks of R146 in order; an accepted call waits where one of its zones carries a call that it does
not preempt (R149), starts where its zones are free, with a voice where it is recorded (R150), and takes the zones of a
call of lower priority, which ends PREEMPTED (R148). -/
def Obligations.CallTaken : Prop :=
  ∀ (l : Role) (tag : Byte) (p : CallPayload) (s : State), Serves l 0x63 s →
    (p.zones = 0 ∨ p.priority = 0 ∨ 3 < p.priority.toNat ∨ p.page.toInt < -300 ∨ 60 < p.page.toInt ∨
        600 < p.depth.toNat ∨ 2 ≤ p.kind.toNat ∨ (p.kind = 0 ∧ 16 ≤ p.input.toNat) ∨
        (p.kind = 1 ∧ (1024 ≤ p.region.toNat ∨ 16777216 ≤ p.inWord.toNat ∨ 16777216 < p.outWord.toNat)) →
      exec (.call l tag p) s = answered l 0x63 tag .badField [] (reloadPresence l s)) ∧
    ∀ src : CallSource, p.zones ≠ 0 → 1 ≤ p.priority.toNat → p.priority.toNat ≤ 3 → -300 ≤ p.page.toInt →
      p.page.toInt ≤ 60 → p.depth.toNat ≤ 600 →
      ((p.kind = 0 ∧ ∃ i : LiveNo, i.val = p.input.toNat ∧ src = .live i) ∨
        (p.kind = 1 ∧ p.region.toNat < 1024 ∧ p.inWord.toNat < 16777216 ∧ p.outWord.toNat ≤ 16777216 ∧
          src = .recorded p.region.toNat p.inWord.toNat
            (if p.outWord = 0 then none else some p.outWord.toNat))) →
      (p.kind = 1 → s.store.state = .loading →
        exec (.call l tag p) s = answered l 0x63 tag .loading [] (reloadPresence l s)) ∧
      ((p.kind = 1 → s.store.state ≠ .loading) →
        (∀ z : ZoneNo, p.zones.getLsbD z = true → s.relay.zones.length ≤ z.val →
          (∀ y : ZoneNo, y < z → p.zones.getLsbD y = true → y.val < s.relay.zones.length) →
          exec (.call l tag p) s = answered l 0x63 tag .noSuchZone (u8 z.val) (reloadPresence l s)) ∧
        ((∀ z : ZoneNo, p.zones.getLsbD z = true → z.val < s.relay.zones.length) →
          (p.kind = 1 → s.smi.regions.length ≤ p.region.toNat →
            exec (.call l tag p) s = answered l 0x63 tag .badReference [] (reloadPresence l s)) ∧
          (∀ reg, p.kind = 1 → s.smi.regions[p.region.toNat]? = some reg →
            (p.outWord = 0 ∧ reg.len ≤ p.inWord.toNat ∨
              p.outWord ≠ 0 ∧ (reg.len < p.outWord.toNat ∨ p.outWord.toNat ≤ p.inWord.toNat)) →
            exec (.call l tag p) s = answered l 0x63 tag .badField [] (reloadPresence l s)) ∧
          ((p.kind = 1 → ∃ reg, s.smi.regions[p.region.toNat]? = some reg ∧
              (p.outWord = 0 → p.inWord.toNat < reg.len) ∧
              (p.outWord ≠ 0 → p.outWord.toNat ≤ reg.len ∧ p.inWord.toNat < p.outWord.toNat)) →
            (8 ≤ s.relay.waiting.countP (fun d => d.source != .announce) →
              exec (.call l tag p) s = answered l 0x63 tag .queueFull [] (reloadPresence l s)) ∧
            ∀ c : Call, s.relay.waiting = [] → (∀ d ∈ s.relay.playing, d.id ≠ s.relay.nextId) →
              c = { id := s.relay.nextId, priority := p.priority.toNat, source := src, zones := p.zones,
                    page := p.page.toInt, depth := p.depth.toNat, origin := .prompt, arrival := s.relay.arrivals,
                    gate := none } →
              ((∀ d ∈ s.relay.playing, c.priority ≤ d.priority ∨ d.zones &&& c.zones = 0) →
                ((∃ z zn, c.zones.getLsbD z.val = true ∧ s.zone? z = some zn ∧ zn.carried ≠ none) →
                  exec (.call l tag p) s = answered l 0x63 tag .accepted (u8 c.id ++ u8 0)
                    { reloadPresence l s with relay := { s.relay with
                      waiting := [c], nextId := if c.id < 255 then c.id + 1 else 1,
                      arrivals := s.relay.arrivals + 1 } }) ∧
                ((∀ z zn, c.zones.getLsbD z.val = true → s.zone? z = some zn → zn.carried = none) →
                  (p.kind = 1 → ∃ v, (s.voice v).state = .free) →
                  ∃ t g, exec (.call l tag p) s = answered l 0x63 tag .accepted (u8 c.id ++ u8 1) t ∧
                    t.relay.waiting = [] ∧ t.relay.playing = s.relay.playing ++ [{ c with gate := g }] ∧
                    (p.kind = 0 → g = some { left := 1000 * s.relay.gateSeconds, reloaded := false }) ∧
                    (p.kind = 1 → g = none) ∧
                    (∀ z : ZoneNo, c.zones.getLsbD z = true → Attacked c.id c.depth s z t) ∧
                    (∀ z : ZoneNo, c.zones.getLsbD z = false → t.zone? z = s.zone? z) ∧
                    (p.kind = 0 → t.stream = s.stream ∧
                      Newest { kind := .callStarted, call := .ofNat 8 c.id, zones := c.zones,
                               aux1 := .ofNat 16 c.priority, aux2 := 0 } t) ∧
                    ∀ v, p.kind = 1 → (s.voice v).state = .free → (∀ u, u < v → (s.voice u).state ≠ .free) →
                      (t.voice v).owner = .call c.id ∧ (t.voice v).dest = .call ∧
                        (t.voice v).state = .starting none ∧ (t.voice v).priority = 3 ∧
                        (t.voice v).fetch = .waiting ∧ (t.voice v).next = p.inWord.toNat ∧
                        Newest { kind := .callStarted, call := .ofNat 8 c.id, zones := c.zones,
                                 voice := .ofNat 8 v.val, aux1 := .ofNat 16 c.priority, aux2 := 256 } t)) ∧
              ∀ d i, s.relay.playing = [d] → d.source = .live i → d.priority < c.priority →
                d.zones &&& c.zones ≠ 0 → p.kind = 0 → (∀ v, (s.voice v).owner ≠ .call d.id) →
                (∀ z zn, s.zone? z = some zn → zn.carried ≠ none → d.zones.getLsbD z.val = true) →
                ∃ t, exec (.call l tag p) s = answered l 0x63 tag .accepted (u8 c.id ++ u8 1) t ∧
                  t.relay.waiting = [] ∧ (∃ e, t.relay.playing = [e] ∧ e.id = c.id) ∧
                  Raised { kind := .callEnded, call := .ofNat 8 d.id, reason := 8 } t ∧
                  (∀ z zn, t.zone? z = some zn → c.zones.getLsbD z.val = true →
                    zn.carried = some c.id ∧ zn.phase = .ducked) ∧
                  ∀ z, c.zones.getLsbD z.val = false → d.zones.getLsbD z.val = true → Released z s t)))

/-- CALL END takes live calls and CANCEL CALL live and recorded ones (R153), and a live call's gate that has run out
ends it (R155): the call leaves its list, its zones are released, the voice it owned is stopped as an orphan, and
CALL_ENDED names the reason (R152). The show-stop call is not ended by a request, and a gate still running ends nothing
(log 1). -/
def Obligations.CallsEnd : Prop :=
  ∀ (l : Role) (tag id : Byte) (s : State), s.timing.inReset = false →
    (Serves l 0x64 s →
      (callOf id.toNat s = none →
        exec (.callEnd l tag id) s = answered l 0x64 tag .noSuchCall [] (reloadPresence l s) ∧
        exec (.cancelCall l tag id) s = answered l 0x65 tag .noSuchCall [] (reloadPresence l s)) ∧
      ∀ c, callOf id.toNat s = some c →
        (c.source = .announce →
          exec (.callEnd l tag id) s = answered l 0x64 tag .notPermitted [] (reloadPresence l s) ∧
          exec (.cancelCall l tag id) s = answered l 0x65 tag .notPermitted [] (reloadPresence l s)) ∧
        ∀ r a b, c.source = .recorded r a b →
          exec (.callEnd l tag id) s = answered l 0x64 tag .notLive [] (reloadPresence l s)) ∧
    ((∀ d g, s.relay.playing.find? (fun d => d.id == id.toNat) = some d → d.gate = some g → 0 < g.left) →
      exec (.callGateExpiry id) s = .next s) ∧
    ∀ (c : Call) (i : Instr) (reason : CallEnd) (done : State → Host.Outcome State Fault Refusal),
      callOf id.toNat s = some c → (∀ d ∈ s.relay.waiting, d.id = id.toNat) →
      (Serves l 0x64 s ∧ (∃ n, c.source = .live n) ∧ i = .callEnd l tag id ∧ reason = .ended ∧
          done = answered l 0x64 tag .accepted [] ∨
        Serves l 0x65 s ∧ c.source ≠ .announce ∧ i = .cancelCall l tag id ∧ reason = .cancelled ∧
          done = answered l 0x65 tag .accepted [] ∨
        c ∈ s.relay.playing ∧ (∃ g, c.gate = some g ∧ g.left = 0) ∧ i = .callGateExpiry id ∧ reason = .gate ∧
          done = .next) →
      ∃ t, exec i s = done t ∧ t.relay.waiting = [] ∧
        t.relay.playing = s.relay.playing.filter (fun d => d.id != id.toNat) ∧
        Newest { kind := .callEnded, call := id, reason := .ofNat 8 reason.code } t ∧
        (∀ z : ZoneNo, c ∈ s.relay.playing → c.zones.getLsbD z = true → Released z s t) ∧
        (∀ z : ZoneNo, c ∉ s.relay.playing ∨ c.zones.getLsbD z = false → t.zone? z = s.zone? z) ∧
        ∀ v, (s.voice v).owner = .call c.id → (∀ u, u ≠ v → (s.voice u).owner ≠ .call c.id) →
          (t.voice v).owner = .orphan ∧
            ((∃ f, (s.voice v).state = .starting f) → t.voice v = Voice.freeRecord) ∧
            ((s.voice v).state = .playing → t.voice v = { (s.voice v).ramping with owner := .orphan } ∧
              { voice := v, zones := c.zones, page := c.page } ∈ t.relay.tails)

/-! ### Show Stop Controller -/

/-- Show stop is entered by SHOW STOP from NORMAL or RESUMING, and by a change of the line that two samples agree on
(R159, R160, R161); in STOPPED nothing changes; with no call in the relay the show-stop call starts on every zone
(R156). The records stand in step order, LINE_CHANGED first where the line caused the entry and CUE_ENDED of every
instance after it (R61). A line row whose change is not due has no effect (log 1), and the instances end in fire order by
the model's choice (log 23). -/
def Obligations.ShowStopEntered : Prop :=
  (∀ (l : Role) (tag : Byte) (s : State), Serves l 0x70 s →
    (s.showStop.state = .stopped →
      exec (.showStop l tag) s = answered l 0x70 tag .accepted (u8 1) (reloadPresence l s)) ∧
    (s.showStop.state ≠ .stopped →
      ∃ t, exec (.showStop l tag) s = answered l 0x70 tag .accepted (u8 1) t ∧
        EntersShowStop false (reloadPresence l s) t ∧
        (s.relay.playing = [] → s.relay.waiting = [] → (∀ zn ∈ s.relay.zones, zn.carried = none) →
          t.relay.waiting = [] ∧
          (∃ c, t.relay.playing = [c] ∧ c.source = .announce ∧ c.priority = 4 ∧ c.depth = 600 ∧
            c.origin = .showStop ∧ c.id = s.relay.nextId) ∧
          ∀ z zn, t.zone? z = some zn → zn.carried = some s.relay.nextId ∧ zn.phase = .ducked))) ∧
  ∀ s : State, s.timing.inReset = false →
    (s.showStop.line = .asserted ∨ s.showStop.sampleNew = .deasserted ∨ s.showStop.sampleOld = .deasserted →
      exec .showstopAsserted s = .next s) ∧
    ∀ u : State, s.showStop.line = .deasserted → s.showStop.sampleNew = .asserted →
      s.showStop.sampleOld = .asserted → u = { s with showStop := { s.showStop with line := .asserted } } →
      (s.showStop.state = .stopped →
        exec .showstopAsserted s = .next (raise { kind := .lineChanged, reason := 1 } u)) ∧
      (s.showStop.state ≠ .stopped →
        ∃ t, exec .showstopAsserted s = .next t ∧ EntersShowStop true u t)

/-- RESUME is refused while the line is ASSERTED, changes nothing outside STOPPED, and in STOPPED ends the show-stop
call and fades the stop mute to 0 over tRESUME (R163, R164); SET STOP TIMES and SET ANNOUNCE with their clamps (R165);
and a change of the line to DEASSERTED, which leaves the show state (R159). A line row whose change is not due has no
effect (the model's choice, log 1). -/
def Obligations.ResumeAndStopSettings : Prop :=
  (∀ (l : Role) (tag : Byte) (s : State), Serves l 0x71 s →
    (s.showStop.line = .asserted →
      exec (.resume l tag) s = answered l 0x71 tag .lineActive [] (reloadPresence l s)) ∧
    (s.showStop.line = .deasserted → s.showStop.state ≠ .stopped →
      exec (.resume l tag) s =
        answered l 0x71 tag .accepted (u8 s.showStop.state.code) (reloadPresence l s)) ∧
    (s.showStop.line = .deasserted → s.showStop.state = .stopped → s.relay.waiting = [] →
      (∀ d ∈ s.relay.playing, d.source = .announce) → s.relay.playing.length ≤ 1 → s.fades.length ≤ 239 →
      ∃ t, exec (.resume l tag) s = answered l 0x71 tag .accepted (u8 t.showStop.state.code) t ∧
        t.relay.playing = [] ∧
        (∀ d ∈ s.relay.playing, ∀ z : ZoneNo, d.zones.getLsbD z = true → Released z s t) ∧
        (0 < s.showStop.tResume →
          t.showStop = { s.showStop with state := .resuming } ∧
          Newest { kind := .showResumed, reason := 0 } t ∧
          fadeFor .stopMute t = some { target := .stopMute, start := s.showStop.mute, goal := .db 0,
                                       n := s.showStop.tResume, k := 0, due := false, action := .nothing,
                                       poster := .showStop }) ∧
        (s.showStop.tResume = 0 →
          t.showStop = { s.showStop with state := .normal, mute := .db 0 } ∧ fadeFor .stopMute t = none ∧
          Newest { kind := .showResumed, reason := 1 } t))) ∧
  (∀ (l : Role) (tag : Byte) (s : State), Serves l 0x72 s →
    (∀ (stop resume : Half) (a b : Nat), a = min stop.toNat 5000 → b = min resume.toNat 10000 →
      exec (.setStopTimes l tag stop resume) s = answered l 0x72 tag .accepted (u16 a ++ u16 b)
        { reloadPresence l s with showStop := { s.showStop with tStop := a, tResume := b } }) ∧
    (∀ (input : Byte) (level : Half), 16 ≤ input.toNat → input ≠ 255 →
      exec (.setAnnounce l tag input level) s = answered l 0x73 tag .badField [] (reloadPresence l s)) ∧
    ∀ (input : Byte) (level : Half) (i : Option LiveNo) (x : Int),
      (input = 255 ∧ i = none ∨ ∃ n : LiveNo, n.val = input.toNat ∧ i = some n) →
      x = max (-300) (min 60 level.toInt) →
      exec (.setAnnounce l tag input level) s = answered l 0x73 tag .accepted (u8 input.toNat ++ i16 x)
        { reloadPresence l s with showStop := { s.showStop with announceIn := i, announceLevel := x } }) ∧
  ∀ s : State, s.timing.inReset = false →
    (s.showStop.line = .deasserted ∨ s.showStop.sampleNew = .asserted ∨ s.showStop.sampleOld = .asserted →
      exec .showstopDeasserted s = .next s) ∧
    (s.showStop.line = .asserted → s.showStop.sampleNew = .deasserted → s.showStop.sampleOld = .deasserted →
      exec .showstopDeasserted s = .next (raise { kind := .lineChanged, reason := 0 }
        { s with showStop := { s.showStop with line := .deasserted } }))

/-! ### Device reset -/

/-- RESET_n asserted ends the transfer, the voices, the fades, talk, the calls and the show stop at once and silences
the outputs (R19, R89, R107, R126, R139, R158, R167). Its release leaves every block at the reset values written out below
(R19, R37, R63, R89, R107, R125, R126, R139, R158, R167, R168); MHREQ is then taken on the idle bus (R19), and an asserted
SHOWSTOP_n leaves STOPPED with the stop mute OFF and the show-stop call (R167). The model's own: what stands unsaid between
the two edges and the waiting commands (log 2); `present`, `aligning`, `rx`, the line's samples and `sdo` (log 3); the
fields of a FREE voice beyond those of R89, stopped timers held as 0, and `arrivals` (log 19). -/
def Obligations.DeviceReset : Prop :=
  ∀ s : State,
    exec .resetAsserted s = .next { s with
      smi := { s.smi with port := .idle },
      stream := { s.stream with voices := Vector.replicate 32 Voice.freeRecord },
      fades := [],
      mix := { s.mix with txNext := Vector.replicate 32 0, tx := Vector.replicate 32 0 },
      foldback := { s.foldback with talk := none },
      relay := { s.relay with zones := [], waiting := [], playing := [], tails := [] },
      showStop := { s.showStop with state := .normal },
      timing := { s.timing with inReset := true } } ∧
    ∀ (x : Voice) (k : Link) (u : State),
      x = { state := .free, owner := .orphan, priority := 0, dest := .stem 0, group := 0, stopAtEnd := false, region := 0,
            inWord := 0, startLevel := .off, fadeIn := 0, next := 0, out := 0, loop := none, loops := 0, level := .off,
            startTime := 0, fetch := .none, buf := [], bufPos := 0, silence := 0, fifo := [], faultReported := false,
            underruns := 0 } →
      k = { attached := false, tPres := 3000, timer := 0, queue := [], lost := false, mask := 0, slot := none,
            sdo := [] } →
      u = { smi := { port := .idle, mhreq := false, lastServed := 31, load := none, regions := [], tacc := 200 },
            store := { state := .noShow, cues := [], scenes := [], holder := none },
            seq := { playhead := none, standby := false, instances := [], nextId := 1, stamp := none,
                     authority := .shared, standbyRequired := false, guardMs := 300 },
            stream := { voices := Vector.replicate 32 x, stemSat := Vector.replicate 24 0 },
            fades := [],
            mix := { classes := Vector.replicate 32 .unused, xpts := Vector.replicate 32 (Vector.replicate 40 .off),
                     trims := Vector.replicate 32 (.db 0), blanking := Vector.replicate 32 .opened,
                     meters := Vector.replicate 32 { peak := 0, clips := 0, reported := false },
                     clock := { state := .internal, present := false, qualified := 0, holdRate := none,
                                pacer := .oscillator, aligning := false },
                     rx := Vector.replicate 16 0, txNext := Vector.replicate 32 0, tx := Vector.replicate 32 0 },
            foldback := { modes := Vector.replicate 32 .independent,
                          offsets := Vector.replicate 32 (Vector.replicate 40 0),
                          ceilings := Vector.replicate 32 0, talk := none, lastEnd := none },
            relay := { zones := [], waiting := [], playing := [], tails := [], nextId := 1, arrivals := 0,
                       leveler := { target := -180, up := 1, down := 5, leap := 30, gate := -500 },
                       attack := 100, release := 1000, gateThreshold := -450, gateSeconds := 8, window := 0 },
            showStop := { state := .normal, mute := .db 0, line := .deasserted, sampleNew := .deasserted,
                          sampleOld := .deasserted, tStop := 500, tResume := 2000, announceIn := none,
                          announceLevel := 0 },
            links := { console := k, prompt := k, monitor := k },
            timing := { showClock := 0, frames := 0, inReset := false },
            pending := s.pending } →
      u = { State.reset with pending := s.pending } ∧
      exec (.resetReleased .deasserted false) s = .next u ∧
      exec (.resetReleased .deasserted true) s =
        .next { u with smi := { u.smi with port := .held, mhreq := true } } ∧
      ∀ w : State, w = { u with
          relay := { u.relay with
            playing := [{ id := 1, priority := 4, source := .announce, zones := 0, page := 0, depth := 600,
                          origin := .showStop, arrival := 0, gate := none }],
            nextId := 2, arrivals := 1 },
          showStop := { u.showStop with
            state := .stopped, mute := .off, line := .asserted, sampleNew := .asserted, sampleOld := .asserted } } →
        exec (.resetReleased .asserted false) s = .next w ∧
        exec (.resetReleased .asserted true) s =
          .next { w with smi := { w.smi with port := .held, mhreq := true } }
end

