-- ==== Sys2Proof/Laws/State.lean ====
section
/-! SUPPORT. What each record update of the shared operations leaves as it was: one lemma for each field, true by
unfolding, so that no proof unfolds an update. -/

namespace Sys2Proof.Machine

@[simp] theorem State.setLink_smi (s : State) (r : Role) (k : Link) : (s.setLink r k).smi = s.smi := rfl
@[simp] theorem State.setLink_store (s : State) (r : Role) (k : Link) : (s.setLink r k).store = s.store := rfl
@[simp] theorem State.setLink_seq (s : State) (r : Role) (k : Link) : (s.setLink r k).seq = s.seq := rfl
@[simp] theorem State.setLink_stream (s : State) (r : Role) (k : Link) : (s.setLink r k).stream = s.stream := rfl
@[simp] theorem State.setLink_fades (s : State) (r : Role) (k : Link) : (s.setLink r k).fades = s.fades := rfl
@[simp] theorem State.setLink_mix (s : State) (r : Role) (k : Link) : (s.setLink r k).mix = s.mix := rfl
@[simp] theorem State.setLink_foldback (s : State) (r : Role) (k : Link) : (s.setLink r k).foldback = s.foldback := rfl
@[simp] theorem State.setLink_relay (s : State) (r : Role) (k : Link) : (s.setLink r k).relay = s.relay := rfl
@[simp] theorem State.setLink_showStop (s : State) (r : Role) (k : Link) : (s.setLink r k).showStop = s.showStop := rfl
@[simp] theorem State.setLink_timing (s : State) (r : Role) (k : Link) : (s.setLink r k).timing = s.timing := rfl
@[simp] theorem State.setLink_pending (s : State) (r : Role) (k : Link) : (s.setLink r k).pending = s.pending := rfl

@[simp] theorem State.setVoice_smi (s : State) (v : VoiceNo) (x : Voice) : (s.setVoice v x).smi = s.smi := rfl
@[simp] theorem State.setVoice_store (s : State) (v : VoiceNo) (x : Voice) : (s.setVoice v x).store = s.store := rfl
@[simp] theorem State.setVoice_seq (s : State) (v : VoiceNo) (x : Voice) : (s.setVoice v x).seq = s.seq := rfl
@[simp] theorem State.setVoice_fades (s : State) (v : VoiceNo) (x : Voice) : (s.setVoice v x).fades = s.fades := rfl
@[simp] theorem State.setVoice_mix (s : State) (v : VoiceNo) (x : Voice) : (s.setVoice v x).mix = s.mix := rfl
@[simp] theorem State.setVoice_foldback (s : State) (v : VoiceNo) (x : Voice) : (s.setVoice v x).foldback = s.foldback := rfl
@[simp] theorem State.setVoice_relay (s : State) (v : VoiceNo) (x : Voice) : (s.setVoice v x).relay = s.relay := rfl
@[simp] theorem State.setVoice_showStop (s : State) (v : VoiceNo) (x : Voice) : (s.setVoice v x).showStop = s.showStop := rfl
@[simp] theorem State.setVoice_links (s : State) (v : VoiceNo) (x : Voice) : (s.setVoice v x).links = s.links := rfl
@[simp] theorem State.setVoice_timing (s : State) (v : VoiceNo) (x : Voice) : (s.setVoice v x).timing = s.timing := rfl
@[simp] theorem State.setVoice_pending (s : State) (v : VoiceNo) (x : Voice) : (s.setVoice v x).pending = s.pending := rfl

@[simp] theorem State.modifyZone_smi (s : State) (z : ZoneNo) (f : Zone → Zone) : (s.modifyZone z f).smi = s.smi := rfl
@[simp] theorem State.modifyZone_store (s : State) (z : ZoneNo) (f : Zone → Zone) : (s.modifyZone z f).store = s.store := rfl
@[simp] theorem State.modifyZone_seq (s : State) (z : ZoneNo) (f : Zone → Zone) : (s.modifyZone z f).seq = s.seq := rfl
@[simp] theorem State.modifyZone_stream (s : State) (z : ZoneNo) (f : Zone → Zone) : (s.modifyZone z f).stream = s.stream := rfl
@[simp] theorem State.modifyZone_fades (s : State) (z : ZoneNo) (f : Zone → Zone) : (s.modifyZone z f).fades = s.fades := rfl
@[simp] theorem State.modifyZone_mix (s : State) (z : ZoneNo) (f : Zone → Zone) : (s.modifyZone z f).mix = s.mix := rfl
@[simp] theorem State.modifyZone_foldback (s : State) (z : ZoneNo) (f : Zone → Zone) : (s.modifyZone z f).foldback = s.foldback := rfl
@[simp] theorem State.modifyZone_showStop (s : State) (z : ZoneNo) (f : Zone → Zone) : (s.modifyZone z f).showStop = s.showStop := rfl
@[simp] theorem State.modifyZone_links (s : State) (z : ZoneNo) (f : Zone → Zone) : (s.modifyZone z f).links = s.links := rfl
@[simp] theorem State.modifyZone_timing (s : State) (z : ZoneNo) (f : Zone → Zone) : (s.modifyZone z f).timing = s.timing := rfl
@[simp] theorem State.modifyZone_pending (s : State) (z : ZoneNo) (f : Zone → Zone) : (s.modifyZone z f).pending = s.pending := rfl

@[simp] theorem raise_smi (e : Event) (s : State) : (raise e s).smi = s.smi := rfl
@[simp] theorem raise_store (e : Event) (s : State) : (raise e s).store = s.store := rfl
@[simp] theorem raise_seq (e : Event) (s : State) : (raise e s).seq = s.seq := rfl
@[simp] theorem raise_stream (e : Event) (s : State) : (raise e s).stream = s.stream := rfl
@[simp] theorem raise_fades (e : Event) (s : State) : (raise e s).fades = s.fades := rfl
@[simp] theorem raise_mix (e : Event) (s : State) : (raise e s).mix = s.mix := rfl
@[simp] theorem raise_foldback (e : Event) (s : State) : (raise e s).foldback = s.foldback := rfl
@[simp] theorem raise_relay (e : Event) (s : State) : (raise e s).relay = s.relay := rfl
@[simp] theorem raise_showStop (e : Event) (s : State) : (raise e s).showStop = s.showStop := rfl
@[simp] theorem raise_timing (e : Event) (s : State) : (raise e s).timing = s.timing := rfl
@[simp] theorem raise_pending (e : Event) (s : State) : (raise e s).pending = s.pending := rfl

@[simp] theorem respond_smi (l : Role) (c t : Byte) (r : Reply) (s : State) : (respond l c t r s).smi = s.smi := rfl
@[simp] theorem respond_store (l : Role) (c t : Byte) (r : Reply) (s : State) : (respond l c t r s).store = s.store := rfl
@[simp] theorem respond_seq (l : Role) (c t : Byte) (r : Reply) (s : State) : (respond l c t r s).seq = s.seq := rfl
@[simp] theorem respond_stream (l : Role) (c t : Byte) (r : Reply) (s : State) : (respond l c t r s).stream = s.stream := rfl
@[simp] theorem respond_fades (l : Role) (c t : Byte) (r : Reply) (s : State) : (respond l c t r s).fades = s.fades := rfl
@[simp] theorem respond_mix (l : Role) (c t : Byte) (r : Reply) (s : State) : (respond l c t r s).mix = s.mix := rfl
@[simp] theorem respond_foldback (l : Role) (c t : Byte) (r : Reply) (s : State) : (respond l c t r s).foldback = s.foldback := rfl
@[simp] theorem respond_relay (l : Role) (c t : Byte) (r : Reply) (s : State) : (respond l c t r s).relay = s.relay := rfl
@[simp] theorem respond_showStop (l : Role) (c t : Byte) (r : Reply) (s : State) : (respond l c t r s).showStop = s.showStop := rfl
@[simp] theorem respond_timing (l : Role) (c t : Byte) (r : Reply) (s : State) : (respond l c t r s).timing = s.timing := rfl
@[simp] theorem respond_pending (l : Role) (c t : Byte) (r : Reply) (s : State) : (respond l c t r s).pending = s.pending := rfl

@[simp] theorem removeFade_smi (t : FadeTarget) (s : State) : (removeFade t s).smi = s.smi := rfl
@[simp] theorem removeFade_store (t : FadeTarget) (s : State) : (removeFade t s).store = s.store := rfl
@[simp] theorem removeFade_seq (t : FadeTarget) (s : State) : (removeFade t s).seq = s.seq := rfl
@[simp] theorem removeFade_stream (t : FadeTarget) (s : State) : (removeFade t s).stream = s.stream := rfl
@[simp] theorem removeFade_mix (t : FadeTarget) (s : State) : (removeFade t s).mix = s.mix := rfl
@[simp] theorem removeFade_foldback (t : FadeTarget) (s : State) : (removeFade t s).foldback = s.foldback := rfl
@[simp] theorem removeFade_relay (t : FadeTarget) (s : State) : (removeFade t s).relay = s.relay := rfl
@[simp] theorem removeFade_showStop (t : FadeTarget) (s : State) : (removeFade t s).showStop = s.showStop := rfl
@[simp] theorem removeFade_links (t : FadeTarget) (s : State) : (removeFade t s).links = s.links := rfl
@[simp] theorem removeFade_timing (t : FadeTarget) (s : State) : (removeFade t s).timing = s.timing := rfl
@[simp] theorem removeFade_pending (t : FadeTarget) (s : State) : (removeFade t s).pending = s.pending := rfl

@[simp] theorem removeInst_smi (id : Nat) (s : State) : (removeInst id s).smi = s.smi := rfl
@[simp] theorem removeInst_store (id : Nat) (s : State) : (removeInst id s).store = s.store := rfl
@[simp] theorem removeInst_stream (id : Nat) (s : State) : (removeInst id s).stream = s.stream := rfl
@[simp] theorem removeInst_fades (id : Nat) (s : State) : (removeInst id s).fades = s.fades := rfl
@[simp] theorem removeInst_mix (id : Nat) (s : State) : (removeInst id s).mix = s.mix := rfl
@[simp] theorem removeInst_foldback (id : Nat) (s : State) : (removeInst id s).foldback = s.foldback := rfl
@[simp] theorem removeInst_relay (id : Nat) (s : State) : (removeInst id s).relay = s.relay := rfl
@[simp] theorem removeInst_showStop (id : Nat) (s : State) : (removeInst id s).showStop = s.showStop := rfl
@[simp] theorem removeInst_links (id : Nat) (s : State) : (removeInst id s).links = s.links := rfl
@[simp] theorem removeInst_timing (id : Nat) (s : State) : (removeInst id s).timing = s.timing := rfl
@[simp] theorem removeInst_pending (id : Nat) (s : State) : (removeInst id s).pending = s.pending := rfl

@[simp] theorem modifyInst_smi (id : Nat) (f : CueInstance → CueInstance) (s : State) : (modifyInst id f s).smi = s.smi := rfl
@[simp] theorem modifyInst_store (id : Nat) (f : CueInstance → CueInstance) (s : State) : (modifyInst id f s).store = s.store := rfl
@[simp] theorem modifyInst_stream (id : Nat) (f : CueInstance → CueInstance) (s : State) : (modifyInst id f s).stream = s.stream := rfl
@[simp] theorem modifyInst_fades (id : Nat) (f : CueInstance → CueInstance) (s : State) : (modifyInst id f s).fades = s.fades := rfl
@[simp] theorem modifyInst_mix (id : Nat) (f : CueInstance → CueInstance) (s : State) : (modifyInst id f s).mix = s.mix := rfl
@[simp] theorem modifyInst_foldback (id : Nat) (f : CueInstance → CueInstance) (s : State) : (modifyInst id f s).foldback = s.foldback := rfl
@[simp] theorem modifyInst_relay (id : Nat) (f : CueInstance → CueInstance) (s : State) : (modifyInst id f s).relay = s.relay := rfl
@[simp] theorem modifyInst_showStop (id : Nat) (f : CueInstance → CueInstance) (s : State) : (modifyInst id f s).showStop = s.showStop := rfl
@[simp] theorem modifyInst_links (id : Nat) (f : CueInstance → CueInstance) (s : State) : (modifyInst id f s).links = s.links := rfl
@[simp] theorem modifyInst_timing (id : Nat) (f : CueInstance → CueInstance) (s : State) : (modifyInst id f s).timing = s.timing := rfl
@[simp] theorem modifyInst_pending (id : Nat) (f : CueInstance → CueInstance) (s : State) : (modifyInst id f s).pending = s.pending := rfl

@[simp] theorem removeCall_smi (id : Nat) (s : State) : (removeCall id s).smi = s.smi := rfl
@[simp] theorem removeCall_store (id : Nat) (s : State) : (removeCall id s).store = s.store := rfl
@[simp] theorem removeCall_seq (id : Nat) (s : State) : (removeCall id s).seq = s.seq := rfl
@[simp] theorem removeCall_stream (id : Nat) (s : State) : (removeCall id s).stream = s.stream := rfl
@[simp] theorem removeCall_fades (id : Nat) (s : State) : (removeCall id s).fades = s.fades := rfl
@[simp] theorem removeCall_mix (id : Nat) (s : State) : (removeCall id s).mix = s.mix := rfl
@[simp] theorem removeCall_foldback (id : Nat) (s : State) : (removeCall id s).foldback = s.foldback := rfl
@[simp] theorem removeCall_showStop (id : Nat) (s : State) : (removeCall id s).showStop = s.showStop := rfl
@[simp] theorem removeCall_links (id : Nat) (s : State) : (removeCall id s).links = s.links := rfl
@[simp] theorem removeCall_timing (id : Nat) (s : State) : (removeCall id s).timing = s.timing := rfl
@[simp] theorem removeCall_pending (id : Nat) (s : State) : (removeCall id s).pending = s.pending := rfl

@[simp] theorem orphanVoices_smi (id : Nat) (s : State) : (orphanVoices id s).smi = s.smi := rfl
@[simp] theorem orphanVoices_store (id : Nat) (s : State) : (orphanVoices id s).store = s.store := rfl
@[simp] theorem orphanVoices_seq (id : Nat) (s : State) : (orphanVoices id s).seq = s.seq := rfl
@[simp] theorem orphanVoices_fades (id : Nat) (s : State) : (orphanVoices id s).fades = s.fades := rfl
@[simp] theorem orphanVoices_mix (id : Nat) (s : State) : (orphanVoices id s).mix = s.mix := rfl
@[simp] theorem orphanVoices_foldback (id : Nat) (s : State) : (orphanVoices id s).foldback = s.foldback := rfl
@[simp] theorem orphanVoices_relay (id : Nat) (s : State) : (orphanVoices id s).relay = s.relay := rfl
@[simp] theorem orphanVoices_showStop (id : Nat) (s : State) : (orphanVoices id s).showStop = s.showStop := rfl
@[simp] theorem orphanVoices_links (id : Nat) (s : State) : (orphanVoices id s).links = s.links := rfl
@[simp] theorem orphanVoices_timing (id : Nat) (s : State) : (orphanVoices id s).timing = s.timing := rfl
@[simp] theorem orphanVoices_pending (id : Nat) (s : State) : (orphanVoices id s).pending = s.pending := rfl

@[simp] theorem setMode_smi (o : OutputNo) (m : FoldMode) (s : State) : (setMode o m s).smi = s.smi := rfl
@[simp] theorem setMode_store (o : OutputNo) (m : FoldMode) (s : State) : (setMode o m s).store = s.store := rfl
@[simp] theorem setMode_seq (o : OutputNo) (m : FoldMode) (s : State) : (setMode o m s).seq = s.seq := rfl
@[simp] theorem setMode_stream (o : OutputNo) (m : FoldMode) (s : State) : (setMode o m s).stream = s.stream := rfl
@[simp] theorem setMode_fades (o : OutputNo) (m : FoldMode) (s : State) : (setMode o m s).fades = s.fades := rfl
@[simp] theorem setMode_mix (o : OutputNo) (m : FoldMode) (s : State) : (setMode o m s).mix = s.mix := rfl
@[simp] theorem setMode_relay (o : OutputNo) (m : FoldMode) (s : State) : (setMode o m s).relay = s.relay := rfl
@[simp] theorem setMode_showStop (o : OutputNo) (m : FoldMode) (s : State) : (setMode o m s).showStop = s.showStop := rfl
@[simp] theorem setMode_links (o : OutputNo) (m : FoldMode) (s : State) : (setMode o m s).links = s.links := rfl
@[simp] theorem setMode_timing (o : OutputNo) (m : FoldMode) (s : State) : (setMode o m s).timing = s.timing := rfl
@[simp] theorem setMode_pending (o : OutputNo) (m : FoldMode) (s : State) : (setMode o m s).pending = s.pending := rfl

@[simp] theorem freeVoice_smi (v : VoiceNo) (s : State) : (freeVoice v s).smi = s.smi := rfl
@[simp] theorem freeVoice_store (v : VoiceNo) (s : State) : (freeVoice v s).store = s.store := rfl
@[simp] theorem freeVoice_seq (v : VoiceNo) (s : State) : (freeVoice v s).seq = s.seq := rfl
@[simp] theorem freeVoice_mix (v : VoiceNo) (s : State) : (freeVoice v s).mix = s.mix := rfl
@[simp] theorem freeVoice_foldback (v : VoiceNo) (s : State) : (freeVoice v s).foldback = s.foldback := rfl
@[simp] theorem freeVoice_showStop (v : VoiceNo) (s : State) : (freeVoice v s).showStop = s.showStop := rfl
@[simp] theorem freeVoice_links (v : VoiceNo) (s : State) : (freeVoice v s).links = s.links := rfl
@[simp] theorem freeVoice_timing (v : VoiceNo) (s : State) : (freeVoice v s).timing = s.timing := rfl
@[simp] theorem freeVoice_pending (v : VoiceNo) (s : State) : (freeVoice v s).pending = s.pending := rfl

/-! ### Reading what was written -/

@[simp] theorem Links.get_set_self (ls : Links) (r : Role) (k : Link) : (ls.set r k).get r = k := by
  cases r <;> rfl

theorem Links.get_set_ne (ls : Links) (r q : Role) (k : Link) (h : q ≠ r) : (ls.set r k).get q = ls.get q := by
  cases r <;> cases q <;> first | rfl | exact absurd rfl h

@[simp] theorem Links.get_map (ls : Links) (f : Link → Link) (r : Role) : (ls.map f).get r = f (ls.get r) := by
  cases r <;> rfl

@[simp] theorem State.link_setLink_self (s : State) (r : Role) (k : Link) : (s.setLink r k).link r = k := by
  cases r <;> rfl

theorem State.link_setLink_ne (s : State) (r q : Role) (k : Link) (h : q ≠ r) : (s.setLink r k).link q = s.link q :=
  Links.get_set_ne s.links r q k h

@[simp] theorem State.voice_setVoice_self (s : State) (v : VoiceNo) (x : Voice) : (s.setVoice v x).voice v = x := by
  simp [State.voice, State.setVoice]

theorem State.voice_setVoice_ne (s : State) (v w : VoiceNo) (x : Voice) (h : w ≠ v) :
    (s.setVoice v x).voice w = s.voice w := by
  have : v.val ≠ w.val := fun e => h (Fin.ext e.symm)
  simp [State.voice, State.setVoice, this]

@[simp] theorem State.voice_setLink (s : State) (r : Role) (k : Link) (v : VoiceNo) :
    (s.setLink r k).voice v = s.voice v := rfl

@[simp] theorem State.link_setVoice (s : State) (v : VoiceNo) (x : Voice) (r : Role) :
    (s.setVoice v x).link r = s.link r := rfl

@[simp] theorem voice_raise (e : Event) (s : State) (v : VoiceNo) : (raise e s).voice v = s.voice v := rfl

@[simp] theorem voice_respond (l : Role) (c t : Byte) (r : Reply) (s : State) (v : VoiceNo) :
    (respond l c t r s).voice v = s.voice v := rfl

end Sys2Proof.Machine
end

