-- ==== Sys2Proof/Laws/Ops.lean ====
section
/-! SUPPORT. What each shared operation can do, said once: raising an event (R174), answering a request (R169, R170),
posting and removing a fade (R91 to R93), the decoder (R76), blanking ramps (R117) and the vectors of the state. -/

namespace Sys2Proof.Machine

/-! ### Vectors -/

@[simp] theorem getElem_mapVec {α β : Type} {n : Nat} (f : α → β) (v : Vector α n) (i : Nat) (h : i < n) :
    (mapVec f v)[i] = f v[i] := by
  simp only [mapVec, Vector.getElem_mk, List.getElem_toArray, List.getElem_map, Vector.getElem_toList]

@[simp] theorem getElem_tabulate {α : Type} {n : Nat} (f : Fin n → α) (i : Nat) (h : i < n) :
    (tabulate n f)[i] = f ⟨i, h⟩ := by
  simp only [tabulate, Vector.getElem_mk, List.getElem_toArray, List.getElem_map, List.getElem_finRange]
  rfl

/-! ### Events (R174) -/

@[simp] theorem link_raise (e : Event) (s : State) (r : Role) :
    (raise e s).link r = Link.append { e with clock := s.timing.showClock } (s.link r) := by
  cases r <;> rfl

/-- Events raised one after another reach a link in their order, at one show clock. -/
theorem link_raise_foldl (es : List Event) (s : State) (r : Role) :
    (es.foldl (fun t e => raise e t) s).link r =
      es.foldl (fun k e => Link.append { e with clock := s.timing.showClock } k) (s.link r) := by
  induction es generalizing s with
  | nil => rfl
  | cons e es ih =>
    have clock : (raise e s).timing.showClock = s.timing.showClock := rfl
    simpa only [List.foldl_cons, link_raise, clock] using ih (raise e s)

/-- A raised record reaches a link in one of three ways. -/
theorem Link.append_cases (e : Event) (k : Link) :
    (k.attached = true ∧ k.queue.length < Config.queueRecords ∧ k.append e = { k with queue := k.queue ++ [e] }) ∨
    (k.attached = true ∧ Config.queueRecords ≤ k.queue.length ∧ k.append e = { k with lost := true }) ∨
    (k.attached = false ∧ k.append e = k) := by
  unfold Link.append
  cases h : k.attached with
  | true =>
    by_cases hq : k.queue.length < Config.queueRecords
    · exact .inl ⟨rfl, hq, by simp [hq]⟩
    · exact .inr (.inl ⟨rfl, Nat.le_of_not_lt hq, by simp [hq]⟩)
  | false => exact .inr (.inr ⟨rfl, by simp⟩)

@[simp] theorem Link.append_attached (e : Event) (k : Link) : (k.append e).attached = k.attached := by
  rcases Link.append_cases e k with ⟨_, _, h⟩ | ⟨_, _, h⟩ | ⟨_, h⟩ <;> rw [h]

@[simp] theorem Link.append_tPres (e : Event) (k : Link) : (k.append e).tPres = k.tPres := by
  rcases Link.append_cases e k with ⟨_, _, h⟩ | ⟨_, _, h⟩ | ⟨_, h⟩ <;> rw [h]

@[simp] theorem Link.append_slot (e : Event) (k : Link) : (k.append e).slot = k.slot := by
  rcases Link.append_cases e k with ⟨_, _, h⟩ | ⟨_, _, h⟩ | ⟨_, h⟩ <;> rw [h]

@[simp] theorem Link.append_mask (e : Event) (k : Link) : (k.append e).mask = k.mask := by
  rcases Link.append_cases e k with ⟨_, _, h⟩ | ⟨_, _, h⟩ | ⟨_, h⟩ <;> rw [h]

@[simp] theorem Link.append_timer (e : Event) (k : Link) : (k.append e).timer = k.timer := by
  rcases Link.append_cases e k with ⟨_, _, h⟩ | ⟨_, _, h⟩ | ⟨_, h⟩ <;> rw [h]

/-! ### Requests (R169, R170) -/

@[simp] theorem link_respond_self (l : Role) (c t : Byte) (r : Reply) (s : State) :
    (respond l c t r s).link l = { s.link l with slot := some ⟨c, t, r.result, r.payload⟩ } := by
  simp [respond]

/-- An event of the part is taken while RESET_n is not asserted. -/
theorem occur_running (f : State → State) (s : State) (h : s.timing.inReset = false) : occur f s = f s := by
  simp [occur, h]

/-- Nothing is taken while RESET_n is asserted (log 2). -/
theorem serve_inReset (l : Role) (c t : Byte) (body : State → State × Reply) (s : State)
    (h : s.timing.inReset = true) : serve l c t body s = s := by
  simp [serve, h]

/-- A request on a DETACHED link, other than ATTACH and READ STATUS, is answered NOT_ATTACHED. -/
theorem serve_detached (l : Role) (c t : Byte) (body : State → State × Reply) (s : State)
    (h : s.timing.inReset = false) (hd : (s.link l).attached = false) (h1 : c ≠ 0x01#8) (h6 : c ≠ 0x06#8) :
    serve l c t body s = respond l c t ⟨.notAttached, []⟩ s := by
  simp [serve, h, hd, h1, h6]

/-- A request that the permissions table does not grant is answered NOT_PERMITTED after the presence reload. -/
theorem serve_notPermitted (l : Role) (c t : Byte) (body : State → State × Reply) (s : State)
    (h : s.timing.inReset = false) (ha : (s.link l).attached = true) (hp : permitted c l = false) :
    serve l c t body s = respond l c t ⟨.notPermitted, []⟩ (reloadPresence l s) := by
  simp [serve, h, ha, hp]

/-- A request that passes reaches the owning block after the presence reload, and its answer goes to the slot. -/
theorem serve_passed (l : Role) (c t : Byte) (body : State → State × Reply) (s : State)
    (h : s.timing.inReset = false) (ha : (s.link l).attached = true) (hp : permitted c l = true) :
    serve l c t body s = respond l c t (body (reloadPresence l s)).2 (body (reloadPresence l s)).1 := by
  simp [serve, h, ha, hp]

/-- The presence reload of an ATTACHED link (R170). -/
theorem reloadPresence_attached (l : Role) (s : State) (h : (s.link l).attached = true) :
    reloadPresence l s = s.setLink l { s.link l with timer := (s.link l).tPres } := by
  simp [reloadPresence, h]

/-- The presence timer of a DETACHED link does not run (R168). -/
theorem reloadPresence_detached (l : Role) (s : State) (h : (s.link l).attached = false) : reloadPresence l s = s := by
  simp [reloadPresence, h]

/-! ### Fades (R91 to R93) -/

/-- A post is taken by the first case of R92 that applies. -/
theorem postFade_cases (p : Post) (s : State) :
    (p.time = 0 ∧ postFade p s =
      (reportTarget p.target (completeAtOnce p (removeFade p.target (setLevel p.target p.goal s))), .setAtOnce)) ∨
    (p.time ≠ 0 ∧ (fadeFor p.target s).isSome = true ∧ postFade p s =
      ({ s with fades := s.fades.map fun e => if e.target == p.target then p.entry s else e }, .takenOver)) ∨
    (p.time ≠ 0 ∧ fadeFor p.target s = none ∧ s.fades.length < Config.maxFades ∧ postFade p s =
      ({ s with fades := s.fades ++ [p.entry s] }, .posted)) ∨
    (p.time ≠ 0 ∧ fadeFor p.target s = none ∧ Config.maxFades ≤ s.fades.length ∧ postFade p s =
      (snapFade p s, .snapped)) := by
  unfold postFade
  by_cases h0 : p.time = 0
  · exact .inl ⟨h0, by simp [h0]⟩
  · cases hf : fadeFor p.target s with
    | some e => exact .inr (.inl ⟨h0, rfl, by simp [h0]⟩)
    | none =>
      by_cases hl : s.fades.length < Config.maxFades
      · exact .inr (.inr (.inl ⟨h0, rfl, hl, by simp [h0, hl]⟩))
      · exact .inr (.inr (.inr ⟨h0, rfl, Nat.le_of_not_lt hl, by simp [h0, hl]⟩))

/-- A target's entry is the first of the list with that target. -/
theorem fadeFor_some {t : FadeTarget} {s : State} {e : FadeEntry} (h : fadeFor t s = some e) :
    e ∈ s.fades ∧ e.target = t :=
  ⟨List.mem_of_find?_eq_some h, by simpa using List.find?_some h⟩

/-- Nothing of a target is left after its removal (R96). -/
@[simp] theorem fadeFor_removeFade_self (t : FadeTarget) (s : State) : fadeFor t (removeFade t s) = none := by
  simp [fadeFor, removeFade, List.find?_eq_none]

/-! ### The decoder (R76) -/

/-- The decoder places no more entries than there is room for. -/
theorem decodeWords_fits (room pos : Nat) (ws : List Word) : (decodeWords room pos ws).entries.length ≤ room := by
  induction ws generalizing room pos with
  | nil => simp [decodeWords]
  | cons w ws ih =>
    unfold decodeWords
    split
    · simp
    · cases streamWord w with
      | audio x => have := ih (room - 1) (pos + 1); simp [Decoded.before]; omega
      | marker id => have := ih (room - 1) (pos + 1); simp [Decoded.before]; omega
      | reserved => have := ih (room - 1) (pos + 1); simp [Decoded.before]; omega
      | silence n =>
        by_cases h : n ≤ room
        · have := ih (room - n) (pos + 1); simp [Decoded.before, zeroFrames, h]; omega
        · simp [zeroFrames, h]

/-! ### Blanking (R116, R117) -/

/-- A blanking state after a frame: where it stood, one position on, or at the end of its ramp. -/
theorem Blanking.advance_cases (b : Blanking) :
    (b.advance = b ∧ (b = .opened ∨ b = .blanked)) ∨
    (∃ c, b = .closing c ∧
      (c + 1 < 240 ∧ b.advance = .closing (c + 1) ∨ 240 ≤ c + 1 ∧ b.advance = .blanked)) ∨
    (∃ p, b = .opening p ∧
      (p + 1 < 240 ∧ b.advance = .opening (p + 1) ∨ 240 ≤ p + 1 ∧ b.advance = .opened)) := by
  cases b with
  | opened => exact .inl ⟨rfl, .inl rfl⟩
  | blanked => exact .inl ⟨rfl, .inr rfl⟩
  | closing c =>
    refine .inr (.inl ⟨c, rfl, ?_⟩)
    by_cases h : c + 1 < 240 <;> simp [Blanking.advance, Config.rampFrames, h]; omega
  | opening p =>
    refine .inr (.inr ⟨p, rfl, ?_⟩)
    by_cases h : p + 1 < 240 <;> simp [Blanking.advance, Config.rampFrames, h]; omega

/-- A ramp position is below 240 after every frame (R116). -/
theorem Blanking.advance_pos (b : Blanking) : b.advance.pos < 240 := by
  rcases b.advance_cases with ⟨h, rfl | rfl⟩ | ⟨c, _, ⟨hc, h⟩ | ⟨_, h⟩⟩ | ⟨p, _, ⟨hp, h⟩ | ⟨_, h⟩⟩ <;>
    rw [h] <;> simp [Blanking.pos] <;> omega

end Sys2Proof.Machine
end

