-- ==== Sys2Proof/Tests/Slice0.lean ====
section
/-! SUPPORT. The model's own tests: ill-formed commands, the spec's worked examples, and for each statement that has
hypotheses a state and operands that meet them, with the answer that the command gives there. -/

namespace Sys2Proof.Tests

open Sys2Proof Sys2Proof.Machine

-- One proof after another: the stacks of many kernel checks at once do not fit the sandbox.
set_option Elab.async false

/-! ### A small show -/

/-- A cue number from its major number and point. -/
def cn (m p : Nat) : CueNum := .ofNat 24 (256 * m + p)

/-- An ATTACHED link. -/
def up : Link := { Link.reset with attached := true, timer := 1200 }

/-- A PLAY action on region 0. -/
def playSpec : PlaySpec :=
  { region := 0, inWord := 4, out := none, loop := none, loops := 0, stem := 3, priority := 1, level := .db (-60),
    fadeIn := 0, group := 5, stopAtEnd := false }

/-- A cue of a number, trigger, pre-wait and actions. -/
def cueAt (n : CueNum) (tr : Trigger) (pre : Nat) (acts : List Action) : Cue :=
  { num := n, label := [0x41], trigger := tr, preWait := pre, followDelay := 0, actions := acts }

/-- Cue 1.0 waits, cue 2.0 follows nothing and has nothing to do, cue 3.0 has a GO trigger and a voice. -/
def cues : List Cue :=
  [cueAt (cn 1 0) .go 40 [], cueAt (cn 2 0) (.marker (cn 9 0) 1) 0 [], cueAt (cn 3 0) .go 0 [.play playSpec]]

/-- A zone with no call. -/
def zoneOn (o : OutputNo) : Zone :=
  { output := o, leveler := 0, duck := 0, phase := .clear, peak := 0, carried := none }

/-- A READY show: O0 MAIN, O1 FOLDBACK, O2 and O3 RELAY, two regions, three cues, one scene, all links ATTACHED, the
edit hold with CONSOLE and the playhead on cue 1.0. -/
def show0 : State :=
  { State.reset with
    smi := { State.reset.smi with regions := [⟨100, 1000⟩, ⟨0, 16⟩] },
    store := { state := .ready, cues := cues, scenes := [⟨7, [⟨0, 0, .db (-30)⟩]⟩], holder := some .console },
    seq := { State.reset.seq with playhead := some (cn 1 0) },
    mix := { State.reset.mix with
      classes := (((State.reset.mix.classes.set 0 .main).set 1 .foldback).set 2 .relay).set 3 .relay },
    relay := { State.reset.relay with zones := [zoneOn 2, zoneOn 3] },
    links := { console := up, prompt := up, monitor := up } }

/-- The state that a command leaves. -/
def run (c : Instr) (s : State) : State :=
  match exec c s with
  | .next t => t
  | _ => s

/-- The result and payload that a link's slot holds. -/
def answer (l : Role) (s : State) : Option (Result × List Byte) := (s.link l).slot.map fun r => (r.result, r.payload)

/-- The kinds in a link's queue. -/
def kinds (l : Role) (s : State) : List EventKind := (s.link l).queue.map (·.kind)

/-- A link's request reaches its block in every state with the links and the time of `show0`. -/
theorem serves_of {s : State} {l : Role} {code : Byte} (hl : s.links = show0.links) (ht : s.timing = show0.timing)
    (hp : permitted code l = true) : Serves l code s :=
  ⟨by rw [ht]; rfl, by unfold State.link; rw [hl]; cases l <;> rfl, hp⟩
/-- Every request that the table grants reaches its block in `show0`, and in `show0` with other contents. -/
theorem witness_Serves (l : Role) (code : Byte) (hp : permitted code l = true) : Serves l code show0 :=
  serves_of rfl rfl hp

/-! ### Ill-formed commands -/

theorem test_badFrame_wellFormed :
    (Instr.badFrame .console [0x10, 0x01, 0x07, 0, 0]).wellFormed = true ∧
      (Instr.badFrame .console [0x10, 0x01, 0x07, 0, 1, 1]).wellFormed = false := by decide
theorem test_unknownRequest_wellFormed :
    (Instr.unknownRequest .prompt 0x7F 1).wellFormed = true ∧ (Instr.unknownRequest .prompt 0x20 1).wellFormed = false := by
  decide
theorem test_putCue_wellFormed :
    (Instr.putCue .console 1 []).wellFormed = false ∧ (Instr.putCue .console 1 [0x000B0000]).wellFormed = false ∧
      (Instr.putScene .console 1 [0x00030001, 5]).wellFormed = false ∧
      (Instr.putScene .console 1 [0x00030001, 5, 0]).wellFormed = true := by decide
theorem test_transfer_wellFormed :
    (Instr.voiceFetchComplete []).wellFormed = false ∧ (Instr.loadReadComplete []).wellFormed = false ∧
      (Instr.voiceFetchComplete [0]).wellFormed = true := by decide
theorem test_ids_wellFormed :
    (Instr.prewaitEnd 0).wellFormed = false ∧ (Instr.followExpiry 0).wellFormed = false ∧
      (Instr.callGateExpiry 0).wellFormed = false := by decide
theorem test_audioFrame_wellFormed :
    (Instr.audioFrame (Vector.replicate 16 0) [1, 1]).wellFormed = false ∧
      (Instr.audioFrame (Vector.replicate 16 0) [1, 0]).wellFormed = true := by decide
theorem test_table_words_spell_nothing :
    decodeTableWord 0 0 = none ∧ (State.reset.withFetchWord 8 0x20).pending = [] := by decide

/-! ### Frames (R169, R170, R178) -/

/-- GO with the expected number 3.0 and tag 0x5A, written out from R178. -/
theorem test_decode_go :
    decodeTransaction .prompt [0x10, 0x20, 0x5A, 0, 3, 0, 3, 0] = .go .prompt 0x5A (some (cn 3 0)) ∧
      decodeTransaction .prompt [0x10, 0x20, 0x5A, 0, 0] = .go .prompt 0x5A none ∧
      decodeTransaction .prompt [0x20] = .readResponse .prompt ∧
      decodeTransaction .console [0x10, 0x40, 1, 0, 8, 0x19, 2, 0xFF, 0xC4, 0, 0, 0x07, 0xD0] =
        .setLevel .console 1 0x19 2 0xFFC4 2000 := by decide
/-- A transaction with no byte is answered as a malformed frame (log 27). -/
theorem test_decode_nothing :
    decodeTransaction .prompt [] = .badFrame .prompt [] ∧
      answer .prompt (run (.badFrame .prompt []) show0) = some (.badFrame, []) := by decide
theorem witness_DecodeOfEncode :
    (Instr.setLevel .console 1 0x19 2 0xFFC4 2000).wellFormed = true ∧
      (Instr.setLevel .console 1 0x19 2 0xFFC4 2000).sender = some .console ∧
      encodeTransaction (.setLevel .console 1 0x19 2 0xFFC4 2000) =
        some [0x10, 0x40, 1, 0, 8, 0x19, 2, 0xFF, 0xC4, 0, 0, 0x07, 0xD0] := by decide

/-! ### Levels and gains: the worked examples of chapter 5 -/

theorem test_gains :
    gainOf 0 = 16384 ∧ gainOf (-60) = 8211 ∧ gainOf (-610) = 15 ∧ gainOf (-580) = 21 ∧ gainOf 20 = 20626 ∧
      gainOf (-200) = 1638 ∧ magnitudeOf (-30) = 5938679 := by decide
theorem test_products :
    product 2000000 8211 = 1002319 ∧ product (-8192) 8211 = -4105 ∧ product 1002319 8211 = 502322 ∧
      product 3000000 1638 = 299927 ∧ product 802249 20626 = 1009960 := by decide
theorem test_ramps :
    scale240 1002319 239 = 998142 ∧ scale240 1002319 120 = 501159 ∧ scale240 4000000 239 = 3983333 ∧
      scale240 4000000 181 = 3016666 := by decide
theorem test_fade_steps :
    fadeLevel (.db (-200)) (.db (-600)) 8 3000 = .db (-201) ∧ fadeLevel (.db (-200)) .off 3000 3000 = .off := by decide
theorem test_ceiling : clampCeiling (-30) (sat24 9000000) = 5938679 := by decide
theorem witness_GainAndMagnitude : (-960 : Int) ≤ -960 ∧ gainOf (-960) = 0 ∧ gainOf 120 = 65226 ∧ magnitudeOf 0 = 8388607 := by
  decide
theorem witness_FadeLevelLaw : (7 : Nat) < 10 ∧ fadeLevel .off (.db 0) 7 10 = .db (-288) ∧
    fadeLevel (.db 0) .off 7 10 = .db (-672) := by decide
/-! ### The whole part -/

theorem witness_StepTakesFront : State.reset.pending = [] := rfl
/-- A command that waits in front of `show0`, for the statements about a step. -/
theorem witness_StepKeeps (c : Instr) (t : State) (h : exec c show0 = .next t) :
    step { show0 with pending := [c] } = exec c { show0 with pending := [] } ∧ exec c show0 = .next t := ⟨rfl, h⟩
theorem witness_LinksOk : LinksOk show0 := by
  refine ⟨by unfold Link.ok; decide, by unfold Link.ok; decide, by unfold Link.ok; decide, ?_, ?_⟩
  · intro r _; cases r <;> rfl
  · intro ld h; cases h
theorem witness_FadesOk : FadesOk show0 := by unfold FadesOk; decide
theorem witness_FifosOk : FifosOk show0 := by unfold FifosOk; decide
theorem witness_PlayheadOk : PlayheadOk show0 := by intro n h; cases h; decide
theorem witness_TableOk : TableOk show0 := by unfold TableOk; decide
theorem witness_StoreOk : StoreOk show0 := by
  refine ⟨by decide, by decide, by decide, by decide, by decide, by decide, ?_⟩
  intro ld h hl; cases hl
theorem witness_SettingsHaveTheirWriters :
    (run (.go .prompt 1 none) show0).seq.stamp ≠ show0.seq.stamp ∧
      (run (.setOffset .console 1 0 1 5) show0).foldback.offsets ≠ show0.foldback.offsets ∧
      (run (.setCeiling .console 1 1 0xFFE2) show0).foldback.ceilings ≠ show0.foldback.ceilings ∧
      (run (.setAccessDelay .console 1 99) show0).smi.tacc = 90 ∧
      (run (.setLeveler .console 1 ⟨0, 0, 0, 0, 0⟩) show0).relay.leveler ≠ show0.relay.leveler ∧
      (run (.setStopTimes .prompt 1 0 0) show0).showStop.tStop = 0 ∧
      (run (.setPresence .monitor 1 0) show0).links.monitor.tPres = 250 := by decide
theorem witness_SettingsHaveTheirWriters_zones :
    show0.zone? 1 = some (zoneOn 3) ∧ (run .windowEnd show0).zone? 1 = some (zoneOn 3) ∧
      zoneHeld { show0 with showStop := { show0.showStop with state := .resuming } } (zoneOn 3) = true := by decide
theorem witness_MonitorReachesFoldbackOnly :
    (Instr.setTrim .monitor 1 0 0 0).sender = some .monitor ∧ show0.mix.classes[0] ≠ .foldback ∧
      answer .monitor (run (.setTrim .monitor 1 0 0 0) show0) = some (.notPermitted, []) ∧
      (run (.setTrim .monitor 1 1 0xFFE2 0) show0).mix.trims[1] = .db (-30) := by decide
theorem witness_MonitorReachesFoldbackOnly_fades :
    (run (.setTrim .monitor 1 1 0xFFE2 5) show0).fades.map (·.target) = [.trim 1] ∧
      (run (.setTrim .monitor 1 0 0xFFE2 5) show0).fades = [] ∧
      (run (.setLevel .monitor 1 7 2 0 5) show0).fades = [] := by decide

/-- The cue of a record within its ranges at their ends. -/
def wideCue : Cue :=
  { num := cn 9999 9, label := [0x20, 0x7E], trigger := .marker (cn 1 0) 255, preWait := 600000, followDelay := 600000,
    actions := [.play { region := 1023, inWord := 16777215, out := some 16777216, loop := some 16777215, loops := 255,
                        stem := 23, priority := 2, level := .off, fadeIn := 600000, group := 63, stopAtEnd := true },
      .stop (.cue (cn 1 0)) 600000, .voiceFade 63 (.db (-960)) 0 true, .level 39 31 (.db 100) 1, .scene 999 0,
      .trim 31 .off 0, .foldbackMode 31 (.follow 31),
      .call { region := 0, inWord := 0, out := none, zones := 0x8000, priority := 3, page := 60, depth := 600 }] }
theorem witness_RecordsReadBack_cue : CueOk wideCue := by
  refine ⟨by decide, by decide, by decide, ?_, by unfold TimeOk; decide, by unfold TimeOk; decide, by decide, ?_⟩
  · show validCueNum (cn 1 0) = true; decide
  · intro a ha
    simp only [wideCue, List.mem_cons, List.not_mem_nil, or_false] at ha
    rcases ha with rfl | rfl | rfl | rfl | rfl | rfl | rfl | rfl <;>
      (simp [ActionOk, PlayOk, CallOk, OptionalOk, LevelOk, TimeOk, StopTargetOk, Config.maxTime]; try decide)
theorem witness_RecordsReadBack_words :
    readCueRecord [] wideCue.words = .ok wideCue ∧ wideCue.words.length = 59 ∧
      (∀ a ∈ wideCue.actions, wordCheck [] a = true) := by decide
theorem witness_RecordsReadBack_scene :
    SceneOk ⟨999, [⟨39, 31, .off⟩, ⟨0, 0, .db 100⟩]⟩ ∧
      readSceneRecord (Scene.words ⟨999, [⟨39, 31, .off⟩, ⟨0, 0, .db 100⟩]⟩) = .ok ⟨999, [⟨39, 31, .off⟩, ⟨0, 0, .db 100⟩]⟩ := by
  refine ⟨⟨by decide, by decide, by decide, by decide, by decide, ?_⟩, by decide⟩
  intro e he
  simp only [List.mem_cons, List.not_mem_nil, or_false] at he
  rcases he with rfl | rfl
  · exact .inl rfl
  · exact .inr ⟨100, rfl, by decide, by decide⟩

/-- Fields out of their ranges, a pair named twice, 17 RELAY outputs and a region past the end are not read. -/
theorem witness_RecordsReadBack_refused :
    readCueRecord [] ({ wideCue with preWait := 600001 }).words = .error 0 ∧
      readPlay (Action.play playSpec).words = some playSpec ∧
      readPlay (Action.play { playSpec with priority := 3 }).words = none ∧
      readSceneRecord (Scene.words ⟨5, [⟨0, 0, .off⟩, ⟨0, 0, .off⟩]⟩) = .error 2 ∧
      readHeader [0x4B310000, 0x33333333, 0x33333333, 0x30000000] = .error .tooManyRelay ∧
      readRegions [16777215, 1] = some [⟨16777215, 1⟩] ∧ readRegions [16777215, 2] = none := by decide

/-! ### Links -/

/-- `show0` with the prompt link DETACHED and a response in the console's slot. -/
def show1 : State :=
  { show0 with links := { show0.links with
    console := { up with slot := some ⟨0x06, 9, .accepted, [1, 2]⟩, timer := 0 }, prompt := Link.reset } }

theorem witness_FramesAnswered :
    show1.timing.inReset = false ∧ (show1.link .console).slot = some ⟨0x06, 9, .accepted, [1, 2]⟩ ∧
      (run (.readResponse .console) show1).links.console.sdo = [6, 9, 0, 0, 0, 2, 1, 2] ∧
      (show1.link .prompt).slot = none ∧ (run (.readResponse .prompt) show1).links.prompt.sdo = [0, 0, 31, 0, 0, 0] ∧
      answer .prompt (run (.badFrame .prompt [0x10, 0x20]) show1) = some (.badFrame, []) ∧
      (run (.unknownRequest .console 0x7F 3) show1).links.console.timer = 3000 := by decide
theorem witness_RefusedBeforeTheOwner :
    requestOf (.go .prompt 5 none) = some (.prompt, 0x20, 5) ∧ (Instr.go .prompt 5 none).wellFormed = true ∧
      (show1.link .prompt).attached = false ∧ answer .prompt (run (.go .prompt 5 none) show1) = some (.notAttached, []) ∧
      permitted 0x20 .monitor = false ∧ answer .monitor (run (.go .monitor 5 none) show1) = some (.notPermitted, []) := by
  decide
theorem witness_LinkSetUp :
    answer .prompt (run (.attach .prompt 1 2) show1) = some (.badRevision, []) ∧
      answer .console (run (.attach .console 1 1) show1) = some (.accepted, [1, 1, 0x0B, 0xB8]) ∧
      (run (.attach .prompt 1 1) show1).links.prompt.attached = true ∧
      (run (.setPresence .console 1 249) show1).links.console.timer = 250 ∧
      (run (.setPresence .console 1 10001) show1).links.console.timer = 10000 ∧
      (run (.setEventMask .console 1 0xF8000001) show1).links.console.mask = 0x8000001 := by decide
theorem witness_LinkDetaches :
    (show1.link .console).attached = true ∧ (show1.link .console).timer = 0 ∧ (show1.link .monitor).timer ≠ 0 ∧
      (run (.presenceExpiry .console) show1).store.holder = none ∧
      kinds .monitor (run (.presenceExpiry .console) show1) = [.holdChanged, .linkLost] ∧
      kinds .prompt (run (.detach .console 1) show0) = [.holdChanged] := by decide
theorem witness_ReadsThatTake :
    answer .console (run (.readEvents .console 1 0) show0) = some (.accepted, [0, 0, 0]) ∧
      ((answer .monitor (run (.readEvents .monitor 1 17) (run (.go .prompt 2 none) show0))).map fun r =>
        (r.1, r.2.length)) = some (.accepted, 3 + 2 * 26) ∧
      answer .console (run (.readMeters .console 1) show0) ≠ none := by decide
theorem witness_ReadsChangeNothing :
    answer .prompt (run (.readStatus .prompt 1) show1) ≠ none ∧
      answer .console (run (.readLevels .console 1 32) show0) = some (.badField, []) ∧
      answer .console (run (.readCue .console 1 (cn 1 0) 3) show0) = some (.badField, []) ∧
      answer .console (run (.readCue .console 1 (cn 1 0) 2) show0) = some (.noSuchCue, []) ∧
      ((answer .console (run (.readCue .console 1 0 1) show0)).map (·.1)) = some .accepted ∧
      ((answer .console (run (.readScene .console 1 7 0) show0)).map (·.2)) =
        some [0, 3, 0, 1, 0, 0, 0, 7, 0, 0, 0xFF, 0xE2] ∧
      answer .console (run (.readScene .console 1 7 1) show0) = some (.noSuchScene, []) := by decide
theorem test_block_lengths :
    (statusBlock .console show0).length = 90 ∧ (runningBlock show0).length = 19 ∧ (callsBlock show0).length = 22 + 2 * 24 ∧
      voiceBytes show0 9 = 9 :: List.replicate 43 0 ∧ (levelsBlock show0 1).length = 782 ∧
      (metersBlock show0).length = 336 := by decide +kernel

/-! ### Cue Store and Edit Hold -/

/-- `show0` with the edit hold FREE. -/
def showFree : State := { show0 with store := { show0.store with holder := none } }

theorem witness_EditHoldAndGate :
    answer .monitor (run (.editHold .monitor 1) showFree) = some (.accepted, []) ∧
      kinds .prompt (run (.editHold .monitor 1) showFree) = [.holdChanged] ∧
      answer .console (run (.editHold .console 1) show0) = some (.accepted, []) ∧
      answer .monitor (run (.editHold .monitor 1) show0) = some (.held, [1]) ∧
      answer .monitor (run (.deleteScene .monitor 1 7) show0) = some (.notHolder, []) ∧
      answer .console (run (.putScene .console 1 [0x00030001, 5, 0]) { show0 with store :=
        { show0.store with state := .noShow } }) = some (.noShow, []) ∧
      answer .console (run (.deleteCue .console 1 0) { show0 with store :=
        { show0.store with state := .loading } }) = some (.loading, []) ∧
      recordFramed [0x000B0000] = false ∧
      answer .console (run (.putCue .console 1 [0x000B0000]) show0) = some (.badFrame, []) := by decide

/-- `show0` with the console's load READING in HEADER and no show. -/
def loading0 : State :=
  { show0 with
    smi := { show0.smi with load := some (newLoad .console), regions := [] },
    store := { state := .loading, cues := [], scenes := [], holder := some .console },
    seq := { show0.seq with playhead := none } }

theorem witness_EditReleaseTaken_invariant : LinksOk loading0 := by
  refine ⟨by unfold Link.ok; decide, by unfold Link.ok; decide, by unfold Link.ok; decide, ?_, ?_⟩
  · intro r _; cases r <;> rfl
  · intro ld h; cases h; rfl
theorem witness_EditReleaseTaken :
    show0.smi.load = none ∧ answer .console (run (.editRelease .console 1) show0) = some (.accepted, []) ∧
      (run (.editRelease .console 1) show0).store.holder = none ∧
      answer .console (run (.editRelease .console 1) loading0) = some (.loading, []) ∧
      answer .monitor (run (.editRelease .monitor 1) show0) = some (.notHolder, []) ∧
      answer .monitor (run (.editRelease .monitor 1) showFree) = some (.notHolder, []) := by decide

/-- A new cue 2.5, without and with an action, and with actions that fail a field or a reference check. -/
def put (acts : List Action) : List Word := (cueAt (cn 2 5) .go 0 acts).words

/-- 4,096 actions in 128 cues. -/
def fullStore : State :=
  { show0 with store := { show0.store with
    cues := (List.range 128).map fun i => cueAt (cn (i + 10) 0) .go 0 (List.replicate 32 (.scene 7 0)) } }

theorem witness_PutCueTaken :
    readCueRecord show0.smi.regions (put [.scene 7 0, .play { playSpec with priority := 3 }]) = .error 2 ∧
      answer .console (run (.putCue .console 1 (put [.scene 7 0, .play { playSpec with priority := 3 }])) show0) =
        some (.badField, [2]) ∧
      referenceCheck show0.smi.regions show0.store.scenes (.play { playSpec with region := 2 }) = false ∧
      answer .console (run (.putCue .console 1 (put [.scene 7 0, .play { playSpec with region := 2 }])) show0) =
        some (.badReference, [2]) ∧
      answer .console (run (.putCue .console 1 (put [.scene 7 0])) show0) = some (.accepted, [0, 4, 0, 2]) ∧
      (run (.putCue .console 1 (put [])) show0).store.cues.map (·.num) = [cn 1 0, cn 2 0, cn 2 5, cn 3 0] ∧
      show0.store.cues.Pairwise (fun a b => a.num.toNat < b.num.toNat) := by decide
theorem witness_PutCueTaken_full :
    actionTotal fullStore.store.cues = 4096 ∧
      answer .console (run (.putCue .console 1 (put [.scene 7 0])) fullStore) = some (.storeFull, []) ∧
      answer .console (run (.putCue .console 1 (put [])) fullStore) = some (.accepted, [0, 129, 0x10, 0]) := by
  decide +kernel
theorem witness_PutCueTaken_full_sorted :
    fullStore.store.cues.Pairwise (fun a b => a.num.toNat < b.num.toNat) := by decide +kernel

/-- `show0` with cue 1.0 in PREWAIT as instance 4. -/
def waiting0 : State :=
  { show0 with seq := { show0.seq with
    instances := [waitingInst 4 (cueAt (cn 1 0) .go 40 []) (.go .prompt) 0], nextId := 5 } }

theorem witness_DeleteCueTaken :
    answer .console (run (.deleteCue .console 1 (cn 2 5)) show0) = some (.noSuchCue, []) ∧
      answer .console (run (.deleteCue .console 1 (cn 1 0)) waiting0) = some (.inUse, []) ∧
      answer .console (run (.putCue .console 1 (cueAt (cn 1 0) .go 0 []).words) waiting0) = some (.inUse, []) ∧
      answer .console (run (.deleteCue .console 1 (cn 3 0)) show0) = some (.accepted, [0, 2, 0, 0]) ∧
      (run (.deleteCue .console 1 (cn 1 0)) show0).seq.playhead = some (cn 3 0) ∧
      kinds .prompt (run (.deleteCue .console 1 (cn 1 0)) show0) = [.playheadMoved] := by decide
theorem witness_SceneEditsTaken :
    answer .console (run (.putScene .console 1 [0x00040002, 5, 0, 0]) show0) = some (.badField, [2]) ∧
      answer .console (run (.putScene .console 1 [0x00030001, 5, 0]) show0) = some (.accepted, [0, 2, 0, 2]) ∧
      (run (.putScene .console 1 [0x00030001, 5, 0]) show0).store.scenes.map (·.id) = [5, 7] ∧
      answer .console (run (.deleteScene .console 1 7) show0) = some (.accepted, [0, 0, 0, 0]) ∧
      answer .console (run (.deleteScene .console 1 8) show0) = some (.noSuchScene, []) := by decide
theorem witness_SceneEditsTaken_full :
    answer .console (run (.putScene .console 1 [0x00030001, 900, 0]) { show0 with store := { show0.store with
      scenes := (List.range 128).map fun i => ⟨i + 1, [⟨0, 0, .off⟩]⟩ } }) = some (.storeFull, []) := by decide +kernel

/-! ### Loading a show -/

/-- A transfer with tACC at 200 ns. -/
def fetchOf (phase : TransferPhase) (user : TransferUser) (start len : Nat) (ready expired : Bool) : Port :=
  .fetch { phase := phase, user := user, start := start, len := len, tacc := 200, ready := ready,
           taccExpired := expired }

/-- `show0` with a load read of some words in TRANSFER. -/
def reading (ld : Load) (n : Nat) (discard : Bool) : State :=
  { loading0 with smi := { loading0.smi with
    load := some ld,
    port := fetchOf .transfer (.load discard) ld.next n true true } }

/-- A header of one region, no scene, one cue without actions, O0 MAIN and O1 RELAY. -/
def headerWords : List Word := [0x4B310000, 0x13000000, 0, 0, 0, 0x00010000, 0x00000001, 0, 16, 0, 0, 18, 11, 0, 0, 0]

/-- What the header gives. -/
def header0 : Header :=
  { classes := ((Vector.replicate 32 .unused).set 0 .main).set 1 .relay, regionCount := 1, sceneCount := 0,
    entryCount := 0, cueCount := 1, actionCount := 0, regionOffset := 16, sceneOffset := 0, sceneLen := 0,
    cueOffset := 18, cueLen := 11 }

/-- The load in phase CUES with 11 words to read. -/
def cuesLoad (remaining : Nat) : Load :=
  { link := .console, phase := .cues, next := 18, remaining := remaining, words := [], ended := false,
    header := some header0, regions := [⟨100, 1000⟩] }

/-- The image's one cue. -/
def imageCue : Cue := cueAt (cn 1 0) .go 40 []

theorem witness_LoadRequests :
    answer .monitor (run (.loadShow .monitor 1) show0) = some (.notHolder, []) ∧
      answer .console (run (.loadShow .console 1) loading0) = some (.loading, []) ∧
      answer .console (run (.loadAbort .console 1) loading0) = some (.accepted, []) ∧
      kinds .prompt (run (.loadAbort .console 1) loading0) = [.loadFailed] ∧
      answer .console (run (.loadAbort .console 1) show0) = some (.noLoad, []) ∧
      answer .console (run (.loadShow .console 1) { show0 with showStop := { show0.showStop with state := .resuming } }) =
        some (.showStopped, []) ∧
      answer .console (run (.loadShow .console 1) { show0 with smi := { show0.smi with port := .held } }) =
        some (.memoryHeld, []) ∧
      answer .console (run (.loadShow .console 1) waiting0) = some (.busy, []) ∧
      answer .console (run (.loadShow .console 1) show0) = some (.accepted, []) ∧
      (run (.loadShow .console 1) show0).smi.load = some (newLoad .console) := by decide
theorem test_readHeader : readHeader headerWords = .ok header0 := by decide
theorem witness_LoadReadTaken :
    (run (.loadReadComplete [0, 0]) (reading (newLoad .console) 2 true)).smi.load = some (newLoad .console) ∧
      (run (.loadReadComplete headerWords) (reading (newLoad .console) 16 false)).smi.load.map (·.phase) = some .regions ∧
      kinds .prompt (run (.loadReadComplete (List.replicate 16 0)) (reading (newLoad .console) 16 false)) = [.loadFailed] ∧
      (run (.loadReadComplete [7]) (reading { cuesLoad 2 with phase := .regions, remaining := 2 } 1 false)).smi.load.map
        (·.words) = some [7] ∧
      (run (.loadReadComplete [0, 0]) (reading { cuesLoad 2 with phase := .regions } 2 false)).store.state = .noShow ∧
      (run (.loadReadComplete [0, 1]) (reading { cuesLoad 2 with
        phase := .regions, header := some { header0 with sceneLen := 3 } } 2 false)).smi.load.map (·.regions) =
          some [⟨0, 1⟩] := by decide
theorem witness_LoadReadTaken_records :
    imageCue.words.length = 11 ∧
      (run (.loadReadComplete imageCue.words) (reading (cuesLoad 22) 11 false)).store.cues = [imageCue] ∧
      (run (.loadReadComplete imageCue.words) { reading (cuesLoad 22) 11 false with store :=
        { loading0.store with cues := [imageCue] } }).links.prompt.queue.map (·.reason) = [6] ∧
      (run (.loadReadComplete imageCue.words) { reading (cuesLoad 22) 11 false with store :=
        { loading0.store with cues := [cueAt (cn 2 0) .go 0 []] } }).links.prompt.queue.map (·.reason) = [8] ∧
      (run (.loadReadComplete (cueAt (cn 1 0) .go 0 [.scene 7 0]).words)
        (reading (cuesLoad 22) 17 false)).links.prompt.queue.map (·.reason) = [7] := by decide
theorem witness_LoadReadTaken_cueOk : CueOk imageCue ∧ CueOk (cueAt (cn 1 0) .go 0 [.scene 7 0]) := by
  refine ⟨⟨by decide, by decide, by decide, trivial, by unfold TimeOk; decide, by unfold TimeOk; decide, by decide, ?_⟩,
    ⟨by decide, by decide, by decide, trivial, by unfold TimeOk; decide, by unfold TimeOk; decide, by decide, ?_⟩⟩
  · intro a ha; cases ha
  · intro a ha; cases ha with
    | head => exact ⟨by decide, by decide, by unfold TimeOk; decide⟩
    | tail _ h => cases h
theorem witness_LoadPlacesTheImage :
    (List.flatMap Cue.words [imageCue]).length = 11 ∧ header0.cueCount = 1 ∧ header0.actionCount = actionTotal [imageCue] ∧
      (run (.loadReadComplete imageCue.words) (reading (cuesLoad 11) 11 false)).store.state = .ready ∧
      (run (.loadReadComplete imageCue.words) (reading (cuesLoad 11) 11 false)).relay.zones = [zoneOn 1] ∧
      (run (.loadReadComplete imageCue.words) (reading (cuesLoad 11) 11 false)).seq.playhead = some (cn 1 0) ∧
      kinds .prompt (run (.loadReadComplete imageCue.words) (reading (cuesLoad 11) 11 false)) = [.loadDone] := by decide
/-- The scene of the image, and the load in phase SCENES with words to read, under a header of one scene of one entry. -/
def imageScene : Scene := ⟨7, [⟨0, 0, .db (-30)⟩]⟩

/-- The load in phase SCENES with words taken and words to read. -/
def scenesLoad (taken : List Word) (remaining : Nat) : Load :=
  { cuesLoad remaining with
    phase := .scenes, next := 40, words := taken,
    header := some { header0 with sceneCount := 1, entryCount := 1, sceneOffset := 40, sceneLen := 3 } }

/-- The reasons of the records in the prompt link's queue after a load read. -/
def loadReasons (words : List Word) (ld : Load) : List Byte :=
  (run (.loadReadComplete words) (reading ld words.length false)).links.prompt.queue.map (·.reason)

theorem witness_LoadReadTaken_scenes :
    imageScene.words = [0x00030001, 7, 0x0000FFE2] ∧
      (run (.loadReadComplete imageScene.words) (reading (scenesLoad [] 3) 3 false)).store.scenes = [imageScene] ∧
      (run (.loadReadComplete imageScene.words) (reading (scenesLoad [] 3) 3 false)).smi.load.map
        (fun l => (l.phase, l.next, l.remaining)) = some (.cues, 18, 11) ∧
      (run (.loadReadComplete [0x00030001]) (reading (scenesLoad [] 3) 1 false)).smi.load.map
        (fun l => (l.words, l.remaining)) = some ([0x00030001], 2) ∧
      (run (.loadReadComplete [7, 0x0000FFE2]) (reading (scenesLoad [0x00030001] 2) 2 false)).store.scenes = [imageScene] ∧
      loadReasons [0x00030001, 1000, 0] (scenesLoad [] 3) = [5] ∧ loadReasons [0x00040002] (scenesLoad [] 3) = [5] ∧
      loadReasons imageScene.words (scenesLoad [] 6) = [] := by decide
theorem witness_LoadReadTaken_counts :
    (run (.loadReadComplete imageScene.words) { reading (scenesLoad [] 3) 3 false with store :=
        { loading0.store with scenes := [imageScene] } }).links.prompt.queue.map (·.reason) = [6] ∧
      (run (.loadReadComplete imageScene.words) { reading (scenesLoad [] 3) 3 false with store :=
        { loading0.store with scenes := [⟨9, [⟨0, 0, .off⟩]⟩] } }).links.prompt.queue.map (·.reason) = [8] ∧
      (run (.loadReadComplete [0x00040002]) { reading (scenesLoad [] 1) 1 false with store :=
        { loading0.store with scenes := [imageScene] } }).links.prompt.queue.map (·.reason) = [8] ∧
      (run (.loadReadComplete [0, 1]) (reading { cuesLoad 2 with phase := .regions } 2 false)).smi.load.map (·.phase) =
        some .cues ∧
      loadReasons [0, 1] { cuesLoad 2 with
        phase := .regions, header := some { header0 with entryCount := 1 } } = [8] := by decide
theorem witness_LoadReadTaken_sceneOk : SceneOk imageScene := by
  refine ⟨by decide, by decide, by decide, by decide, by decide, ?_⟩
  intro e he
  simp only [imageScene, List.mem_cons, List.not_mem_nil, or_false] at he
  subst he; exact .inr ⟨-30, rfl, by decide, by decide⟩
/-- The cue block of a load in STOPPED with a show-stop call of id 9. -/
def stoppedReading : State :=
  { reading (cuesLoad 11) 11 false with
    showStop := { show0.showStop with state := .stopped },
    relay := { show0.relay with zones := [], playing := [{ showStopCall 0 with id := 9 }] } }
theorem witness_LoadPlacesTheImage_stopped :
    (run (.loadReadComplete imageCue.words) stoppedReading).relay.zones.map (fun z => (z.carried, z.phase)) =
      [(some 9, .ducked)] := by decide

/-! ### Show Memory Interface -/

/-- A voice that waits for a fetch, with some frames in its FIFO. -/
def waitingVoice (priority frames : Nat) : Voice :=
  { Voice.freeRecord with
    state := .playing, priority := priority, next := 4, out := 900, fetch := .waiting,
    fifo := List.replicate frames (.frame 1) }

/-- V2 NORMAL at priority 3, V7 URGENT at 0, V9 and V12 URGENT at 2, V5 last served: the worked sequence of 1.7. -/
def fourWaiting : State :=
  { show0 with
    smi := { show0.smi with lastServed := 5 },
    stream := { show0.stream with
      voices := ((((show0.stream.voices.set 2 (waitingVoice 1 300)).set 7 (waitingVoice 0 90)).set 9
        (waitingVoice 2 200)).set 12 (waitingVoice 2 40)) } }

theorem witness_ArbiterPicks :
    (run .arbitrate fourWaiting).smi.port = fetchOf .access (.voice 9) 104 256 false false ∧
      (run .arbitrate fourWaiting).smi.lastServed = 9 ∧
      mhack (run .arbitrate { fourWaiting with smi := { fourWaiting.smi with mhreq := true } }) = true ∧
      (run .arbitrate loading0).smi.port = fetchOf .access (.load false) 0 16 false false ∧
      (run .arbitrate show0).smi.port = .idle ∧
      run .arbitrate { show0 with smi := { show0.smi with port := .held } } =
        { show0 with smi := { show0.smi with port := .held } } := by decide +kernel
theorem witness_ArbiterPicks_best :
    (fourWaiting.voice 9).fetch = .waiting ∧
      ∀ w, w ≠ 9 → (fourWaiting.voice w).fetch = .waiting → ServedBefore fourWaiting 9 w := by
  unfold ServedBefore; decide +kernel

/-- `show0` with a transfer for V9 in a phase. -/
def fetching (phase : TransferPhase) (fetch : FetchState) (n : Nat) : State :=
  { show0 with
    smi := { show0.smi with port := fetchOf phase (.voice 9) 104 n false false },
    stream := { show0.stream with
      voices := show0.stream.voices.set 9 { waitingVoice 2 0 with fetch := fetch, out := 6, loops := 1 } } }

theorem witness_PortLines :
    mhack (run .mhreqAsserted show0) = true ∧ holdState (run .mhreqAsserted (fetching .access .inFlight 2)) = .pending ∧
      kinds .prompt (run .mhend (run .mhreqAsserted show0)) = [.memoryHold, .memoryHold] ∧
      holdState (run .mhend (run .mhreqAsserted (fetching .access .inFlight 2))) = .released ∧
      (run .smRdySeen (fetching .access .inFlight 2)).smi.port ≠ (fetching .access .inFlight 2).smi.port ∧
      (run .taccExpiry (run .smRdySeen (fetching .access .inFlight 2))).smi.port =
        fetchOf .transfer (.voice 9) 104 2 true true ∧
      (run .smRdySeen (fetching .transfer .inFlight 2)).smi.port = (fetching .transfer .inFlight 2).smi.port := by
  decide +kernel
theorem witness_AccessDelay :
    Serves .console 0x1A show0 ∧ (run (.setAccessDelay .console 1 2559) show0).smi.tacc = 2550 ∧
      (run (.setAccessDelay .console 1 209) show0).smi.tacc = 200 ∧
      (run (.setAccessDelay .console 1 9) show0).smi.tacc = 0 ∧
      answer .prompt (run (.setAccessDelay .prompt 1 9) show0) = some (.notPermitted, []) :=
  ⟨serves_of rfl rfl rfl, by decide, by decide, by decide, by decide⟩
/-- A transfer in flight keeps its delay, and the next one takes the new delay. -/
theorem witness_AccessDelay_transfer :
    (run (.setAccessDelay .console 1 500) (fetching .access .inFlight 2)).smi.port =
        fetchOf .access (.voice 9) 104 2 false false ∧
      (run .arbitrate (run (.setAccessDelay .console 1 500) loading0)).smi.port =
        .fetch { phase := .access, user := .load false, start := 0, len := 16, tacc := 500, ready := false,
                 taccExpired := false } := by decide
theorem witness_VoiceFetchTaken :
    ((run (.voiceFetchComplete [5, 6]) (fetching .transfer .waiting 2)).voice 9).buf = [] ∧
      (run (.voiceFetchComplete [5, 6]) (fetching .transfer .waiting 2)).smi.port = .idle ∧
      ((run (.voiceFetchComplete [5, 6]) (fetching .transfer .inFlight 2)).voice 9).next = 0 ∧
      ((run (.voiceFetchComplete [5, 6]) (fetching .transfer .inFlight 2)).voice 9).loops = 0 ∧
      ((run (.voiceFetchComplete [5, 6]) (fetching .transfer .inFlight 2)).voice 9).fifo = [.frame 5, .frame 6] ∧
      run (.voiceFetchComplete [5, 6]) (fetching .access .inFlight 2) = fetching .access .inFlight 2 := by
  decide +kernel

/-! ### Cue Sequencer -/

/-- `show0` in a sequencer state. -/
def seq0 (f : Sequencer → Sequencer) : State := { show0 with seq := f show0.seq }

/-- A RUNNING instance of cue 3.0. -/
def running (id : Nat) (f : Option Follow) : CueInstance :=
  { waitingInst id (cueAt (cn 3 0) .go 0 []) .marker 0 with phase := .running, follow := f }

/-- 24 RUNNING instances, of which those from the given id on hold no follow. -/
def fullTable (free : Nat) : State :=
  seq0 fun q => { q with
    instances := (List.range 24).map fun i =>
      running (i + 1) (if free ≤ i + 1 then none else some { cue := cn 2 0, delay := 9 }),
    nextId := 25 }

/-- A GO stamped 299 ms ago, with the show clock past its wrap. -/
def guarded (age : Nat) : State :=
  { seq0 fun q => { q with stamp := some { time := 0xFFFFFFFF, cue := cn 1 0 } } with
    timing := { show0.timing with showClock := .ofNat 32 (age - 1) } }

theorem witness_GoRefused :
    answer .console (run (.go .console 1 none) (seq0 fun q => { q with authority := .promptOnly })) =
        some (.notPermitted, []) ∧
      answer .prompt (run (.go .prompt 1 none) { show0 with store := { show0.store with state := .noShow } }) =
        some (.noShow, []) ∧
      answer .prompt (run (.go .prompt 1 none) loading0) = some (.loading, []) ∧
      answer .prompt (run (.go .prompt 1 none) { show0 with showStop := { show0.showStop with state := .stopped } }) =
        some (.showStopped, []) ∧
      answer .prompt (run (.go .prompt 1 none) (guarded 299)) = some (.doubleGo, [0, 1, 0, 0, 1]) ∧
      answer .prompt (run (.go .prompt 1 none) (seq0 fun q => { q with playhead := none })) = some (.endOfList, []) ∧
      answer .prompt (run (.go .prompt 1 (some (cn 3 0))) show0) = some (.stale, [0, 1, 0]) ∧
      answer .prompt (run (.go .prompt 1 none) (seq0 fun q => { q with standbyRequired := true })) =
        some (.notStandingBy, []) ∧
      answer .prompt (run (.go .prompt 1 none) (fullTable 25)) = some (.cueTableFull, []) := by decide
theorem witness_GoAccepted :
    answer .prompt (run (.go .prompt 1 none) (guarded 300)) = some (.accepted, [0, 1, 0, 1, 0, 3, 0]) ∧
      answer .prompt (run (.go .prompt 1 (some (cn 1 0))) (fullTable 7)) = some (.accepted, [0, 1, 0, 25, 0, 3, 0]) ∧
      kinds .prompt (run (.go .prompt 1 none) (fullTable 7)) = [.cueRetired, .cueFired, .playheadMoved] ∧
      (run (.go .prompt 1 none) show0).seq.instances = [waitingInst 1 (cueAt (cn 1 0) .go 40 []) (.go .prompt) 0] ∧
      ((run (.go .prompt 1 none) (fullTable 7)).seq.instances.map (·.id)).contains 7 = false := by decide
theorem witness_GoAccepted_hypotheses :
    TableOk (fullTable 7) ∧ MayGo .prompt (fullTable 7) ∧ GuardPassed (guarded 300) ∧ TableHasRoom (fullTable 7) ∧
      cueOf (cn 1 0) show0 = some (cueAt (cn 1 0) .go 40 []) := by
  refine ⟨by unfold TableOk; decide, by unfold MayGo; decide, ?_, .inr ⟨running 7 none, by decide⟩, by decide⟩
  intro st h; cases h; decide
theorem witness_SecondGoRefused :
    answer .console (run (.go .console 2 (some (cn 3 0))) (run (.go .prompt 1 none) show0)) =
        some (.doubleGo, [0, 1, 0, 1, 0x2C]) ∧
      ((run (.go .prompt 1 none) show0).link .prompt).slot.map (·.result) = some .accepted := by decide
theorem witness_PlayheadAndGoSettings :
    kinds .console (run (.standby .prompt 1) show0) = [.standby] ∧
      answer .prompt (run (.standby .prompt 1) (seq0 fun q => { q with playhead := none })) = some (.endOfList, []) ∧
      answer .prompt (run (.setPlayhead .prompt 1 (cn 2 5)) show0) = some (.noSuchCue, []) ∧
      kinds .prompt (run (.setPlayhead .prompt 1 (cn 1 0)) show0) = [] ∧
      (run (.setPlayhead .prompt 1 0) show0).seq.playhead = none ∧
      (run (.setPlayhead .console 1 (cn 2 0)) show0).seq.playhead = some (cn 2 0) ∧
      (run (.setGoAuthority .prompt 1 2) show0).seq.authority = .shared ∧
      answer .prompt (run (.setGoAuthority .prompt 1 3) show0) = some (.badField, []) ∧
      (run (.setStandbyRequired .prompt 1 1) show0).seq.standbyRequired = true ∧
      answer .prompt (run (.setStandbyRequired .prompt 1 2) show0) = some (.badField, []) ∧
      (run (.setGuard .prompt 1 2001) show0).seq.guardMs = 2000 := by decide
theorem witness_FireTaken :
    answer .console (run (.fire .console 1 (cn 2 5)) show0) = some (.noSuchCue, []) ∧
      answer .console (run (.fire .console 1 (cn 1 0)) (fullTable 25)) = some (.cueTableFull, []) ∧
      answer .console (run (.fire .console 1 (cn 1 0)) show0) = some (.accepted, [1]) ∧
      (run (.fire .console 1 (cn 1 0)) show0).seq.nextId = 2 ∧
      kinds .prompt (run (.fire .console 1 (cn 2 0)) show0) = [.cueFired, .cueRunning, .cueEnded] ∧
      (run (.fire .console 1 (cn 2 0)) show0).seq.instances = [] := by decide

/-- V0 plays for instance 6 of cue 3.0, V1 fades out as an orphan, V2 starts for instance 6. -/
def playing0 : State :=
  { show0 with
    seq := { show0.seq with instances := [running 6 none, waitingInst 8 (cueAt (cn 1 0) .go 40 []) .follow 0], nextId := 9 },
    stream := { show0.stream with
      voices := ((show0.stream.voices.set 0
        { waitingVoice 1 3 with owner := .inst 6 (cn 3 0), level := .db (-60), startTime := 5 }).set 1
        { waitingVoice 1 3 with state := .stoppingFade, level := .db (-100) }).set 2
        { waitingVoice 1 0 with state := .starting none, owner := .inst 6 (cn 3 0) } } }

theorem witness_StopsReachInstances :
    answer .prompt (run (.stopCue .prompt 1 (cn 3 0) 500) playing0) = some (.accepted, [1]) ∧
      ((run (.stopCue .prompt 1 (cn 3 0) 500) playing0).voice 0).state = .stoppingFade ∧
      ((run (.stopCue .prompt 1 (cn 3 0) 500) playing0).voice 2).state = .free ∧
      (run (.stopCue .prompt 1 (cn 3 0) 500) playing0).fades.map (fun e => (e.target, e.n)) = [(.voice 0, 500)] ∧
      (run (.stopAll .prompt 1 none) playing0).seq.instances.map (·.id) = [6] ∧
      (run (.stopAll .prompt 1 none) playing0).fades.map (fun e => (e.target, e.n)) = [(.voice 0, 1000), (.voice 1, 1000)] ∧
      ((run (.stopAll .prompt 1 (some 0)) playing0).voice 1).state = .stoppingRamp 0 := by decide
theorem witness_StopsReachInstances_table : TableOk playing0 := by unfold TableOk; decide
theorem witness_StopsReachInstances_room :
    RoomForVoices playing0 ∧ StopFading 0 .off 500 playing0 (run (.stopCue .prompt 1 (cn 3 0) 500) playing0) :=
  ⟨by unfold RoomForVoices; decide, by decide, _, rfl, by decide⟩

/-- An instance of cue 1.0 at the end of its pre-wait, with the given store. -/
def ended0 (cs : List Cue) : State :=
  { show0 with
    store := { show0.store with cues := cs },
    seq := { show0.seq with instances := [{ waitingInst 4 (cueAt (cn 1 0) .go 40 []) .marker 0 with preWait := 0 }] } }

/-- Instance 6 of cue 3.0, which owns V0, with a follow of cue 2.0 whose delay has run out. -/
def following (tr : Trigger) : State :=
  { playing0 with
    store := { show0.store with cues := [cueAt (cn 2 0) tr 10 []] },
    seq := { playing0.seq with instances := [running 6 (some { cue := cn 2 0, delay := 0 })] } }

theorem witness_InstanceTimers :
    run (.prewaitEnd 4) waiting0 = waiting0 ∧
      kinds .prompt (run (.prewaitEnd 4) (ended0 cues)) = [.cueRunning, .cueEnded] ∧
      (run (.prewaitEnd 4) (ended0 [{ cueAt (cn 1 0) .go 40 [] with followDelay := 7 }, cueAt (cn 2 0) .follow 0 []])
        ).seq.instances.map (fun i => (i.phase, i.follow)) = [(.running, some { cue := cn 2 0, delay := 7 })] ∧
      kinds .prompt (run (.followExpiry 6) (following .go)) = [.followDropped] ∧
      kinds .prompt (run (.followExpiry 6) (following .follow)) = [.cueFired] ∧
      (run (.followExpiry 6) (following .follow)).seq.instances.map (fun i => (i.id, i.cue)) =
        [(6, cn 3 0), (9, cn 2 0)] ∧
      run (.followExpiry 6) playing0 = playing0 := by decide +kernel

/-- Instance 4 of cue 1.0 at the end of its pre-wait with one action. -/
def dispatching (a : Action) : State := ended0 [cueAt (cn 1 0) .go 40 [a]]

theorem witness_ActionsDispatched :
    (run (.prewaitEnd 4) (dispatching (.level 39 31 (.db 7) 0))).mix.xpts[31][39] = .db 7 ∧
      (run (.prewaitEnd 4) (dispatching (.trim 31 .off 1))).fades.map (fun e => (e.target, e.n)) = [(.trim 31, 1)] ∧
      (run (.prewaitEnd 4) (dispatching (.scene 7 0))).mix.xpts[0][0] = .db (-30) ∧
      kinds .prompt (run (.prewaitEnd 4) (dispatching (.scene 8 0))) = [.cueRunning, .actionFault, .cueEnded] ∧
      (run (.prewaitEnd 4) (dispatching (.foldbackMode 1 (.follow 0)))).foldback.modes[1] = .follow 0 ∧
      kinds .prompt (run (.prewaitEnd 4) (dispatching (.foldbackMode 0 .independent))) =
        [.cueRunning, .actionFault, .cueEnded] ∧
      kinds .prompt (run (.prewaitEnd 4) (dispatching (.foldbackMode 1 (.follow 2)))) =
        [.cueRunning, .actionFault, .cueEnded] ∧
      (run (.prewaitEnd 4) (dispatching (.play playSpec))).voice 0 = freshVoice playSpec (.inst 4 (cn 1 0)) 1000 0 := by
  decide +kernel
/-- A PRIORITY 2 voice in every place. -/
def noVoice (s : State) : State :=
  { s with stream := { s.stream with voices := Vector.replicate 32 { waitingVoice 2 3 with group := 5 } } }
theorem witness_ActionsDispatched_more :
    kinds .prompt (run (.prewaitEnd 4) (noVoice (dispatching (.play playSpec)))) =
        [.cueRunning, .voiceShortage, .cueEnded] ∧
      ((run (.prewaitEnd 4) (noVoice (dispatching (.stop (.group 5) 0)))).voice 31).state = .stoppingRamp 0 ∧
      (run (.prewaitEnd 4) (noVoice (dispatching (.voiceFade 5 .off 3 false)))).fades.length = 32 ∧
      kinds .prompt (run (.prewaitEnd 4) (dispatching (.call ⟨0, 4, none, 4, 1, 0, 9⟩))) =
        [.cueRunning, .actionFault, .cueEnded] ∧
      (run (.prewaitEnd 4) (dispatching (.call ⟨0, 4, none, 2, 1, 0, 9⟩))).relay.playing.map (fun c => (c.id, c.origin)) =
        [(1, .cue 4 (cn 1 0) 1)] := by decide +kernel
theorem witness_ActionsDispatched_dropped :
    kinds .prompt (run (.prewaitEnd 4) { dispatching (.call ⟨0, 4, none, 2, 1, 0, 9⟩) with relay :=
      { show0.relay with waiting := List.replicate 8 (newCall 1 (.live 0) 1 0 0 .prompt) } }) =
        [.cueRunning, .callDropped, .cueEnded] := by decide
/-- Instance 4 of cue 1.0 with one action beside the instances and voices of `playing0`, V1 in group 5. -/
def dispatchingBeside (a : Action) : State :=
  { playing0 with
    store := { show0.store with cues := [cueAt (cn 1 0) .go 40 [a]] },
    seq := { playing0.seq with
      instances := [running 6 none, { waitingInst 4 (cueAt (cn 1 0) .go 40 []) .marker 0 with preWait := 0 },
        waitingInst 8 (cueAt (cn 3 0) .go 40 []) .follow 0] } }

theorem witness_ActionsDispatched_stops :
    ((run (.prewaitEnd 4) (dispatchingBeside (.stop (.cue (cn 3 0)) 500))).voice 0).state = .stoppingFade ∧
      (run (.prewaitEnd 4) (dispatchingBeside (.stop (.cue (cn 3 0)) 500))).fades.map (fun e => (e.target, e.n)) =
        [(.voice 0, 500)] ∧
      kinds .prompt (run (.prewaitEnd 4) (dispatchingBeside (.stop (.cue (cn 3 0)) 0))) =
        [.cueRunning, .cueEnded, .cueEnded] ∧
      (run (.prewaitEnd 4) (dispatchingBeside (.stop (.cue (cn 3 0)) 500))).voice 1 = playing0.voice 1 ∧
      ((run (.prewaitEnd 4) (dispatchingBeside (.stop .all 0))).voice 1).state = .stoppingRamp 0 ∧
      (run (.prewaitEnd 4) (dispatchingBeside (.stop .all 500))).seq.instances.map (fun j => (j.id, j.stopped)) =
        [(6, true)] := by decide +kernel
theorem witness_ActionsDispatched_steals :
    (run (.prewaitEnd 4) (noVoice (dispatching (.play { playSpec with priority := 2 })))).voice 0 =
        stolenVoice { playSpec with priority := 2 } (.inst 4 (cn 1 0)) 1000 0 { waitingVoice 2 3 with group := 5 } ∧
      (run (.prewaitEnd 4) (noVoice (dispatching (.voiceFade 5 (.db (-90)) 0 true)))).voice 31 =
        ({ waitingVoice 2 3 with group := 5 } : Voice).ramping ∧
      ((run (.prewaitEnd 4) (noVoice (dispatching (.voiceFade 5 (.db (-90)) 9 true)))).voice 31).state = .stoppingFade ∧
      ((run (.prewaitEnd 4) (noVoice (dispatching (.voiceFade 5 (.db (-90)) 0 false)))).voice 31).level = .db (-90) ∧
      (run (.prewaitEnd 4) (dispatching (.scene 7 12))).fades.map (fun e => (e.target, e.goal, e.n)) =
        [(.crosspoint 0 0, .db (-30), 12)] := by decide +kernel
theorem witness_ActionsDispatched_hypotheses (a : Action) :
    Dispatches { waitingInst 4 (cueAt (cn 1 0) .go 40 []) .marker 0 with preWait := 0 } a (dispatching a) := by
  refine ⟨rfl, (by unfold TableOk; decide : TableOk (ended0 [])), by simp [dispatching, ended0], rfl, rfl, rfl,
    ⟨cueAt (cn 1 0) .go 40 [a], rfl, rfl⟩, ?_⟩
  intro d h; cases h

/-! ### Stream Engine -/

theorem witness_PlayTaken :
    (readPlay (Action.play playSpec).words) = some playSpec ∧
      answer .console (run (.play .console 1 ⟨0, 0, 0, 0, 0, 0⟩) show0) = some (.badField, []) ∧
      answer .console (run (.play .console 1 (Action.play { playSpec with inWord := 1000 }).words) show0) =
        some (.badField, []) ∧
      answer .console (run (.play .console 1 (Action.play { playSpec with region := 2 }).words) show0) =
        some (.badReference, []) ∧
      answer .console (run (.play .console 1 (Action.play playSpec).words) playing0) = some (.accepted, [3]) ∧
      answer .console (run (.play .console 1 (Action.play playSpec).words) (noVoice show0)) =
        some (.voiceShortage, []) ∧
      answer .console (run (.play .console 1 (Action.play { playSpec with priority := 2 }).words) (noVoice show0)) =
        some (.accepted, [0]) := by decide +kernel
theorem witness_PlayTaken_victim :
    ∀ u : VoiceNo, u ≠ 0 → ((noVoice show0).voice u).candidate 2 = true → TakenBefore (noVoice show0) 0 u := by
  unfold TakenBefore; decide +kernel
/-- V3, the only voice of instance 6, is the lowest in priority where no voice is FREE, and is stolen. -/
theorem witness_PlayTaken_instance :
    kinds .prompt (run (.play .console 1 (Action.play playSpec).words) { noVoice playing0 with
      stream := { (noVoice playing0).stream with
        voices := (noVoice playing0).stream.voices.set 3 { waitingVoice 0 3 with owner := .inst 6 (cn 3 0) } } }) =
      [.cueEnded] := by decide +kernel
theorem witness_PlayTaken_ok : PlayOk playSpec := by
  refine ⟨by decide, by decide, ?_, ?_, by decide, by decide, .inr ⟨-60, rfl, by decide, by decide⟩, by unfold TimeOk; decide,
    by decide⟩ <;> intro n h <;> cases h

/-- V4 starts for call 3 on zone 0. -/
def callStarting : State :=
  { show0 with
    relay := { show0.relay with
      zones := [{ zoneOn 2 with carried := some 3, phase := .ducked, duck := -90 }, zoneOn 3],
      playing := [{ newCall 2 (.recorded 0 0 none) 1 0 90 .prompt with id := 3 }] },
    stream := { show0.stream with
      voices := show0.stream.voices.set 4 { waitingVoice 3 0 with state := .starting none, owner := .call 3, dest := .call } } }

theorem witness_StopVoiceByState :
    answer .console (run (.stopVoice .console 1 32 0) playing0) = some (.badField, []) ∧
      answer .console (run (.stopVoice .console 1 0 0) playing0) = some (.accepted, [2]) ∧
      ((run (.stopVoice .console 1 0 0) playing0).voice 0).state = .stoppingRamp 0 ∧
      ((run (.stopVoice .console 1 0 1) playing0).voice 0).state = .stoppingFade ∧
      ((run (.stopVoice .console 1 1 0) playing0).voice 1).state = .stoppingRamp 0 ∧
      ((run (.stopVoice .console 1 4 9) callStarting).voice 4).state = .free ∧
      kinds .prompt (run (.stopVoice .console 1 4 9) callStarting) = [.callEnded] := by decide +kernel

/-- `callStarting` with V4 in a state, its FIFO empty and nothing left to play, and one due stop fade. -/
def callVoice (st : VoiceState) : State :=
  { callStarting with
    fades := [{ target := .voice 4, start := .db 0, goal := .off, n := 5, k := 4, due := true, action := .stopVoice,
                poster := .stream }],
    relay := { callStarting.relay with tails := [⟨4, 2, 0⟩] },
    stream := { callStarting.stream with
      voices := callStarting.stream.voices.set 4
        { callStarting.voice 4 with state := st, fetch := .none, next := 900, fifo := [] } } }

/-- The reasons of a prompt queue's records. -/
def reasons (s : State) : List (EventKind × Byte) := (s.link .prompt).queue.map fun e => (e.kind, e.reason)

theorem witness_StopVoiceByState_calls :
    reasons (run (.voiceNaturalEnd 4) (callVoice .playing)) = [(.callEnded, 0)] ∧
      reasons (run (.fadeComplete (.voice 4)) (callVoice .stoppingFade)) = [(.callEnded, 1)] ∧
      reasons (run (.declickRampEnd 4) (callVoice (.stoppingRamp 240))) = [(.callEnded, 1)] ∧
      reasons (run (.reclaimRampEnd 4) (callVoice (.reclaiming 240 .call .off true))) = [(.callEnded, 1)] ∧
      (run (.voiceNaturalEnd 4) (callVoice .playing)).relay.tails = [] ∧
      (run (.voiceNaturalEnd 4) (callVoice .playing)).relay.zones.map (fun z => (z.carried, z.phase)) =
        [(none, .releasing), (none, .clear)] ∧
      (run (.voiceNaturalEnd 4) (callVoice .playing)).fades.map (fun e => (e.target, e.goal, e.n, e.action)) =
        [(.duck 0, .db 0, 1000, .duckReleased)] := by decide +kernel
/-- All voices but V4 sound at priority 3 and none is FREE: V4, of the recorded call 3, is the victim of a recorded call
on the other zone. -/
def callStolen : State :=
  { callVoice .playing with
    fades := [], relay := callStarting.relay, smi := { show0.smi with regions := [⟨100, 1000⟩] },
    stream := { show0.stream with
      voices := (Vector.replicate 32 (waitingVoice 3 3)).set 4
        { waitingVoice 2 3 with owner := .call 3, dest := .call, level := .db 0 } } }
theorem witness_StopVoiceByState_stolen :
    reasons (run (.call .prompt 1 ⟨1, 0, 0, 4, 0, 2, 1, 0, 90⟩) callStolen) =
        [(.callEnded, 2), (.callStarted, 0)] ∧
      (run (.call .prompt 1 ⟨1, 0, 0, 4, 0, 2, 1, 0, 90⟩) callStolen).relay.tails = [⟨4, 1, 0⟩] ∧
      ((run (.call .prompt 1 ⟨1, 0, 0, 4, 0, 2, 1, 0, 90⟩) callStolen).voice 4).owner = .call 1 ∧
      (∀ u : VoiceNo, u ≠ 4 → (callStolen.voice u).candidate 3 = true → TakenBefore callStolen 4 u) := by
  unfold TakenBefore; decide +kernel

/-- `playing0` with V0 in a state and with a FIFO, exhausted or not. -/
def v0 (st : VoiceState) (fifo : List FifoEntry) (done : Bool) : State :=
  playing0.setVoice 0 { playing0.voice 0 with
    state := st, fifo := fifo, fetch := .none, next := if done then 900 else 4, fadeIn := 20, startLevel := .db (-60),
    priority := 1 }

theorem witness_VoiceEvents :
    ((run (.enterPlaying 0) (v0 (.starting none) (List.replicate 256 (.frame 1)) false)).voice 0).state = .playing ∧
      ((run (.enterPlaying 0) (v0 (.starting none) (List.replicate 255 (.frame 1)) false)).voice 0).state = .starting none ∧
      (run (.enterPlaying 0) (v0 (.starting (some 20)) [] true)).fades.map (fun e => (e.n, e.goal)) = [(20, .db (-60))] ∧
      ((run (.enterStarved 0) (v0 .playing [] false)).voice 0).underruns = 1 ∧
      kinds .prompt (run (.enterStarved 0) (v0 .playing [] false)) = [.underrun] ∧
      ((run (.enterStarved 0) (v0 .playing [.frame 1] false)).voice 0).state = .playing ∧
      ((run (.returnToPlaying 0) (v0 .starved [] true)).voice 0).state = .playing ∧
      ((run (.declickRampEnd 0) (v0 (.stoppingRamp 239) [] true)).voice 0).state = .stoppingRamp 239 ∧
      ((run (.declickRampEnd 0) (v0 (.stoppingRamp 240) [] true)).voice 0).state = .free := by decide +kernel
theorem witness_VoiceEvents_ends :
    ((run (.reclaimRampEnd 0) (v0 (.reclaiming 240 (.stem 1) .off false) [.frame 1] false)).voice 0).state =
        .starting (some 20) ∧
      ((run (.reclaimRampEnd 0) (v0 (.reclaiming 240 (.stem 1) .off true) [.frame 1] false)).voice 0).state = .free ∧
      ((run (.reclaimRampEnd 0) (v0 (.reclaiming 239 (.stem 1) .off true) [] false)).voice 0).busy = true ∧
      ((run (.voiceNaturalEnd 0) (v0 .playing [] true)).voice 0).state = .free ∧
      ((run (.voiceNaturalEnd 0) (v0 .playing [.frame 1] true)).voice 0).state = .playing ∧
      ((run (.voiceNaturalEnd 0) (v0 .playing [] false)).voice 0).state = .playing := by decide +kernel

/-- V0 is the only voice of instance 6, in a state, with its FIFO empty and nothing left to play. -/
def lastVoice (st : VoiceState) : State := (v0 st [] true).setVoice 2 Voice.freeRecord

/-- The end of its last voice ends instance 6, which is RUNNING without a follow. -/
theorem witness_VoiceEvents_lastVoice :
    (∀ u, u ≠ 0 → ((lastVoice .playing).voice u).ownedByInst 6 = false) ∧
      kinds .prompt (run (.voiceNaturalEnd 0) (lastVoice .playing)) = [.cueEnded] ∧
      (run (.voiceNaturalEnd 0) (lastVoice .playing)).seq.instances.map (·.id) = [8] ∧
      kinds .prompt (run (.declickRampEnd 0) (lastVoice (.stoppingRamp 240))) = [.cueEnded] ∧
      kinds .prompt (run (.voiceNaturalEnd 0) (v0 .playing [] true)) = [] := by decide +kernel
theorem witness_VoiceEvents_hypotheses :
    TableOk (lastVoice .playing) ∧ running 6 none ∈ (lastVoice .playing).seq.instances ∧
      ((lastVoice .playing).voice 0).owner = .inst 6 (cn 3 0) ∧ ((lastVoice .playing).voice 0).exhausted = true :=
  ⟨by unfold TableOk; decide, by decide, by decide, by decide⟩

/-- A buffer of each kind of stream word: a frame of −1, a silence run of 3, a marker, a RESERVED word. -/
def words0 : List Word := [0x00FFFFFF, 0x01000003, 0x02000007, 0x09000000]

/-- `playing0` with V0's buffer full of `words0` and a FIFO of a length. -/
def decoding (n : Nat) : State :=
  playing0.setVoice 0 { playing0.voice 0 with
    fetch := .none, buf := words0, bufPos := 50, fifo := List.replicate n (.frame 0) }

theorem witness_DecoderConserves :
    ((run (.decoderRun 0) (decoding 0)).voice 0).fifo = [.frame (-1), .frame 0, .frame 0, .frame 0, .marker 7, .frame 0] ∧
      ((run (.decoderRun 0) (decoding 0)).voice 0).fetch = .waiting ∧
      (run (.decoderRun 0) (decoding 0)).links.prompt.queue.map (·.aux2) = [53] ∧
      streamEntries words0 = [.frame (-1), .frame 0, .frame 0, .frame 0, .marker 7, .frame 0] := by decide +kernel
theorem witness_DecoderConserves_full :
    ((run (.decoderRun 0) (decoding 1021)).voice 0).silence = 1 ∧
      ((run (.decoderRun 0) (decoding 1021)).voice 0).buf = words0.drop 2 ∧
      ((run (.decoderRun 0) (decoding 1021)).voice 0).fifo.length = 1024 ∧
      ((run (.decoderRun 0) (decoding 1024)).voice 0).buf = words0 := by decide +kernel

/-! ### Levels and the Fade Engine -/

/-- An entry of the fade list of the prompt link. -/
def entryOf (t : FadeTarget) (start goal : Level) (n k : Nat) (due : Bool) : FadeEntry :=
  { target := t, start := start, goal := goal, n := n, k := k, due := due, action := .nothing, poster := .link .prompt }

/-- `show0` with a fade list. -/
def fading (es : List FadeEntry) : State := { show0 with fades := es }

/-- A full fade list on other crosspoints. -/
def fullFades : List FadeEntry :=
  (List.range 256).map fun n => entryOf (.crosspoint (Fin.ofNat 40 (n % 40)) (Fin.ofNat 32 (10 + n / 40))) .off .off 9 0 false

theorem witness_LevelControls :
    answer .console (run (.setLevel .console 1 40 0 0 0) show0) = some (.badField, []) ∧
      answer .console (run (.setTrim .console 1 32 0 0) show0) = some (.badField, []) ∧
      answer .console (run (.setLevel .console 1 0 0 0 0) loading0) = some (.loading, []) ∧
      answer .console (run (.setLevel .console 1 39 31 101 0) show0) = some (.accepted, [0, 100, 0, 0, 0, 0, 0]) ∧
      (run (.setLevel .console 1 39 31 101 0) (fading [entryOf (.crosspoint 39 31) .off (.db 0) 9 1 false])).fades = [] ∧
      answer .console (run (.setTrim .console 1 3 0x8000 7) (fading [entryOf (.trim 3) .off (.db 0) 9 1 false])) =
        some (.accepted, [0x80, 0, 0, 0, 0, 7, 1]) ∧
      (run (.setTrim .console 1 3 0x8000 7) (fading [entryOf (.trim 3) .off (.db 0) 9 1 false])).fades =
        [{ entryOf (.trim 3) (.db 0) .off 7 0 false with poster := .link .console }] ∧
      answer .console (run (.setTrim .console 1 3 0x8001 0xFFFFFFFF) show0) =
        some (.accepted, [0xFC, 0x40, 0, 9, 0x27, 0xC0, 2]) := by decide
theorem witness_LevelControls_full :
    answer .console (run (.setLevel .console 1 0 0 5 9) (fading fullFades)) = some (.accepted, [0, 5, 0, 0, 0, 9, 3]) ∧
      (run (.setLevel .console 1 0 0 5 9) (fading fullFades)).mix.xpts[0][0] = .db 5 ∧
      kinds .prompt (run (.setLevel .console 1 0 0 5 9) (fading fullFades)) = [.fadeOverflow] := by decide +kernel
/-- With a full list a stop with a fade time takes the declick ramp, unless an entry stands on the voice's level. -/
theorem witness_StopVoiceByState_full :
    ((run (.stopVoice .console 1 0 500) { playing0 with fades := fullFades }).voice 0).state = .stoppingRamp 0 ∧
      kinds .prompt (run (.stopVoice .console 1 0 500) { playing0 with fades := fullFades }) = [.fadeOverflow] ∧
      ((run (.stopVoice .console 1 0 500) { playing0 with
        fades := fullFades.set 0 (entryOf (.voice 0) .off .off 9 0 false) }).voice 0).state = .stoppingFade := by
  decide +kernel

/-- A fade in its middle, one before its last step, a duck fade, and every timer, at a count of frames. -/
def ticking (frames : Nat) : State :=
  { waiting0 with
    timing := { show0.timing with frames := frames },
    fades := [entryOf (.crosspoint 3 2) (.db (-200)) (.db (-600)) 3000 7 false,
      entryOf (.trim 4) (.db 0) (.db 10) 5 4 false, entryOf (.duck 1) (.db 0) (.db (-90)) 100 9 false],
    foldback := { show0.foldback with talk := some ⟨5, 2, 0, ⟨8000, false⟩⟩ },
    mix := { show0.mix with clock := { ClockRef.reset with state := .acquiring, present := true, qualified := 999 } } }

theorem witness_MillisecondSteps :
    (run (.millisecondTick .asserted) (ticking 47)).timing.showClock = 0 ∧
      (run (.millisecondTick .asserted) (ticking 48)).timing.showClock = 1 ∧
      (run (.millisecondTick .asserted) (ticking 48)).mix.xpts[2][3] = .db (-201) ∧
      (run (.millisecondTick .asserted) (ticking 48)).fades.map (fun e => (e.k, e.due)) =
        [(8, false), (4, true), (10, false)] ∧
      (run (.millisecondTick .asserted) (ticking 48)).relay.zones.map (·.duck) = [0, -9] ∧
      (run (.millisecondTick .asserted) (ticking 48)).seq.instances.map (·.preWait) = [39] ∧
      (run (.millisecondTick .asserted) (ticking 48)).links.monitor.timer = 1199 ∧
      (run (.millisecondTick .asserted) (ticking 48)).mix.clock.qualified = 1000 := by decide +kernel
theorem witness_MillisecondSteps_hypotheses :
    FadesOk (ticking 48) ∧ (∀ e ∈ (ticking 48).fades, Held e.target (ticking 48)) := by
  refine ⟨by unfold FadesOk; decide, ?_⟩
  intro e h
  simp only [ticking, List.mem_cons, List.not_mem_nil, or_false] at h
  rcases h with rfl | rfl | rfl
  · trivial
  · trivial
  · show 1 < 2; decide

/-- An entry of a completion that is due. -/
def dueEntry (t : FadeTarget) (goal : Level) (a : Completion) : FadeEntry :=
  { entryOf t .off goal 5 4 true with action := a }

/-- `playing0` with V1 STOPPING by fade to a level, and a zone RELEASING, with one due entry. -/
def completing (t : FadeTarget) (goal : Level) (a : Completion) : State :=
  { playing0 with
    fades := [dueEntry t goal a],
    relay := { show0.relay with zones := [{ zoneOn 2 with phase := .releasing, duck := -3, peak := 9 }] } }

theorem witness_FadeCompletes :
    (run (.fadeComplete (.crosspoint 1 2)) (completing (.crosspoint 1 2) (.db 7) .nothing)).mix.xpts[2][1] = .db 7 ∧
      (run (.fadeComplete (.trim 2)) (completing (.trim 2) (.db 7) .nothing)).mix.trims[2] = .db 7 ∧
      ((run (.fadeComplete (.voice 0)) (completing (.voice 0) (.db 0) .nothing)).voice 0).level = .db 0 ∧
      ((run (.fadeComplete (.voice 1)) (completing (.voice 1) .off .stopVoice)).voice 1) = Voice.freeRecord ∧
      ((run (.fadeComplete (.voice 1)) (completing (.voice 1) (.db (-7)) .stopVoice)).voice 1).state = .stoppingRamp 0 ∧
      (run (.fadeComplete (.duck 0)) (completing (.duck 0) (.db 0) .duckReleased)).relay.zones = [zoneOn 2] ∧
      (run (.fadeComplete .stopMute) (completing .stopMute (.db 0) .nothing)).fades = [] ∧
      (run (.fadeComplete (.trim 3)) (completing (.trim 2) .off .nothing)).fades.length = 1 := by decide +kernel
theorem witness_FadeCompletes_resume :
    (run (.fadeComplete .stopMute) { completing .stopMute (.db 0) .nothing with
      showStop := { show0.showStop with state := .resuming, mute := .db (-2) } }).showStop.state = .normal := by decide

/-! ### Mix Matrix -/

/-- `show0` with the blanking state of O1. -/
def blank1 (b : Blanking) : State := { show0 with mix := { show0.mix with blanking := show0.mix.blanking.set 1 b } }

theorem witness_BlankingTaken :
    answer .console (run (.blank .console 1 32) show0) = some (.badField, []) ∧
      answer .monitor (run (.blank .monitor 1 0) show0) = some (.notPermitted, []) ∧
      (run (.blank .monitor 1 1) show0).mix.blanking[1] = .closing 0 ∧
      (run (.openOutput .console 1 1) (blank1 (.closing 60))).mix.blanking[1] = .opening 180 ∧
      (run (.openOutput .console 1 1) (blank1 (.closing 0))).mix.blanking[1] = .opened ∧
      (run (.blank .console 1 1) (blank1 (.opening 0))).mix.blanking[1] = .blanked ∧
      (run (.blankingRampEnd 1) (blank1 (.opening 240))).mix.blanking[1] = .opened ∧
      (run (.blankingRampEnd 1) (blank1 (.closing 239))).mix.blanking[1] = .closing 239 := by decide

/-- `show0` with a clock reference. -/
def clocked (st : RefState) (present : Bool) (q : Nat) : State :=
  { show0 with mix := { show0.mix with clock := { ClockRef.reset with state := st, present := present, qualified := q } } }

theorem witness_ReferenceTable :
    (run (.setReference .console 1 1) show0).mix.clock.state = .acquiring ∧
      (run (.setReference .console 1 0) (clocked .locked true 0)).mix.clock.state = .internal ∧
      answer .console (run (.setReference .console 1 2) show0) = some (.badField, []) ∧
      kinds .prompt (run (.referenceLost 48000012) (clocked .locked true 0)) = [.refLost] ∧
      (run (.referenceLost 48000012) (clocked .locked true 0)).mix.clock.state = .holdover ∧
      kinds .prompt (run .lockAchieved (clocked .holdover true 1000)) = [.refLocked] ∧
      (run .lockAchieved (clocked .acquiring true 999)).mix.clock.state = .acquiring ∧
      (run .referencePresentAndInRange show0).mix.clock.present = true := by decide

/-- The samples of chapter 6 and 7: L5 at 3,000,000 on the foldback O1 at +6 dB with its ceiling at −3 dB, L1 at
802,249 on the relay output O2 with its leveler at +2 dB, L9 at 1,500,000, and L2 at 4,000,000 on the MAIN O0, which
closes. -/
def frame0 (duck : Int) (carried : Option Nat) : State :=
  { show0 with
    mix := { show0.mix with
      rx := (((show0.mix.rx.set 5 3000000).set 1 802249).set 9 1500000).set 2 4000000,
      blanking := show0.mix.blanking.set 0 (.closing 0),
      xpts := ((show0.mix.xpts.set 1 (show0.mix.xpts[1].set 29 (.db 60))).set 2
        (show0.mix.xpts[2].set 25 (.db 0))).set 0 (show0.mix.xpts[0].set 26 (.db 0)) },
    foldback := { show0.foldback with ceilings := show0.foldback.ceilings.set 1 (-30) },
    relay := { show0.relay with
      zones := [{ zoneOn 2 with leveler := 20, duck := duck, carried := carried }, zoneOn 3],
      playing := [{ newCall 2 (.live 9) 1 0 600 .prompt with id := 3, gate := some ⟨4000, false⟩ }] } }

/-- What is sent for an output after a frame of silence on the inputs. -/
def sentAfter (s : State) (o : OutputNo) : Int :=
  (run (.audioFrame (Vector.replicate 16 0) []) s).mix.txNext[o]

theorem test_outputs :
    sentAfter (frame0 0 none) 1 = 5938679 ∧ sentAfter (frame0 0 none) 2 = 1009960 ∧
      sentAfter (frame0 (-600) (some 3)) 2 = 1501028 ∧ sentAfter (frame0 0 none) 0 = 3983333 := by decide +kernel
theorem witness_AudioFrameOutputs :
    (∀ v, ((frame0 0 none).voice v).delivers = false) ∧
      ((run (.audioFrame (Vector.replicate 16 5) []) (frame0 0 none)).relay.zones.map (·.peak)) = [1009960, 0] ∧
      (run (.audioFrame (Vector.replicate 16 5) []) (frame0 0 none)).mix.meters[1] = ⟨5938679, 1, true⟩ ∧
      (run (.audioFrame (Vector.replicate 16 5) []) (frame0 0 none)).relay.playing.map (·.gate) =
        [some ⟨8000, true⟩] ∧
      (run (.audioFrame (Vector.replicate 16 5) []) (frame0 0 none)).mix.rx[15] = 5 := by decide +kernel

/-- The frame after position 239 leaves BLANKED or OPEN (R117), clips are reported once, and the samples stand in the
slots of the lines, MSB first over 8 zero bits (R121). -/
theorem witness_AudioFrameOutputs_ends :
    (run (.audioFrame (Vector.replicate 16 0) []) (blank1 (.closing 239))).mix.blanking[1] = .blanked ∧
      (run (.audioFrame (Vector.replicate 16 0) []) (blank1 (.closing 238))).mix.blanking[1] = .closing 239 ∧
      (run (.audioFrame (Vector.replicate 16 0) []) (blank1 (.opening 239))).mix.blanking[1] = .opened ∧
      (run (.audioFrame (Vector.replicate 16 0) []) (frame0 0 none)).links.prompt.queue.map
        (fun e => (e.kind, e.output, e.aux1)) = [(.clip, 1, 1)] ∧
      kinds .prompt (run (.audioFrame (Vector.replicate 16 0) []) { frame0 0 none with mix := { (frame0 0 none).mix with
        meters := (frame0 0 none).mix.meters.set 1 ⟨0, 0, true⟩ } }) = [] := by decide +kernel
theorem witness_AudioFrameOutputs_slots :
    tdmOut (run (.audioFrame (Vector.replicate 16 0) []) { show0 with mix := { show0.mix with
        txNext := show0.mix.txNext.set 11 (-2) } }) 1 3 = 0xFFFFFE00 ∧
      (run (.audioFrame (liveOfLines (Vector.replicate 2 ((Vector.replicate 8 0).set 5 0x80000100))) []) show0
        ).mix.rx[13] = -8388607 := by decide +kernel

/-- V0 alone, in a state, at −6 dB on stem 3, for instance 6 or for nobody, with a FIFO; O0 takes stem 3 at 0 dB. -/
def sounding (st : VoiceState) (owner : Owner) (fifo : List FifoEntry) : State :=
  { (show0.setVoice 0 { waitingVoice 1 0 with
      state := st, level := .db (-60), dest := .stem 3, owner := owner, fetch := .none, next := 900, fifo := fifo }) with
    mix := { show0.mix with xpts := show0.mix.xpts.set 0 (show0.mix.xpts[0].set 3 (.db 0)) },
    seq := { show0.seq with instances := [running 6 none], nextId := 9 } }

theorem witness_VoiceFrame :
    sentAfter (sounding .playing .orphan [.frame 2000000]) 0 = 1002319 ∧
      sentAfter (sounding (.stoppingRamp 0) .orphan [.frame 2000000]) 0 = 998142 ∧
      sentAfter (sounding (.stoppingRamp 119) .orphan [.frame 2000000]) 0 = 501159 ∧
      sentAfter (sounding (.reclaiming 239 (.stem 3) (.db (-60)) false) .orphan [.frame 2000000]) 0 = 0 ∧
      sentAfter (sounding .stoppingFade .orphan []) 0 = 0 ∧
      ((run (.audioFrame (Vector.replicate 16 0) [5]) (sounding .playing .orphan [.frame 1, .frame 2])).voice 0).fifo =
        [.frame 2] := by decide +kernel
/-- V0 of the recorded call 3 on the zone of O2, with a tail on the zone of O3: its sample at −6 dB reaches both, at their
page levels, and no stem. -/
def callSounding (st : VoiceState) : State :=
  { sounding st (.call 3) [.frame 2000000] with
    stream := { show0.stream with
      voices := show0.stream.voices.set 0
        { (sounding st (.call 3) [.frame 2000000]).voice 0 with dest := .call } },
    relay := { show0.relay with
      zones := [{ zoneOn 2 with carried := some 3, phase := .ducked }, zoneOn 3],
      playing := [{ newCall 2 (.recorded 0 0 none) 1 (-60) 90 .prompt with id := 3 }], tails := [⟨0, 2, 0⟩] } }
theorem witness_AudioFrameOutputs_calls :
    sentAfter (callSounding .playing) 2 = 502322 ∧ sentAfter (callSounding .playing) 3 = 1002319 ∧
      sentAfter (callSounding .playing) 0 = 0 ∧
      sentAfter (callSounding (.reclaiming 0 .call (.db (-60)) false)) 2 = 0 ∧
      sentAfter (callSounding (.reclaiming 0 .call (.db (-60)) false)) 3 = 998142 ∧
      voicePart (callSounding .playing) 0 1002319 0 = 502322 := by decide +kernel

/-- Two markers of cue 3.0, the second of which fires cue 2.0 of a store whose cue 2.0 waits. -/
def marked (owner : Owner) : State :=
  { sounding .playing owner [.marker 4, .frame 2000000] with
    store := { show0.store with cues := [cueAt (cn 2 0) (.marker (cn 3 0) 4) 5 []] } }
theorem witness_VoiceFrame_marker :
    kinds .prompt (run (.audioFrame (Vector.replicate 16 0) []) (marked .orphan)) = [.marker] ∧
      kinds .prompt (run (.audioFrame (Vector.replicate 16 0) []) (marked (.inst 6 (cn 3 0)))) = [.marker, .cueFired] ∧
      (run (.audioFrame (Vector.replicate 16 0) []) (marked (.inst 6 (cn 3 0)))).seq.instances =
        [running 6 none, waitingInst 9 (cueAt (cn 2 0) (.marker (cn 3 0) 4) 5 []) .marker 0] ∧
      kinds .prompt (run (.audioFrame (Vector.replicate 16 0) []) (marked (.inst 6 (cn 1 0)))) = [.marker] := by
  decide +kernel

/-- The decoder runs before the marker is reported (log 29). -/
theorem test_marker_order :
    kinds .prompt (run (.audioFrame (Vector.replicate 16 0) []) ((marked .orphan).setVoice 0
      { (marked .orphan).voice 0 with buf := [0x09000000], bufPos := 50 })) = [.formatFault, .marker] := by decide +kernel

/-! ### Foldback Controller -/

/-- `show0` with talk ON and its gate timer. -/
def talking (left : Nat) : State := { show0 with foldback := { show0.foldback with talk := some ⟨5, 2, 0, ⟨left, false⟩⟩ } }

theorem witness_FoldbackAndTalk :
    answer .console (run (.setFollow .console 1 1 1 0) show0) = some (.accepted, [1, 0]) ∧
      answer .console (run (.setFollow .console 1 1 1 32) show0) = some (.badField, []) ∧
      answer .console (run (.setFollow .console 1 1 1 2) show0) = some (.badReference, []) ∧
      answer .console (run (.setFollow .console 1 0 0 0) show0) = some (.notFoldback, []) ∧
      answer .console (run (.setOffset .console 1 39 1 0x8000) show0) = some (.accepted, [0xFF, 0x10]) ∧
      answer .console (run (.setOffset .console 1 39 0 0) show0) = some (.notFoldback, []) ∧
      answer .console (run (.setCeiling .console 1 1 1) show0) = some (.accepted, [0, 0]) ∧
      answer .console (run (.setCeiling .console 1 32 1) show0) = some (.badField, []) := by decide
theorem witness_FoldbackAndTalk_talk :
    permitted 0x53 .monitor = true ∧ answer .monitor (run (.talkOn .monitor 1 5 2 61) show0) = some (.accepted, [0, 60]) ∧
      answer .monitor (run (.talkOn .monitor 1 5 3 0) show0) = some (.notFoldback, [0]) ∧
      answer .monitor (run (.talkOn .monitor 1 16 2 0) show0) = some (.badField, []) ∧
      answer .monitor (run (.talkOn .monitor 1 5 2 0) { show0 with showStop := { show0.showStop with state := .stopped } }) =
        some (.showStopped, []) ∧
      answer .monitor (run (.talkOff .monitor 1) show0) = some (.accepted, [0]) ∧
      (run (.talkOff .monitor 1) (talking 9)).foldback.lastEnd = some ⟨.talkOff, 0⟩ ∧
      (run .talkGateExpiry (talking 0)).foldback.lastEnd = some ⟨.gate, 0⟩ ∧
      (run .talkGateExpiry (talking 1)).foldback.lastEnd = none := by decide

/-! ### Relay Controller -/

/-- `show0` at a window end of its frames, with a zone of a gain, a peak and a duck: the window sequence of 8.2. -/
def window0 (leveler : Int) (peak : Nat) (duck : Int) : State :=
  { show0 with relay := { show0.relay with
    window := 4801, zones := [{ zoneOn 2 with leveler := leveler, peak := peak, duck := duck }] } }

theorem witness_RelaySettingsAndWindow :
    (run .windowEnd (window0 20 2300000 0)).relay.zones = [{ zoneOn 2 with leveler := -10 }] ∧
      (run .windowEnd (window0 (-10) 1400000 0)).relay.zones = [{ zoneOn 2 with leveler := -15 }] ∧
      (run .windowEnd (window0 (-15) 800000 0)).relay.zones = [{ zoneOn 2 with leveler := -14 }] ∧
      (run .windowEnd (window0 (-14) 900000 (-300))).relay.zones = [{ zoneOn 2 with leveler := -14, duck := -300 }] ∧
      (run .windowEnd (window0 (-198) 2300000 0)).relay.zones = [{ zoneOn 2 with leveler := -200 }] ∧
      (run .windowEnd (window0 0 0 0)).relay.window = 1 := by decide +kernel
theorem witness_RelaySettings :
    answer .console (run (.setLeveler .console 1 ⟨0, 21, 0xFFFF, 121, 0⟩) show0) =
        some (.accepted, [0xFF, 0xC4, 0, 20, 0, 0, 0, 120, 0xFE, 0xD4]) ∧
      answer .console (run (.setDuckTimes .console 1 2001 5001) show0) = some (.accepted, [7, 0xD0, 0x13, 0x88]) ∧
      answer .console (run (.setGate .console 1 0 1) show0) = some (.accepted, [0xFF, 0x38, 2]) := by decide

/-- A CALL payload of a kind on L9 or region 0. -/
def callOf0 (kind priority : Byte) (zones : BitVec 16) : CallPayload := ⟨kind, 9, 0, 4, 0, zones, priority, 0, 300⟩

/-- The state after a first live call of priority 2 on zone 0. -/
def called : State := run (.call .prompt 1 (callOf0 0 2 1)) show0

theorem witness_CallTaken :
    answer .prompt called = some (.accepted, [1, 1]) ∧
      called.relay.zones = [{ zoneOn 2 with phase := .ducked, carried := some 1 }, zoneOn 3] ∧
      called.fades.map (fun e => (e.target, e.goal, e.n)) = [(.duck 0, .db (-300), 100)] ∧
      called.relay.playing.map (·.gate) = [some ⟨8000, false⟩] ∧
      answer .prompt (run (.call .prompt 1 (callOf0 1 2 3)) show0) = some (.accepted, [1, 1]) ∧
      ((run (.call .prompt 1 (callOf0 1 2 3)) show0).voice 0).owner = .call 1 ∧
      answer .prompt (run (.call .prompt 1 (callOf0 0 2 3)) called) = some (.accepted, [2, 0]) ∧
      answer .prompt (run (.call .prompt 1 (callOf0 0 3 2)) called) = some (.accepted, [2, 1]) := by decide +kernel
theorem witness_CallTaken_preempts :
    answer .prompt (run (.call .prompt 1 (callOf0 0 3 1)) called) = some (.accepted, [2, 1]) ∧
      kinds .console (run (.call .prompt 1 (callOf0 0 3 1)) called) = [.callStarted, .callEnded, .callStarted] ∧
      (run (.call .prompt 1 (callOf0 0 3 1)) called).relay.playing.map (·.id) = [2] := by decide +kernel
theorem witness_CallTaken_refused :
    answer .prompt (run (.call .prompt 1 (callOf0 0 4 1)) show0) = some (.badField, []) ∧
      answer .prompt (run (.call .prompt 1 (callOf0 1 1 1)) loading0) = some (.loading, []) ∧
      answer .prompt (run (.call .prompt 1 (callOf0 0 1 0x8004)) show0) = some (.noSuchZone, [2]) ∧
      answer .prompt (run (.call .prompt 1 { callOf0 1 1 1 with region := 2 }) show0) = some (.badReference, []) ∧
      answer .prompt (run (.call .prompt 1 { callOf0 1 1 1 with outWord := 4 }) show0) = some (.badField, []) ∧
      answer .prompt (run (.call .prompt 1 (callOf0 0 1 1)) { show0 with relay :=
        { show0.relay with waiting := List.replicate 8 (newCall 1 (.live 0) 1 0 0 .prompt) } }) =
          some (.queueFull, []) := by decide
theorem witness_CallsEnd :
    answer .prompt (run (.callEnd .prompt 1 9) called) = some (.noSuchCall, []) ∧
      answer .prompt (run (.callEnd .prompt 1 1) called) = some (.accepted, []) ∧
      (run (.callEnd .prompt 1 1) called).relay.zones.map (·.phase) = [.releasing, .clear] ∧
      answer .prompt (run (.callEnd .prompt 1 1) (run (.call .prompt 1 (callOf0 1 2 3)) show0)) =
        some (.notLive, []) ∧
      ((run (.cancelCall .prompt 1 1) (run (.call .prompt 1 (callOf0 1 2 3)) show0)).voice 0).state = .free ∧
      run (.callGateExpiry 1) called = called ∧
      kinds .prompt (run (.callGateExpiry 1) { called with relay := { called.relay with
        playing := called.relay.playing.map fun c => { c with gate := some ⟨0, false⟩ } } }) =
          [.callStarted, .callEnded] := by decide +kernel

/-- The state after SHOW STOP in `playing0`. -/
def stopped0 : State := run (.showStop .prompt 1) playing0

theorem witness_CallsEnd_showStop :
    answer .prompt (run (.cancelCall .prompt 1 1) stopped0) = some (.notPermitted, []) := by decide

/-! ### What a detach ends -/

/-- A live call PLAYING and one WAITING of the prompt link, which holds the edit hold and loads; talk is ON. -/
def detaching : State :=
  let s := run (.call .prompt 1 (callOf0 0 2 3)) called
  { s with
    smi := { s.smi with load := some { newLoad .prompt with phase := .cues },
                        port := fetchOf .access (.load false) 0 16 false false },
    store := { s.store with holder := some .prompt, state := .loading },
    foldback := { s.foldback with talk := some ⟨5, 2, 0, ⟨9, false⟩⟩ },
    links := { console := up, prompt := up, monitor := up } }

theorem witness_LinkDetaches_prompt :
    (∀ c ∈ detaching.relay.waiting, c.isPromptLive = true) ∧
      ((detaching.relay.playing ++ detaching.relay.waiting).map (·.id)) = [1, 2] ∧
      ((run (.detach .prompt 1) detaching).link .console).queue.map (fun e => (e.kind, e.reason, e.call)) =
        [(.loadFailed, 9, 0), (.holdChanged, 0, 0), (.callEnded, 6, 1), (.callEnded, 6, 2)] ∧
      (run (.detach .prompt 1) detaching).smi.port = fetchOf .access (.load true) 0 16 false false ∧
      (run (.detach .prompt 1) detaching).mix.classes[0] = .unused ∧
      (run (.detach .prompt 1) detaching).relay.playing = [] ∧ (run (.detach .prompt 1) detaching).relay.waiting = [] ∧
      (run (.detach .prompt 1) detaching).relay.zones.map (fun z => (z.carried, z.phase)) =
        [(none, .releasing), (none, .clear)] := by decide +kernel
theorem witness_LinkDetaches_monitor :
    (run (.detach .monitor 1) detaching).foldback.lastEnd = some ⟨.linkLost, 0⟩ ∧
      (run (.detach .monitor 1) detaching).relay = detaching.relay ∧
      kinds .console (run (.detach .monitor 1) detaching) = [] := by decide +kernel

/-! ### Show Stop Controller and device reset -/

/-- `show0` with SHOWSTOP_n and its samples. -/
def lined (line new old : LineState) : State :=
  { show0 with showStop := { show0.showStop with line := line, sampleNew := new, sampleOld := old } }

theorem witness_ShowStopEntered :
    answer .prompt stopped0 = some (.accepted, [1]) ∧ stopped0.seq.instances = [] ∧
      voiceNos.map (fun v => (stopped0.voice v).stopping) =
        true :: true :: List.replicate 30 false ∧
      stopped0.relay.zones.map (·.carried) = [some 1, some 1] ∧
      answer .prompt (run (.showStop .prompt 2) stopped0) = some (.accepted, [1]) ∧
      (run .showstopAsserted (lined .deasserted .asserted .asserted)).showStop.state = .stopped ∧
      (run .showstopAsserted (lined .deasserted .asserted .deasserted)).showStop.state = .normal ∧
      kinds .console (run .showstopDeasserted (lined .asserted .deasserted .deasserted)) = [.lineChanged] := by
  decide +kernel
/-- The records of an entry by the line, the stop fades over 500 ms, and the mute at once where the time is 0 or the list
is full. -/
theorem witness_ShowStopEntered_records :
    kinds .console (run .showstopAsserted { playing0 with
        showStop := { show0.showStop with sampleNew := .asserted, sampleOld := .asserted } }) =
        [.lineChanged, .cueEnded, .cueEnded, .callStarted, .showStopped] ∧
      stopped0.fades.map (fun e => (e.target, e.goal, e.n)) =
        [(.voice 0, .off, 500), (.voice 1, .off, 500), (.stopMute, .off, 500), (.duck 0, .db (-600), 100),
          (.duck 1, .db (-600), 100)] ∧
      (run (.showStop .prompt 1) { show0 with showStop := { show0.showStop with tStop := 0 } }).showStop.mute = .off ∧
      (run (.showStop .prompt 1) (fading fullFades)).showStop.mute = .off ∧
      (run (.showStop .prompt 1) show0).showStop.mute = .db 0 := by decide +kernel
/-- READ CALLS returns the announce input's code in the show-stop call's record, 255 for NONE. -/
theorem test_readCalls_announce :
    sourceBytes stopped0 .announce = [2, 255, 0, 0, 0, 0, 0, 0, 0, 0, 0, 0] ∧
      sourceBytes (run (.setAnnounce .prompt 1 7 0) stopped0) .announce = [2, 7, 0, 0, 0, 0, 0, 0, 0, 0, 0, 0] := by
  decide +kernel
theorem witness_ResumeAndStopSettings :
    answer .prompt (run (.resume .prompt 1) stopped0) = some (.accepted, [2]) ∧
      (run (.resume .prompt 1) stopped0).relay.zones.map (·.phase) = [.releasing, .releasing] ∧
      answer .prompt (run (.resume .prompt 1) { stopped0 with showStop := { stopped0.showStop with tResume := 0 } }) =
        some (.accepted, [0]) ∧
      answer .prompt (run (.resume .prompt 1) show0) = some (.accepted, [0]) ∧
      answer .prompt (run (.resume .prompt 1) (lined .asserted .asserted .asserted)) = some (.lineActive, []) ∧
      answer .prompt (run (.setStopTimes .prompt 1 5001 10001) show0) = some (.accepted, [0x13, 0x88, 0x27, 0x10]) ∧
      answer .prompt (run (.setAnnounce .prompt 1 255 61) show0) = some (.accepted, [255, 0, 60]) ∧
      answer .prompt (run (.setAnnounce .prompt 1 16 0) show0) = some (.badField, []) := by decide +kernel
theorem witness_DeviceReset :
    (run (.resetReleased .asserted true) (run .resetAsserted stopped0)).relay.playing.map (·.id) = [1] ∧
      run (.resetReleased .deasserted false) stopped0 = State.reset ∧
      run .resetAsserted stopped0 = { stopped0 with
        stream := { stopped0.stream with voices := Vector.replicate 32 Voice.freeRecord }, fades := [],
        relay := { stopped0.relay with zones := [], playing := [] },
        showStop := { stopped0.showStop with state := .normal },
        timing := { stopped0.timing with inReset := true } } ∧
      mhack (run (.resetReleased .asserted true) stopped0) = true ∧
      (run (.attach .console 1 1) (run .resetAsserted show0)).links.console.slot = none := by decide +kernel

end Sys2Proof.Tests
end

section
/-! SUPPORT. Which operations leave the Show Memory Interface as it stands, one lemma for each; the operations of a load
and of the port, which do not, are treated by the delays that they keep (R1, R2). -/

namespace Sys2Proof.Machine

/-! ### Sequences of operations -/

theorem foldl_smi {α : Type} (f : State → α → State) (hf : ∀ s a, (f s a).smi = s.smi) (as : List α) (s : State) :
    (as.foldl f s).smi = s.smi := by
  induction as generalizing s with
  | nil => rfl
  | cons a as ih => rw [List.foldl_cons, ih, hf]

@[simp] theorem refuse_fst (r : Result) (s : State) : (refuse r s).1 = s := rfl

@[simp] theorem acceptWith_fst (p : List Byte) (s : State) : (acceptWith p s).1 = s := rfl

@[simp] theorem reloadPresence_smi (l : Role) (s : State) : (reloadPresence l s).smi = s.smi := by
  unfold reloadPresence
  split <;> simp

/-- What a request's body does to the Show Memory Interface, the request does, or it leaves the interface alone. -/
theorem serve_rel (R : Smi → Smi → Prop) (refl : ∀ m, R m m) {body : State → State × Reply}
    (hb : ∀ u, R u.smi (body u).1.smi) (l : Role) (c t : Byte) (s : State) : R s.smi (serve l c t body s).smi := by
  unfold serve
  split
  · exact refl _
  · split
    · simpa using refl _
    · split
      · simpa using refl _
      · simpa using hb (reloadPresence l s)

theorem serve_smi {body : State → State × Reply} (hb : ∀ u, (body u).1.smi = u.smi) (l : Role) (c t : Byte)
    (s : State) : (serve l c t body s).smi = s.smi :=
  serve_rel (fun a b => b = a) (fun _ => rfl) hb l c t s

/-- What an event of the part does to the Show Memory Interface is done, or the interface is left alone. -/
theorem occur_rel (R : Smi → Smi → Prop) (refl : ∀ m, R m m) {f : State → State} (hf : ∀ u, R u.smi (f u).smi)
    (s : State) : R s.smi (occur f s).smi := by
  unfold occur
  split
  · exact refl _
  · exact hf s

theorem occur_smi {f : State → State} (hf : ∀ u, (f u).smi = u.smi) (s : State) : (occur f s).smi = s.smi :=
  occur_rel (fun a b => b = a) (fun _ => rfl) hf s

/-! ### Fades (chapter 5) -/

@[simp] theorem setLevel_smi (t : FadeTarget) (l : Level) (s : State) : (setLevel t l s).smi = s.smi := by
  cases t <;> rfl

@[simp] theorem startRamp_smi (v : VoiceNo) (s : State) : (startRamp v s).smi = s.smi := by
  unfold startRamp
  split <;> simp

@[simp] theorem duckReleased_smi (z : ZoneNo) (s : State) : (duckReleased z s).smi = s.smi := rfl

@[simp] theorem stopMuteReport_smi (s : State) : (stopMuteReport s).smi = s.smi := by
  unfold stopMuteReport
  split <;> simp

@[simp] theorem reportTarget_smi (t : FadeTarget) (s : State) : (reportTarget t s).smi = s.smi := by
  cases t <;> simp [reportTarget]

@[simp] theorem completeAtOnce_smi (p : Post) (s : State) : (completeAtOnce p s).smi = s.smi := by
  unfold completeAtOnce
  split <;> simp

@[simp] theorem snapFade_smi (p : Post) (s : State) : (snapFade p s).smi = s.smi := by
  unfold snapFade
  split <;> simp

@[simp] theorem postFade_smi (p : Post) (s : State) : (postFade p s).1.smi = s.smi := by
  rcases postFade_cases p s with ⟨_, h⟩ | ⟨_, _, h⟩ | ⟨_, _, _, h⟩ | ⟨_, _, _, h⟩ <;> simp [h]

@[simp] theorem post_smi (p : Post) (s : State) : (post p s).smi = s.smi := postFade_smi p s

@[simp] theorem writeLevels_smi (es : List FadeEntry) (s : State) : (writeLevels es s).smi = s.smi := by
  induction es generalizing s with
  | nil => rfl
  | cons e es ih =>
    unfold writeLevels
    split <;> simp [ih]

@[simp] theorem stepFades_smi (s : State) : (stepFades s).smi = s.smi := by simp [stepFades]

/-! ### Voices (chapter 4) -/

@[simp] theorem postFetch_smi (v : VoiceNo) (s : State) : (postFetch v s).smi = s.smi := by
  unfold postFetch
  split <;> simp

@[simp] theorem runDecoder_smi (v : VoiceNo) (s : State) : (runDecoder v s).smi = s.smi := by
  unfold runDecoder
  split
  · dsimp only
    split
    · split <;> simp
    · simp
  · rfl

@[simp] theorem endInst_smi (i : CueInstance) (reason : Nat) (s : State) : (endInst i reason s).smi = s.smi := rfl

@[simp] theorem checkEnd_smi (id : Nat) (s : State) : (checkEnd id s).smi = s.smi := by
  unfold checkEnd
  split
  · split <;> simp
  · rfl

@[simp] theorem checkOwner_smi (o : Owner) (s : State) : (checkOwner o s).smi = s.smi := by
  cases o <;> simp [checkOwner]

@[simp] theorem freeAndCheck_smi (v : VoiceNo) (s : State) : (freeAndCheck v s).smi = s.smi := by simp [freeAndCheck]

@[simp] theorem postStopFade_smi (p : Post) (v : VoiceNo) (s : State) : (postStopFade p v s).smi = s.smi := by
  unfold postStopFade
  dsimp only
  split <;> simp

@[simp] theorem stopVoice_smi (v : VoiceNo) (t : Nat) (s : State) : (stopVoice v t s).smi = s.smi := by
  unfold stopVoice
  split
  case h_3 | h_4 | h_5 => split <;> simp
  all_goals simp

@[simp] theorem stopVoices_smi (vs : List VoiceNo) (t : Nat) (s : State) : (stopVoices vs t s).smi = s.smi :=
  foldl_smi _ (fun s v => stopVoice_smi v t s) vs s

@[simp] theorem stealVoice_smi (r : AllocReq) (v : VoiceNo) (s : State) : (stealVoice r v s).smi = s.smi := rfl

@[simp] theorem takeFree_smi (r : AllocReq) (v : VoiceNo) (s : State) : (takeFree r v s).smi = s.smi := by
  simp [takeFree]

/-! ### Calls (chapter 8) -/

@[simp] theorem attackZones_smi (id depth : Nat) (zones : BitVec 16) (s : State) :
    (attackZones id depth zones s).smi = s.smi :=
  foldl_smi _ (fun s z => by simp [attackZone]) _ s

@[simp] theorem releaseZones_smi (zones : BitVec 16) (s : State) : (releaseZones zones s).smi = s.smi :=
  foldl_smi _ (fun s z => by simp [releaseZone]) _ s

@[simp] theorem leaveCall_smi (c : Call) (v : VoiceNo) (s : State) : (leaveCall c v s).smi = s.smi := by
  unfold leaveCall
  dsimp only
  split <;> simp

@[simp] theorem endCallCore_smi (id : Nat) (reason : CallEnd) (s : State) :
    (endCallCore id reason s).smi = s.smi := by
  unfold endCallCore
  split
  · rfl
  · dsimp only
    split <;> split <;> simp

@[simp] theorem tellVictim_smi (x : Voice) (v : VoiceNo) (s : State) : (tellVictim x v s).1.smi = s.smi := by
  unfold tellVictim
  split
  · rfl
  · simp
  · split <;> simp

theorem allocate_smi {r : AllocReq} {s : State} {a : Allocated} (h : allocate r s = some a) :
    a.state.smi = s.smi := by
  unfold allocate at h
  split at h
  · cases h
    simp
  · split at h
    · cases h
      simp
    · cases h

@[simp] theorem beginCall_smi (c : Call) (v : Option VoiceNo) (s : State) : (beginCall c v s).smi = s.smi := by
  simp [beginCall]

@[simp] theorem startCall_smi (c : Call) (s : State) : (startCall c s).state.smi = s.smi := by
  unfold startCall
  split
  · split
    · next h => simp [allocate_smi h]
    · simp
  · simp

@[simp] theorem scanOnce_smi (cs : List Call) (claimed : BitVec 16) (again : Bool) (s : State) :
    (scanOnce cs claimed again s).1.smi = s.smi := by
  induction cs generalizing claimed again s with
  | nil => rfl
  | cons c cs ih =>
    unfold scanOnce
    split <;> simp [ih]

@[simp] theorem scanFuel_smi (n : Nat) (s : State) : (scanFuel n s).smi = s.smi := by
  induction n generalizing s with
  | zero => rfl
  | succ n ih =>
    unfold scanFuel
    dsimp only
    split <;> simp [ih]

@[simp] theorem scan_smi (s : State) : (scan s).smi = s.smi := scanFuel_smi _ s

@[simp] theorem endCall_smi (id : Nat) (reason : CallEnd) (s : State) : (endCall id reason s).smi = s.smi := by
  unfold endCall
  split <;> simp

@[simp] theorem endCalls_smi (ids : List Nat) (reason : CallEnd) (s : State) :
    (endCalls ids reason s).smi = s.smi := by
  unfold endCalls
  split
  · rfl
  · rw [scan_smi, foldl_smi _ fun s id => endCallCore_smi id reason s]

theorem allocateScan_smi {r : AllocReq} {s : State} {a : State × VoiceNo} (h : allocateScan r s = some a) :
    a.1.smi = s.smi := by
  unfold allocateScan at h
  split at h
  · next b hb =>
    cases h
    dsimp only
    split <;> simp [allocate_smi hb]
  · cases h

@[simp] theorem ownerLost_smi (o : Owner) (reason : CallEnd) (s : State) : (ownerLost o reason s).smi = s.smi := by
  cases o <;> simp [ownerLost]

@[simp] theorem acceptCall_smi (c : Call) (s : State) : (acceptCall c s).1.smi = s.smi := by
  simp only [acceptCall, scan_smi]
  rw [foldl_smi _ fun s id => endCallCore_smi id .preempted s]

@[simp] theorem createShowStopCall_smi (s : State) : (createShowStopCall s).smi = s.smi := acceptCall_smi _ s

@[simp] theorem joinShowStopCall_smi (s : State) : (joinShowStopCall s).smi = s.smi := by
  unfold joinShowStopCall
  split <;> simp

/-! ### The Cue Sequencer's operations (chapter 3) -/

@[simp] theorem movePlayhead_smi (p : Option CueNum) (cause : Nat) (s : State) :
    (movePlayhead p cause s).smi = s.smi := rfl

@[simp] theorem makeRoom_smi (s : State) : (makeRoom s).smi = s.smi := by
  unfold makeRoom
  split
  · rfl
  · split <;> simp

@[simp] theorem createInst_smi (c : Cue) (cause : Cause) (s : State) : (createInst c cause s).smi = s.smi := rfl

@[simp] theorem reachInst_smi (t id : Nat) (s : State) : (reachInst t id s).smi = s.smi := by
  unfold reachInst
  split
  · rfl
  · split <;> simp

@[simp] theorem reachInsts_smi (t : Nat) (ids : List Nat) (s : State) : (reachInsts t ids s).smi = s.smi :=
  foldl_smi _ (fun s id => reachInst_smi t id s) ids s

@[simp] theorem actionFault_smi (i : CueInstance) (pos : Nat) (why : Result) (s : State) :
    (actionFault i pos why s).smi = s.smi := rfl

@[simp] theorem dispatchPlay_smi (i : CueInstance) (pos : Nat) (p : PlaySpec) (s : State) :
    (dispatchPlay i pos p s).smi = s.smi := by
  unfold dispatchPlay
  split
  · next h => exact allocateScan_smi h
  · simp

@[simp] theorem dispatchStop_smi (i : CueInstance) (target : StopTarget) (t : Nat) (s : State) :
    (dispatchStop i target t s).smi = s.smi := by
  cases target <;> simp [dispatchStop]

@[simp] theorem fadeOneVoice_smi (level : Level) (t : Nat) (stopAtEnd : Bool) (v : VoiceNo) (s : State) :
    (fadeOneVoice level t stopAtEnd v s).smi = s.smi := by
  unfold fadeOneVoice
  dsimp only
  split
  · split
    case h_2 | h_3 => split <;> simp
    all_goals simp
  · split <;> simp

@[simp] theorem dispatchVoiceFade_smi (g : Nat) (level : Level) (t : Nat) (stopAtEnd : Bool) (s : State) :
    (dispatchVoiceFade g level t stopAtEnd s).smi = s.smi :=
  foldl_smi _ (fun s v => fadeOneVoice_smi level t stopAtEnd v s) _ s

@[simp] theorem postScene_smi (entries : List SceneEntry) (t : Nat) (s : State) :
    (postScene entries t s).smi = s.smi :=
  foldl_smi _ (fun s _ => post_smi _ s) entries s

@[simp] theorem dispatchCall_smi (i : CueInstance) (pos : Nat) (c : CallSpec) (s : State) :
    (dispatchCall i pos c s).smi = s.smi := by
  unfold dispatchCall
  split
  · simp
  · split <;> simp

@[simp] theorem dispatchAction_smi (i : CueInstance) (pos : Nat) (a : Action) (s : State) :
    (dispatchAction i pos a s).smi = s.smi := by
  cases a with
  | scene id t =>
    simp only [dispatchAction]
    split <;> simp
  | foldbackMode o m =>
    simp only [dispatchAction]
    split <;> simp
  | _ => simp [dispatchAction]

@[simp] theorem dispatchFrom_smi (i : CueInstance) (pos : Nat) (as : List Action) (s : State) :
    (dispatchFrom i pos as s).smi = s.smi := by
  induction as generalizing pos s with
  | nil => rfl
  | cons a as ih => simp [dispatchFrom, ih]

@[simp] theorem enterRunning_smi (id : Nat) (s : State) : (enterRunning id s).smi = s.smi := by
  unfold enterRunning
  split <;> simp

@[simp] theorem tableFull_smi (n : CueNum) (cause : Cause) (s : State) : (tableFull n cause s).smi = s.smi := rfl

theorem expireFollow_smi {fire : Cue → State → State} (hf : ∀ c s, (fire c s).smi = s.smi) (id : Nat) (s : State) :
    (expireFollow fire id s).smi = s.smi := by
  unfold expireFollow
  split
  · rfl
  · split
    · rfl
    · dsimp only
      split
      · split
        · split <;> simp [hf]
        · simp
      · simp

@[simp] theorem fireChain_smi (n : Nat) (cause : Cause) (c : Cue) (s : State) :
    (fireChain n cause c s).smi = s.smi := by
  induction n generalizing cause c s with
  | zero => rfl
  | succ n ih =>
    unfold fireChain
    dsimp only
    split
    · split <;> simp [expireFollow_smi (ih .follow)]
    · simp

@[simp] theorem fireCue_smi (cause : Cause) (c : Cue) (s : State) : (fireCue cause c s).smi = s.smi :=
  fireChain_smi _ cause c s

@[simp] theorem runInst_smi (id : Nat) (s : State) : (runInst id s).smi = s.smi := by
  unfold runInst
  dsimp only
  split <;> simp [expireFollow_smi (fireCue_smi .follow)]

@[simp] theorem fireMarkerCue_smi (c : Cue) (s : State) : (fireMarkerCue c s).smi = s.smi := by
  unfold fireMarkerCue
  split <;> simp

@[simp] theorem reportMarker_smi (v : VoiceNo) (id : Byte) (s : State) : (reportMarker v id s).smi = s.smi := by
  unfold reportMarker
  dsimp only
  split
  · rw [foldl_smi _ fun s q => fireMarkerCue_smi q s, raise_smi]
  · simp

/-! ### Level controls and the Mix Matrix (chapters 5 and 6) -/

@[simp] theorem acceptFade_smi (p : Post) (s : State) : (acceptFade p s).1.smi = s.smi := by simp [acceptFade]

@[simp] theorem setLevelBody_smi (l : Role) (source output : Byte) (level : Half) (time : Word) (s : State) :
    (setLevelBody l source output level time s).1.smi = s.smi := by
  unfold setLevelBody
  split
  · simp
  · split
    · split <;> simp
    · simp

@[simp] theorem setTrimBody_smi (l : Role) (output : Byte) (level : Half) (time : Word) (s : State) :
    (setTrimBody l output level time s).1.smi = s.smi := by
  unfold setTrimBody
  split
  · simp
  · split
    · split <;> simp
    · simp

@[simp] theorem runCompletion_smi (e : FadeEntry) (s : State) : (runCompletion e s).smi = s.smi := by
  unfold runCompletion
  split
  case h_2 =>
    unfold stopVoiceCompletion
    split <;> simp
  all_goals simp

@[simp] theorem completeFade_smi (t : FadeTarget) (s : State) : (completeFade t s).smi = s.smi := by
  unfold completeFade
  split
  · split <;> simp
  · rfl

@[simp] theorem setBlanking_smi (o : OutputNo) (b : Blanking) (s : State) : (setBlanking o b s).smi = s.smi := rfl

@[simp] theorem blankingBody_smi (f : Blanking → Blanking) (l : Role) (output : Byte) (s : State) :
    (blankingBody f l output s).1.smi = s.smi := by
  unfold blankingBody
  split
  · simp
  · split <;> simp

@[simp] theorem modifyClock_smi (f : ClockRef → ClockRef) (s : State) : (modifyClock f s).smi = s.smi := rfl

@[simp] theorem setReferenceBody_smi (value : Byte) (s : State) : (setReferenceBody value s).1.smi = s.smi := by
  unfold setReferenceBody
  split <;> simp

@[simp] theorem loseReference_smi (rate : Nat) (s : State) : (loseReference rate s).smi = s.smi := by
  unfold loseReference
  dsimp only
  split <;> simp

@[simp] theorem achieveLock_smi (s : State) : (achieveLock s).smi = s.smi := by
  unfold achieveLock
  split <;> simp

@[simp] theorem clearMeters_smi (s : State) : (clearMeters s).smi = s.smi := rfl

/-! ### The frame and the millisecond -/

@[simp] theorem reportMarkers_smi (v : VoiceNo) (n : Nat) (s : State) : (reportMarkers v n s).smi = s.smi := by
  induction n generalizing s with
  | zero => rfl
  | succ n ih =>
    unfold reportMarkers
    dsimp only
    split <;> simp [ih]

@[simp] theorem takeFrame_smi (v : VoiceNo) (s : State) : (takeFrame v s).1.smi = s.smi := by
  unfold takeFrame
  dsimp only
  split <;> simp

@[simp] theorem dropMarkers_smi (v : VoiceNo) (s : State) : (dropMarkers v s).smi = s.smi := by
  unfold dropMarkers
  dsimp only
  split <;> simp

@[simp] theorem playVoices_smi (vs : List VoiceNo) (s : State) : (playVoices vs s).1.smi = s.smi := by
  induction vs generalizing s with
  | nil => rfl
  | cons v vs ih => simp [playVoices, playVoice, ih]

@[simp] theorem reportClips_smi (s : State) (ds : List Delivery) (t : State) : (reportClips s ds t).smi = t.smi :=
  foldl_smi _ (fun t o => by unfold reportClip; split <;> simp) outputNos t

@[simp] theorem audioFrame_smi (live : Vector (BitVec 24) 16) (first : List VoiceNo) (s : State) :
    (audioFrame live first s).smi = s.smi := by
  simp [audioFrame, finishFrame, countStems, runGates]

@[simp] theorem millisecondTick_smi (sample : LineState) (s : State) : (millisecondTick sample s).smi = s.smi := by
  unfold millisecondTick
  split <;> simp [stepTimers]

/-! ### Talk, monitor settings and the Relay Controller (chapters 7 and 8) -/

@[simp] theorem endTalk_smi (cause : TalkCause) (s : State) : (endTalk cause s).smi = s.smi := by
  unfold endTalk
  split <;> rfl

@[simp] theorem setFollowBody_smi (output mode main : Byte) (s : State) :
    (setFollowBody output mode main s).1.smi = s.smi := by
  unfold setFollowBody
  split
  · split <;> simp
  · simp

@[simp] theorem setOffsetBody_smi (source output : Byte) (offset : Half) (s : State) :
    (setOffsetBody source output offset s).1.smi = s.smi := by
  unfold setOffsetBody
  split
  · split <;> simp [setOffset]
  · simp

@[simp] theorem setCeilingBody_smi (output : Byte) (ceiling : Half) (s : State) :
    (setCeilingBody output ceiling s).1.smi = s.smi := by
  unfold setCeilingBody
  split
  · simp
  · split <;> simp [setCeiling]

@[simp] theorem talkOnBody_smi (input : Byte) (set : BitVec 32) (level : Half) (s : State) :
    (talkOnBody input set level s).1.smi = s.smi := by
  unfold talkOnBody
  split
  · simp
  · split
    · simp
    · split
      · simp
      · split <;> simp

@[simp] theorem expireTalk_smi (s : State) : (expireTalk s).smi = s.smi := by
  unfold expireTalk
  split
  · split <;> simp
  · rfl

@[simp] theorem callBody_smi (p : CallPayload) (s : State) : (callBody p s).1.smi = s.smi := by
  unfold callBody
  split
  · simp
  · split <;> simp

@[simp] theorem callEndBody_smi (id : Nat) (s : State) : (callEndBody id s).1.smi = s.smi := by
  unfold callEndBody
  split
  · simp
  · split <;> simp

@[simp] theorem cancelCallBody_smi (id : Nat) (s : State) : (cancelCallBody id s).1.smi = s.smi := by
  unfold cancelCallBody
  split
  · simp
  · split <;> simp

@[simp] theorem expireCall_smi (id : Nat) (s : State) : (expireCall id s).smi = s.smi := by
  unfold expireCall
  split
  · split
    · split <;> simp
    · rfl
  · rfl

@[simp] theorem endWindow_smi (s : State) : (endWindow s).smi = s.smi := by
  unfold endWindow
  split <;> rfl

/-! ### The Cue Store's edits and the links (chapters 2 and 10) -/

@[simp] theorem changeHolder_smi (h : Option Role) (s : State) : (changeHolder h s).smi = s.smi := rfl

theorem edit_smi {body : State → State × Reply} (hb : ∀ u, (body u).1.smi = u.smi) (l : Role) (s : State) :
    (edit l body s).1.smi = s.smi := by
  unfold edit
  split
  · simp
  · exact hb s

theorem framed_smi {take : State → State} (ht : ∀ u, (take u).smi = u.smi) (l : Role) (code tag : Byte)
    (words : List Word) (s : State) : (framed l code tag words take s).smi = s.smi := by
  unfold framed
  split
  · exact ht s
  · exact occur_smi (fun u => respond_smi l code tag _ u) s

@[simp] theorem acceptCueEdit_fst (s : State) : (acceptCueEdit s).1 = s := rfl

@[simp] theorem acceptSceneEdit_fst (s : State) : (acceptSceneEdit s).1 = s := rfl

@[simp] theorem refuseItem_fst (r : Result) (item : Nat) (s : State) : (refuseItem r item s).1 = s := rfl

@[simp] theorem putCueBody_smi (words : List Word) (s : State) : (putCueBody words s).1.smi = s.smi := by
  unfold putCueBody
  split
  · simp
  · split
    · simp
    · split
      · simp
      · split <;> simp

@[simp] theorem deleteCueBody_smi (n : CueNum) (s : State) : (deleteCueBody n s).1.smi = s.smi := by
  unfold deleteCueBody
  split
  · simp
  · split
    · simp
    · dsimp only
      split <;> simp

@[simp] theorem putSceneBody_smi (words : List Word) (s : State) : (putSceneBody words s).1.smi = s.smi := by
  unfold putSceneBody
  split
  · simp
  · split <;> simp

@[simp] theorem deleteSceneBody_smi (id : Nat) (s : State) : (deleteSceneBody id s).1.smi = s.smi := by
  unfold deleteSceneBody
  split <;> simp

@[simp] theorem attachBody_smi (l : Role) (revision : Byte) (s : State) :
    (attachBody l revision s).1.smi = s.smi := by
  unfold attachBody
  split
  · simp
  · split <;> simp

@[simp] theorem readEventsBody_smi (l : Role) (count : Byte) (s : State) :
    (readEventsBody l count s).1.smi = s.smi := rfl

/-! ### The Cue Sequencer's commands (chapter 3) -/

@[simp] theorem goBody_smi (l : Role) (expected : Option CueNum) (s : State) :
    (goBody l expected s).1.smi = s.smi := by
  unfold goBody
  split
  · rfl
  · split <;> simp [acceptGo]

@[simp] theorem standbyBody_smi (s : State) : (standbyBody s).1.smi = s.smi := by
  unfold standbyBody
  split
  · simp
  · split <;> simp

@[simp] theorem fireBody_smi (l : Role) (n : CueNum) (s : State) : (fireBody l n s).1.smi = s.smi := by
  unfold fireBody
  split
  · simp
  · split
    · simp
    · split <;> simp

@[simp] theorem setPlayheadBody_smi (n : CueNum) (s : State) : (setPlayheadBody n s).1.smi = s.smi := by
  unfold setPlayheadBody
  split
  · simp
  · split
    · simp
    · split <;> simp

@[simp] theorem stopEverything_smi (t : Nat) (s : State) : (stopEverything t s).smi = s.smi := by
  simp [stopEverything]

@[simp] theorem endPrewait_smi (id : Nat) (s : State) : (endPrewait id s).smi = s.smi := by
  unfold endPrewait
  split
  · split <;> simp
  · rfl

@[simp] theorem endFollow_smi (id : Nat) (s : State) : (endFollow id s).smi = s.smi := by
  unfold endFollow
  split
  · exact expireFollow_smi (fireCue_smi .follow) id s
  · rfl

/-! ### Show stop (chapter 9) -/

@[simp] theorem setShowState_smi (st : ShowState) (s : State) : (setShowState st s).smi = s.smi := rfl

@[simp] theorem stopCues_smi (s : State) : (stopCues s).smi = s.smi := by
  unfold stopCues endAllInsts
  rw [stopVoices_smi, foldl_smi _ fun t i => by simp, setShowState_smi]

@[simp] theorem enterShowStop_smi (line : Bool) (s : State) : (enterShowStop line s).smi = s.smi := by
  simp [enterShowStop]

@[simp] theorem takeShowStop_smi (line : Bool) (s : State) : (takeShowStop line s).smi = s.smi := by
  unfold takeShowStop
  split <;> simp

@[simp] theorem acceptShowState_fst (s : State) : (acceptShowState s).1 = s := rfl

@[simp] theorem endShowStopCall_smi (s : State) : (endShowStopCall s).smi = s.smi := by
  unfold endShowStopCall
  split <;> simp

@[simp] theorem resumeBody_smi (s : State) : (resumeBody s).1.smi = s.smi := by
  unfold resumeBody
  split
  · simp
  · split <;> simp [resumeShow]

@[simp] theorem setAnnounceBody_smi (input : Byte) (level : Half) (s : State) :
    (setAnnounceBody input level s).1.smi = s.smi := by
  unfold setAnnounceBody
  split <;> simp

@[simp] theorem changeLine_smi (v : LineState) (s : State) : (changeLine v s).smi = s.smi := rfl

@[simp] theorem assertLine_smi (s : State) : (assertLine s).smi = s.smi := by
  unfold assertLine
  split <;> simp

@[simp] theorem deassertLine_smi (s : State) : (deassertLine s).smi = s.smi := by
  unfold deassertLine
  split <;> simp

/-! ### The Stream Engine's commands (chapter 4) -/

@[simp] theorem playBody_smi (w : ActionWords) (s : State) : (playBody w s).1.smi = s.smi := by
  unfold playBody
  split
  · simp
  · simp
  · split
    · simp
    · split
      · simp
      · split
        · simp
        · split
          · next h => exact allocateScan_smi h
          · simp

@[simp] theorem stopVoiceOfCall_smi (v : VoiceNo) (t : Nat) (s : State) : (stopVoiceOfCall v t s).smi = s.smi := by
  unfold stopVoiceOfCall
  split <;> simp

@[simp] theorem enterPlaying_smi (v : VoiceNo) (s : State) : (enterPlaying v s).smi = s.smi := by
  unfold enterPlaying
  dsimp only
  split
  · split
    · split <;> simp
    · rfl
  · rfl

@[simp] theorem enterStarved_smi (v : VoiceNo) (s : State) : (enterStarved v s).smi = s.smi := by
  unfold enterStarved
  dsimp only
  split <;> simp

@[simp] theorem returnToPlaying_smi (v : VoiceNo) (s : State) : (returnToPlaying v s).smi = s.smi := by
  unfold returnToPlaying
  dsimp only
  split <;> simp

@[simp] theorem stopSiblings_smi (x : Voice) (s : State) : (stopSiblings x s).smi = s.smi := by
  unfold stopSiblings
  split
  · split <;> simp
  · rfl

@[simp] theorem naturalEnd_smi (v : VoiceNo) (s : State) : (naturalEnd v s).smi = s.smi := by
  unfold naturalEnd
  dsimp only
  split <;> simp

@[simp] theorem endDeclick_smi (v : VoiceNo) (s : State) : (endDeclick v s).smi = s.smi := by
  unfold endDeclick
  split
  · split <;> simp
  · rfl

@[simp] theorem dropTail_smi (v : VoiceNo) (s : State) : (dropTail v s).smi = s.smi := rfl

@[simp] theorem endReclaim_smi (v : VoiceNo) (s : State) : (endReclaim v s).smi = s.smi := by
  unfold endReclaim
  dsimp only
  split
  · split
    · split <;> simp
    · rfl
  · rfl

end Sys2Proof.Machine
end

section
/-! SUPPORT. The access delays (R2): the delay now set, tACC, and the delay of the transfer in flight; what the
operations of a load and of the port make of them, and what each command does. -/

namespace Sys2Proof.Machine

/-! ### The delays that the interface holds -/

/-- The delay of the transfer in flight, if there is one. -/
def Port.delay : Port → Option Nat
  | .fetch t => some t.tacc
  | _ => none

@[simp] theorem Port.delay_idle : Port.idle.delay = none := rfl

@[simp] theorem Port.delay_held : Port.held.delay = none := rfl

@[simp] theorem Port.delay_fetch (t : Transfer) : (Port.fetch t).delay = some t.tacc := rfl

theorem Port.delay_eq_none {p : Port} (h : ∀ t, p ≠ .fetch t) : p.delay = none := by
  cases p with
  | fetch t => exact absurd rfl (h t)
  | _ => rfl

/-- tACC with the delay of the transfer in flight. -/
def Smi.delays (m : Smi) : Nat × Option Nat := (m.tacc, m.port.delay)

/-- A transfer of `b` has the delay that it had in `a`, or, where it started since, the delay that was set in `a`. -/
def TransferDelayKept (a b : Smi) : Prop := ∀ d, b.port.delay = some d → d = a.port.delay.getD a.tacc

/-- tACC stays as it was, and a transfer takes it at its start and keeps it. -/
def DelaysKept (a b : Smi) : Prop := b.tacc = a.tacc ∧ TransferDelayKept a b

theorem TransferDelayKept.of_port {a b : Smi} (h : b.port.delay = a.port.delay) : TransferDelayKept a b := by
  intro d hd
  rw [← h, hd, Option.getD_some]

theorem TransferDelayKept.of_none {a b : Smi} (h : b.port.delay = none) : TransferDelayKept a b := by
  intro d hd
  rw [h] at hd
  cases hd

theorem DelaysKept.of_delays {a b : Smi} (h : b.delays = a.delays) : DelaysKept a b := by
  obtain ⟨htacc, hport⟩ := Prod.mk.inj h
  exact ⟨htacc, .of_port hport⟩

theorem DelaysKept.of_eq {a b : Smi} (h : b = a) : DelaysKept a b := .of_delays (congrArg Smi.delays h)

theorem DelaysKept.refl (m : Smi) : DelaysKept m m := .of_eq rfl

/-- Where the transfer in flight has ended, tACC alone is kept. -/
theorem DelaysKept.of_ended {a b : Smi} (h : b.delays = (a.tacc, none)) : DelaysKept a b := by
  obtain ⟨htacc, hport⟩ := Prod.mk.inj h
  exact ⟨htacc, .of_none hport⟩

/-- Where no transfer was in flight and one starts, it takes tACC. -/
theorem DelaysKept.of_started {a b : Smi} (ha : a.port.delay = none) (h : b.delays = (a.tacc, some a.tacc)) :
    DelaysKept a b := by
  obtain ⟨htacc, hport⟩ := Prod.mk.inj h
  refine ⟨htacc, fun d hd => ?_⟩
  rw [hport] at hd
  rw [ha, Option.getD_none, ← Option.some.inj hd]

/-! ### A load (1.5) -/

@[simp] theorem clearShow_delays (s : State) : (clearShow s).smi.delays = s.smi.delays := rfl

@[simp] theorem failLoad_delays (why : LoadFailure) (s : State) : (failLoad why s).smi.delays = s.smi.delays := by
  unfold failLoad
  split <;> simp

/-- The discard mark of a read in flight leaves its delay. -/
@[simp] theorem abortLoad_delays (s : State) : (abortLoad s).smi.delays = s.smi.delays := by
  have hfail := failLoad_delays .aborted s
  unfold abortLoad
  dsimp only
  split
  · next tr hport =>
    split
    · rw [← hfail]
      simp [Smi.delays, hport]
    · exact hfail
  · exact hfail

@[simp] theorem setLoad_delays (ld : Load) (s : State) : (setLoad ld s).smi.delays = s.smi.delays := rfl

@[simp] theorem succeedLoad_delays (h : Header) (regions : List Region) (s : State) :
    (succeedLoad h regions s).smi.delays = s.smi.delays := by
  unfold succeedLoad
  dsimp only
  split <;> simp [Smi.delays]

@[simp] theorem acceptLoad_delays (l : Role) (s : State) : (acceptLoad l s).smi.delays = s.smi.delays := by
  simp [acceptLoad, Smi.delays]

theorem judgeCue_smi {h : Header} {regions : List Region} {ws : List Word} {s t : State}
    (hj : judgeCue h regions ws s = .ok t) : t.smi = s.smi := by
  unfold judgeCue at hj
  split at hj
  · cases hj
  · split at hj
    · cases hj
    · split at hj
      · cases hj
      · split at hj
        · cases hj
        · cases hj
          rfl

theorem judgeScene_smi {h : Header} {ws : List Word} {s t : State} (hj : judgeScene h ws s = .ok t) :
    t.smi = s.smi := by
  unfold judgeScene at hj
  split at hj
  · cases hj
  · split at hj
    · cases hj
    · split at hj
      · cases hj
      · cases hj
        rfl

theorem judgeRecord_smi {phase : LoadPhase} {h : Header} {regions : List Region} {ws : List Word} {s t : State}
    (hj : judgeRecord phase h regions ws s = .ok t) : t.smi = s.smi := by
  cases phase with
  | scenes => exact judgeScene_smi hj
  | _ => exact judgeCue_smi hj

theorem judgeRecords_smi {phase : LoadPhase} {h : Header} {regions : List Region} {n left : Nat} {ws : List Word}
    {s : State} {r : State × List Word × Bool} (hj : judgeRecords phase h regions n left ws s = .ok r) :
    r.1.smi = s.smi := by
  induction n generalizing left ws s with
  | zero =>
    cases hj
    rfl
  | succ n ih =>
    cases ws with
    | nil =>
      cases hj
      rfl
    | cons w ws =>
      simp only [judgeRecords] at hj
      split at hj
      · split at hj
        · cases hj
          rfl
        · cases hj
      · split at hj
        · cases hj
          rfl
        · split at hj
          · split at hj
            · cases hj
              rfl
            · cases hj
          · next t ht => rw [ih hj, judgeRecord_smi ht]

@[simp] theorem takeRecords_delays (s : State) : (takeRecords s).smi.delays = s.smi.delays := by
  unfold takeRecords
  split
  · rfl
  · split
    · rfl
    · rfl
    · rfl
    · split
      · simp
      · split
        · simp
        · next r hr => simp [judgeRecords_smi hr]

@[simp] theorem endPhase_delays (ld : Load) (s : State) : (endPhase ld s).smi.delays = s.smi.delays := by
  unfold endPhase
  split
  case h_5 => rfl
  all_goals split <;> simp

@[simp] theorem endPhases_delays (n : Nat) (s : State) : (endPhases n s).smi.delays = s.smi.delays := by
  induction n generalizing s with
  | zero => rfl
  | succ n ih =>
    unfold endPhases
    split
    · rfl
    · split <;> simp [ih]

@[simp] theorem takeWords_delays (ws : List Word) (s : State) : (takeWords ws s).smi.delays = s.smi.delays := by
  unfold takeWords
  split <;> simp

/-- A completed load read ends the transfer, whether its words are discarded or judged (R6, R15). -/
theorem completeLoadRead_delaysKept (words : List Word) (s : State) :
    DelaysKept s.smi (completeLoadRead words s).smi := by
  unfold completeLoadRead
  split
  · split
    · split
      · dsimp only
        split
        · exact .of_ended rfl
        · refine .of_ended ?_
          rw [endPhases_delays, takeRecords_delays, takeWords_delays]
          rfl
      · exact .refl _
    · exact .refl _
  · exact .refl _

/-! ### The end of a link (R173) -/

@[simp] theorem detachEffects_delays (l : Role) (s : State) : (detachEffects l s).smi.delays = s.smi.delays := by
  have load : ∀ u : State, (if loadsOn l u then abortLoad u else u).smi.delays = u.smi.delays := by
    intro u
    split <;> simp
  have hold : ∀ u : State, (if u.store.holder = some l then changeHolder none u else u).smi = u.smi := by
    intro u
    split <;> simp
  cases l <;> simp [detachEffects, load, hold]

@[simp] theorem expirePresence_delays (l : Role) (s : State) : (expirePresence l s).smi.delays = s.smi.delays := by
  unfold expirePresence
  split <;> simp

/-! ### The port (1.1 to 1.3) -/

/-- A transfer that starts takes tACC as it is set (R2). -/
@[simp] theorem startTransfer_delays (user : TransferUser) (start len : Nat) (s : State) :
    (startTransfer user start len s).smi.delays = (s.smi.tacc, some s.smi.tacc) := rfl

@[simp] theorem startVoiceFetch_delays (v : VoiceNo) (s : State) :
    (startVoiceFetch v s).smi.delays = (s.smi.tacc, some s.smi.tacc) := rfl

theorem startLoadRead_delaysKept (s : State) (h : s.smi.port.delay = none) :
    DelaysKept s.smi (startLoadRead s).smi := by
  unfold startLoadRead
  split
  · exact .of_started h (startTransfer_delays _ _ _ s)
  · exact .refl _

@[simp] theorem grantHold_delays (s : State) : (grantHold s).smi.delays = (s.smi.tacc, none) := rfl

theorem arbitrate_delaysKept (s : State) : DelaysKept s.smi (arbitrate s).smi := by
  unfold arbitrate
  split
  · next hidle =>
    have hnone : s.smi.port.delay = none := by rw [hidle, Port.delay_idle]
    split
    · exact .of_ended (grantHold_delays s)
    · split
      · exact .of_started hnone (startVoiceFetch_delays _ s)
      · split
        · exact startLoadRead_delaysKept s hnone
        · exact .refl _
  · exact .refl _

@[simp] theorem Transfer.settle_tacc (t : Transfer) : t.settle.tacc = t.tacc := by
  unfold Transfer.settle
  split <;> rfl

/-- An event of ACCESS leaves the delay of the transfer. -/
theorem inAccess_delays {f : Transfer → Transfer} (hf : ∀ t, (f t).tacc = t.tacc) (s : State) :
    (inAccess f s).smi.delays = s.smi.delays := by
  unfold inAccess
  split
  · next t hport =>
    split
    · simp [Smi.delays, hport, hf]
    · rfl
  · rfl

theorem requestHold_delaysKept (s : State) : DelaysKept s.smi (requestHold s).smi := by
  unfold requestHold
  dsimp only
  split
  · exact .of_ended rfl
  · exact .of_delays rfl

/-- The release of a hold leaves an idle port, on which the arbitration may start a transfer (R8). -/
theorem releaseHold_delaysKept (s : State) : DelaysKept s.smi (releaseHold s).smi := by
  unfold releaseHold
  dsimp only
  split
  · next hheld =>
    obtain ⟨htacc, htransfer⟩ := arbitrate_delaysKept (raise (memoryHoldEvent false)
      { s with smi := { s.smi with mhreq := false, port := .idle } })
    refine ⟨htacc, fun d hd => ?_⟩
    simpa [hheld] using htransfer d hd
  · exact .of_delays rfl

theorem completeVoiceFetch_delaysKept (words : List Word) (s : State) :
    DelaysKept s.smi (completeVoiceFetch words s).smi := by
  unfold completeVoiceFetch
  split
  · split
    · split
      · dsimp only
        split
        · refine .of_ended ?_
          rw [runDecoder_smi, State.setVoice_smi]
          rfl
        · exact .of_ended rfl
      · exact .refl _
    · exact .refl _
  · exact .refl _

/-! ### Device reset (R19, R167) -/

@[simp] theorem takeLineAtReset_smi (line : LineState) (s : State) : (takeLineAtReset line s).smi = s.smi := by
  cases line <;> simp [takeLineAtReset]

/-- Device reset sets tACC to 200 ns and leaves no transfer in flight. -/
theorem releaseReset_delays (line : LineState) (mhreq : Bool) (s : State) :
    (releaseReset line mhreq s).smi.delays = (200, none) := by
  have reset : (takeLineAtReset line { State.reset with pending := s.pending }).smi = State.reset.smi := by
    rw [takeLineAtReset_smi]
  unfold releaseReset
  dsimp only
  split
  · unfold requestHold
    dsimp only
    rw [reset]
    rfl
  · rw [reset]
    rfl

/-! ### SET ACCESS DELAY (R2) -/

/-- The delay that is set is the greatest multiple of 10 ns that is at most the value and 2,550 ns. -/
theorem accessDelay_eq {ns : Half} {n : Nat} (hten : n % 10 = 0) (hle : n ≤ ns.toNat) (hmax : n ≤ 2550)
    (hlast : ns.toNat < n + 10 ∨ n = 2550) : accessDelay ns = n := by
  unfold accessDelay Config.maxAccessDelay
  omega

theorem permitted_setAccessDelay_iff (l : Role) : permitted 0x1A l = true ↔ l = .console := by
  cases l <;> decide

theorem setAccessDelay_port (l : Role) (tag : Byte) (ns : Half) (s : State) :
    (serve l 0x1A tag (fun s =>
      acceptWith (u16 (accessDelay ns)) { s with smi := { s.smi with tacc := accessDelay ns } }) s).smi.port =
      s.smi.port :=
  serve_rel (fun a b => b.port = a.port) (fun _ => rfl) (fun _ => rfl) l 0x1A tag s

/-! ### Every command -/

/-- No command but SET ACCESS DELAY and device reset changes tACC, and none changes the delay of a transfer. -/
theorem exec_delaysKept {c : Instr} {s t : State} (hset : ∀ l tag ns, c ≠ .setAccessDelay l tag ns)
    (hreset : ∀ line m, c ≠ .resetReleased line m) (h : exec c s = .next t) : DelaysKept s.smi t.smi := by
  cases c with
  | setAccessDelay l tag ns => exact absurd rfl (hset l tag ns)
  | resetReleased line m => exact absurd rfl (hreset line m)
  -- requests that leave the interface alone
  | attach | setPresence | setEventMask | readEvents | readStatus | go | standby | fire | setPlayhead | setGuard
  | stopCue | stopAll | readRunning | play | readVoices | setLevel | setTrim | blank | openOutput | readMeters
  | setReference | setFollow | setOffset | setCeiling | talkOn | talkOff | setLeveler | setDuckTimes | setGate | call
  | callEnd | cancelCall | readCalls | showStop | resume | setStopTimes | setAnnounce =>
    obtain rfl := Host.Outcome.next.inj h
    exact .of_eq (serve_smi (fun u => by simp) ..)
  | setGoAuthority | setStandbyRequired | stopVoice | readLevels =>
    obtain rfl := Host.Outcome.next.inj h
    exact .of_eq (serve_smi (fun u => by split <;> simp) ..)
  | editHold | editRelease | readCue | readScene =>
    obtain rfl := Host.Outcome.next.inj h
    exact .of_eq (serve_smi (fun u => by
      split
      · simp
      · split <;> simp) ..)
  | putCue | putScene =>
    obtain rfl := Host.Outcome.next.inj h
    exact .of_eq (framed_smi (fun v => serve_smi (edit_smi (fun u => by simp) _) _ _ _ v) ..)
  | deleteCue | deleteScene =>
    obtain rfl := Host.Outcome.next.inj h
    exact .of_eq (serve_smi (edit_smi (fun u => by simp) _) ..)
  -- requests that begin or end a load
  | loadShow l tag =>
    obtain rfl := Host.Outcome.next.inj h
    refine serve_rel DelaysKept .refl (fun u => .of_delays ?_) ..
    split <;> simp
  | loadAbort l tag =>
    obtain rfl := Host.Outcome.next.inj h
    refine serve_rel DelaysKept .refl (fun u => .of_delays ?_) ..
    split
    · simp
    · split <;> simp
  | detach l tag =>
    obtain rfl := Host.Outcome.next.inj h
    exact serve_rel DelaysKept .refl (fun u => .of_delays (detachEffects_delays l u)) ..
  -- events that leave the interface alone
  | readResponse | badFrame | unknownRequest | showstopAsserted | showstopDeasserted | referenceLost | lockAchieved
  | prewaitEnd | followExpiry | callGateExpiry | talkGateExpiry | millisecondTick | fadeComplete | audioFrame
  | windowEnd | declickRampEnd | reclaimRampEnd | blankingRampEnd | voiceNaturalEnd | enterPlaying | enterStarved
  | returnToPlaying | decoderRun | referencePresentAndInRange =>
    obtain rfl := Host.Outcome.next.inj h
    exact .of_eq (occur_smi (fun u => by simp) _)
  -- the port's own events, and those that end a transfer or a load
  | presenceExpiry l =>
    obtain rfl := Host.Outcome.next.inj h
    exact occur_rel DelaysKept .refl (fun u => .of_delays (expirePresence_delays l u)) s
  | resetAsserted =>
    obtain rfl := Host.Outcome.next.inj h
    exact .of_ended rfl
  | mhreqAsserted =>
    obtain rfl := Host.Outcome.next.inj h
    exact occur_rel DelaysKept .refl requestHold_delaysKept s
  | mhend =>
    obtain rfl := Host.Outcome.next.inj h
    exact occur_rel DelaysKept .refl releaseHold_delaysKept s
  | smRdySeen | taccExpiry =>
    obtain rfl := Host.Outcome.next.inj h
    refine occur_rel DelaysKept .refl (fun u => .of_delays (inAccess_delays ?_ u)) s
    exact fun _ => rfl
  | arbitrate =>
    obtain rfl := Host.Outcome.next.inj h
    exact occur_rel DelaysKept .refl arbitrate_delaysKept s
  | voiceFetchComplete words =>
    obtain rfl := Host.Outcome.next.inj h
    exact occur_rel DelaysKept .refl (completeVoiceFetch_delaysKept words) s
  | loadReadComplete words =>
    obtain rfl := Host.Outcome.next.inj h
    exact occur_rel DelaysKept .refl (completeLoadRead_delaysKept words) s

/-- After device reset tACC is 200 ns and no transfer is in flight. -/
theorem exec_resetReleased_delays {line : LineState} {m : Bool} {s t : State}
    (h : exec (.resetReleased line m) s = .next t) : t.smi.delays = (200, none) := by
  obtain rfl := Host.Outcome.next.inj h
  exact releaseReset_delays line m s

/-- A transfer takes tACC at its start and keeps it, whatever the command. -/
theorem exec_transferDelayKept {c : Instr} {s t : State} (h : exec c s = .next t) :
    TransferDelayKept s.smi t.smi := by
  by_cases hset : ∃ l tag ns, c = .setAccessDelay l tag ns
  · obtain ⟨l, tag, ns, rfl⟩ := hset
    obtain rfl := Host.Outcome.next.inj h
    exact .of_port (congrArg Port.delay (setAccessDelay_port l tag ns s))
  · by_cases hreset : ∃ line m, c = .resetReleased line m
    · obtain ⟨line, m, rfl⟩ := hreset
      exact .of_none (congrArg Prod.snd (exec_resetReleased_delays h))
    · exact (exec_delaysKept (fun l tag ns hc => hset ⟨l, tag, ns, hc⟩)
        (fun line m hc => hreset ⟨line, m, hc⟩) h).2

/-- SET ACCESS DELAY from CONSOLE is accepted with the delay that it sets. -/
theorem exec_setAccessDelay_console (tag : Byte) (ns : Half) {s : State} (hs : Serves .console 0x1A s) :
    exec (.setAccessDelay .console tag ns) s =
      answered .console 0x1A tag .accepted (u16 (accessDelay ns))
        { reloadPresence .console s with smi := { s.smi with tacc := accessDelay ns } } := by
  obtain ⟨hrun, hatt, hperm⟩ := hs
  refine congrArg Host.Outcome.next ((serve_passed _ _ _ _ s hrun hatt hperm).trans ?_)
  simp only [acceptWith, reloadPresence_smi]

/-- Any other link is refused SET ACCESS DELAY. -/
theorem exec_setAccessDelay_refused {l : Role} (tag : Byte) (ns : Half) {s : State}
    (hrun : s.timing.inReset = false) (hatt : (s.link l).attached = true) (hl : l ≠ .console) :
    exec (.setAccessDelay l tag ns) s = answered l 0x1A tag .notPermitted [] (reloadPresence l s) := by
  have hperm : permitted 0x1A l = false := by
    rw [← Bool.not_eq_true, permitted_setAccessDelay_iff]
    exact hl
  exact congrArg Host.Outcome.next (serve_notPermitted _ _ _ _ s hrun hatt hperm)

end Sys2Proof.Machine
end

section
/-! The access delay (R2): who sets tACC, to what, and for which transfers. -/

namespace Sys2Proof.Proofs

open Sys2Proof.Machine

/-- Settles O33: the two requests by the permissions table and the arithmetic of the rounding, the rest by what every
command makes of the delays. -/
theorem accessDelay : Obligations.AccessDelay := by
  unfold Obligations.AccessDelay
  refine ⟨fun tag ns s n hs hten hle hmax hlast => ?_, fun l tag ns s => exec_setAccessDelay_refused tag ns,
    fun c s t h => ⟨fun hset hreset => (exec_delaysKept hset hreset h).1, ?_, ?_, ?_⟩⟩
  · rw [exec_setAccessDelay_console tag ns hs, accessDelay_eq hten hle hmax hlast]
  · rintro line m rfl
    exact congrArg Prod.fst (exec_resetReleased_delays h)
  · intro tr tr' hs ht
    simpa [hs] using exec_transferDelayKept h tr.tacc (by rw [ht, Port.delay_fetch])
  · intro tr hs ht
    simpa [Port.delay_eq_none hs] using exec_transferDelayKept h tr.tacc (by rw [ht, Port.delay_fetch])

end Sys2Proof.Proofs
end

section
/-! SUPPORT. The answer to a request that passes the Link Controller, and EDIT RELEASE by the edit hold and the load
state (R27). -/

namespace Sys2Proof.Machine

@[simp] theorem reloadPresence_store (l : Role) (s : State) : (reloadPresence l s).store = s.store := by
  unfold reloadPresence
  split <;> simp

/-- A load is READING exactly while the Show Memory Interface has one, which the presence reload leaves alone. -/
@[simp] theorem loading_reloadPresence (l : Role) (s : State) : loading (reloadPresence l s) = s.smi.load.isSome := by
  simp [loading]

/-- A request that reaches its block is answered as the block decides after the presence reload (R170). -/
theorem next_serve_of_serves {l : Role} {c : Byte} {s : State} (hs : Serves l c s) (t : Byte)
    {body : State → State × Reply} {u : State} {r : Result} {payload : List Byte}
    (hbody : body (reloadPresence l s) = (u, { result := r, payload := payload })) :
    Host.Outcome.next (serve l c t body s) = answered l c t r payload u := by
  obtain ⟨hrun, hatt, hperm⟩ := hs
  rw [serve_passed l c t body s hrun hatt hperm, hbody, answered]

/-- The release of the hold after a presence reload raises HOLD_CHANGED with subject NONE. -/
theorem changeHolder_none_reloadPresence (l : Role) (s : State) :
    changeHolder none (reloadPresence l s) =
      raise { kind := .holdChanged, reason := 0 }
        { reloadPresence l s with store := { s.store with holder := none } } := by
  rw [changeHolder, reloadPresence_store]
  rfl

/-- The holder's EDIT RELEASE is accepted while no load is READING. -/
theorem exec_editRelease_idle {l : Role} (tag : Byte) {s : State} (hs : Serves l 0x11 s)
    (hholder : s.store.holder = some l) (hidle : s.smi.load = none) :
    exec (.editRelease l tag) s = answered l 0x11 tag .accepted [] (changeHolder none (reloadPresence l s)) :=
  next_serve_of_serves hs tag (by simp [hholder, hidle, acceptWith])

/-- The holder's EDIT RELEASE is refused LOADING while a load is READING. -/
theorem exec_editRelease_loading {l : Role} (tag : Byte) {s : State} (hs : Serves l 0x11 s)
    (hholder : s.store.holder = some l) {ld : Load} (hload : s.smi.load = some ld) :
    exec (.editRelease l tag) s = answered l 0x11 tag .loading [] (reloadPresence l s) :=
  next_serve_of_serves hs tag (by simp [hholder, hload, refuse])

/-- EDIT RELEASE from a link that does not hold the edit hold is refused NOT_HOLDER. -/
theorem exec_editRelease_notHolder {l : Role} (tag : Byte) {s : State} (hs : Serves l 0x11 s)
    (hholder : s.store.holder ≠ some l) :
    exec (.editRelease l tag) s = answered l 0x11 tag .notHolder [] (reloadPresence l s) :=
  next_serve_of_serves hs tag (by simp [hholder, refuse])

end Sys2Proof.Machine
end

section
/-! The release of the edit hold (R27). -/

namespace Sys2Proof.Proofs

open Sys2Proof.Machine

/-- Settles O24: one case for the holder in IDLE, one for the holder while a load is READING, where the link invariant
makes the loading link the holder, and one for any other link. -/
theorem editReleaseTaken : Obligations.EditReleaseTaken := by
  unfold Obligations.EditReleaseTaken
  intro l tag s hlinks hs
  obtain ⟨-, -, -, -, hloader⟩ := hlinks
  refine ⟨fun hholder hidle => ?_, fun ld hload => ⟨hloader ld hload, fun hholder => ?_⟩, fun hholder => ?_⟩
  · rw [exec_editRelease_idle tag hs hholder hidle, changeHolder_none_reloadPresence]
  · exact exec_editRelease_loading tag hs hholder hload
  · exact exec_editRelease_notHolder tag hs hholder

end Sys2Proof.Proofs
end

section
/-! SUPPORT. The tables G and M entry by entry (R102, R103). The exact values are roots, so they are
compared with the half-integers through 200th powers, which are natural numbers. Each part of a table is evaluated
against this bound, and the parts are joined as the tables concatenate them. -/

namespace Sys2Proof.Machine

/-- `g` is the integer nearest to the value of level −960 + `i` tenths: with `unit` twice the value of level 0, the
200th powers of 2g − 1 and 2g + 1 enclose that of unit × 10^((i − 960)/200). An entry 0 needs no lower bound. -/
@[reducible] def Nearest (unit i g : Nat) : Prop :=
  (g = 0 ∨ (2 * g - 1) ^ 200 * 10 ^ 960 < unit ^ 200 * 10 ^ i) ∧
    unit ^ 200 * 10 ^ i < (2 * g + 1) ^ 200 * 10 ^ 960

/-- The rows hold the nearest integers of the levels from the index `start` to before `stop`. -/
@[reducible] def TabulatesNearest (unit start stop : Nat) (rows : List (List Nat)) : Prop :=
  ∀ i < stop - start, Nearest unit (start + i) (tableAt rows i)

/-! ### The rows of a table one after another -/

theorem tableAt_append_left (xs ys : List (List Nat)) {i : Nat} (hi : i < 20 * xs.length) :
    tableAt (xs ++ ys) i = tableAt xs i := by
  have hrow : i / 20 < xs.length := by omega
  rw [tableAt, tableAt, List.getD_append _ _ _ _ hrow]

theorem tableAt_append_right (xs ys : List (List Nat)) (i : Nat) :
    tableAt (xs ++ ys) (20 * xs.length + i) = tableAt ys i := by
  have hrow : (20 * xs.length + i) / 20 = xs.length + i / 20 := by omega
  have hcol : (20 * xs.length + i) % 20 = i % 20 := by omega
  rw [tableAt, tableAt, hrow, hcol, List.getD_append_right _ _ _ _ (Nat.le_add_right _ _), Nat.add_sub_cancel_left]

/-- Two parts of a table, the first of full rows, of which the second goes on where the first ends. -/
theorem TabulatesNearest.append {unit start mid stop : Nat} {xs ys : List (List Nat)}
    (hx : TabulatesNearest unit start mid xs) (hy : TabulatesNearest unit mid stop ys)
    (hmid : start + 20 * xs.length = mid) : TabulatesNearest unit start stop (xs ++ ys) := by
  subst hmid
  intro i hi
  by_cases hfirst : i < 20 * xs.length
  · rw [tableAt_append_left xs ys hfirst]
    exact hx i (by omega)
  · obtain ⟨j, rfl⟩ := Nat.exists_eq_add_of_le (Nat.le_of_not_lt hfirst)
    rw [tableAt_append_right, ← Nat.add_assoc]
    exact hy j (by omega)

/-! ### The table G -/

theorem gainRows0_nearest : TabulatesNearest 32768 0 280 gainRows0 := by decide +kernel

theorem gainRows1_nearest : TabulatesNearest 32768 280 560 gainRows1 := by decide +kernel

theorem gainRows2_nearest : TabulatesNearest 32768 560 840 gainRows2 := by decide +kernel

theorem gainRows3_nearest : TabulatesNearest 32768 840 1081 gainRows3 := by decide +kernel

theorem gainRows_nearest : TabulatesNearest 32768 0 1081 gainRows := by
  have hupTo1 := gainRows0_nearest.append gainRows1_nearest rfl
  have hupTo2 := hupTo1.append gainRows2_nearest rfl
  exact hupTo2.append gainRows3_nearest rfl

/-- G is the nearest integer at every level of the conversion domain (R102). -/
theorem gainOf_nearest {L : Int} (hlow : -960 ≤ L) (hhigh : L ≤ 120) :
    Nearest 32768 (L + 960).toNat (gainOf L) := by
  have hentry := gainRows_nearest (L + 960).toNat (by omega)
  rwa [Nat.zero_add] at hentry

/-! ### The table M -/

theorem magnitudeRows0_nearest : TabulatesNearest 16777214 0 280 magnitudeRows0 := by decide +kernel

theorem magnitudeRows1_nearest : TabulatesNearest 16777214 280 560 magnitudeRows1 := by decide +kernel

theorem magnitudeRows2_nearest : TabulatesNearest 16777214 560 840 magnitudeRows2 := by decide +kernel

theorem magnitudeRows3_nearest : TabulatesNearest 16777214 840 961 magnitudeRows3 := by decide +kernel

theorem magnitudeRows_nearest : TabulatesNearest 16777214 0 961 magnitudeRows := by
  have hupTo1 := magnitudeRows0_nearest.append magnitudeRows1_nearest rfl
  have hupTo2 := hupTo1.append magnitudeRows2_nearest rfl
  exact hupTo2.append magnitudeRows3_nearest rfl

/-- M is the nearest integer at every level from −960 to 0 (R103). -/
theorem magnitudeOf_nearest {L : Int} (hlow : -960 ≤ L) (hhigh : L ≤ 0) :
    Nearest 16777214 (L + 960).toNat (magnitudeOf L) := by
  have hentry := magnitudeRows_nearest (L + 960).toNat (by omega)
  rwa [Nat.zero_add] at hentry

end Sys2Proof.Machine
end

section
/-! Gain and magnitude of a level (R102, R103). -/

namespace Sys2Proof.Proofs

open Sys2Proof.Machine

/-- Settles O14: the entries of the two tables, and the gain of a level in the domain and of OFF by definition. -/
theorem gainAndMagnitude : Obligations.GainAndMagnitude := by
  unfold Obligations.GainAndMagnitude
  exact ⟨fun _ => gainOf_nearest, fun _ => rfl, rfl, fun _ => magnitudeOf_nearest⟩

end Sys2Proof.Proofs
end

section
/-! SUPPORT. What the operations of a running part keep. Each aspect of the state is written by few commands; `Evolves`
says of two states that every aspect outside a list is kept, and that the bounds of the links, fades, FIFOs and the
running cue table are. Each shared operation is treated once, in the order of the definitions. -/

namespace Sys2Proof.Machine

/-- What only some commands write. -/
inductive Aspect where
  | attached
  | presence (r : Role)
  | holder
  | load
  | records
  | playhead
  | stamp
  | offsets
  | ceilings
  | leveler
  | stopTimes
  | zones

/-- `t` came of `s` by operations that write no aspect outside `W` and keep the bounds that hold of `s`. -/
structure Evolves (W : List Aspect) (s t : State) : Prop where
  pending : t.pending = s.pending
  linkOk : (∀ r, (s.link r).ok) → ∀ r, (t.link r).ok
  fadesOk : FadesOk s → FadesOk t
  fifosOk : FifosOk s → FifosOk t
  tableOk : TableOk s → TableOk t
  attached : .attached ∉ W → ∀ r, (t.link r).attached = (s.link r).attached
  presence : ∀ r, .presence r ∉ W → (t.link r).tPres = (s.link r).tPres
  holder : .holder ∉ W → t.store.holder = s.store.holder
  load : .load ∉ W → t.smi.load = s.smi.load
  records : .records ∉ W → t.store = { s.store with holder := t.store.holder }
  playhead : .playhead ∉ W → t.seq.playhead = s.seq.playhead
  stamp : .stamp ∉ W → t.seq.stamp = s.seq.stamp
  offsets : .offsets ∉ W → t.foldback.offsets = s.foldback.offsets
  ceilings : .ceilings ∉ W → t.foldback.ceilings = s.foldback.ceilings
  leveler : .leveler ∉ W → t.relay.leveler = s.relay.leveler
  stopTimes : .stopTimes ∉ W → t.showStop.tStop = s.showStop.tStop ∧ t.showStop.tResume = s.showStop.tResume
  zones : .zones ∉ W → t.relay.zones.map (·.leveler) = s.relay.zones.map (·.leveler)

namespace Evolves

variable {W : List Aspect} {s t u : State}

theorem refl (W : List Aspect) (s : State) : Evolves W s s where
  pending := rfl
  linkOk := id
  fadesOk := id
  fifosOk := id
  tableOk := id
  attached _ _ := rfl
  presence _ _ := rfl
  holder _ := rfl
  load _ := rfl
  records _ := rfl
  playhead _ := rfl
  stamp _ := rfl
  offsets _ := rfl
  ceilings _ := rfl
  leveler _ := rfl
  stopTimes _ := ⟨rfl, rfl⟩
  zones _ := rfl

theorem trans (h : Evolves W s t) (g : Evolves W t u) : Evolves W s u where
  pending := g.pending.trans h.pending
  linkOk hs := g.linkOk (h.linkOk hs)
  fadesOk hs := g.fadesOk (h.fadesOk hs)
  fifosOk hs := g.fifosOk (h.fifosOk hs)
  tableOk hs := g.tableOk (h.tableOk hs)
  attached hw r := (g.attached hw r).trans (h.attached hw r)
  presence r hw := (g.presence r hw).trans (h.presence r hw)
  holder hw := (g.holder hw).trans (h.holder hw)
  load hw := (g.load hw).trans (h.load hw)
  records hw := (g.records hw).trans (by rw [h.records hw])
  playhead hw := (g.playhead hw).trans (h.playhead hw)
  stamp hw := (g.stamp hw).trans (h.stamp hw)
  offsets hw := (g.offsets hw).trans (h.offsets hw)
  ceilings hw := (g.ceilings hw).trans (h.ceilings hw)
  leveler hw := (g.leveler hw).trans (h.leveler hw)
  stopTimes hw := ⟨(g.stopTimes hw).1.trans (h.stopTimes hw).1, (g.stopTimes hw).2.trans (h.stopTimes hw).2⟩
  zones hw := (g.zones hw).trans (h.zones hw)

theorem foldl {α : Type} {f : State → α → State} (hf : ∀ u a, Evolves W s u → Evolves W s (f u a)) (as : List α)
    (h : Evolves W s t) : Evolves W s (as.foldl f t) := by
  induction as generalizing t with
  | nil => exact h
  | cons a as ih => exact ih (hf _ a h)

/-! ### Writing one part of the state -/

/-- A link's record may be written within its bounds. -/
theorem setLink (h : Evolves W s t) {r : Role} {k : Link} (hok : (t.link r).ok → k.ok)
    (ha : .attached ∉ W → k.attached = (t.link r).attached := by exact fun _ => rfl)
    (hp : .presence r ∉ W → k.tPres = (t.link r).tPres := by exact fun _ => rfl) : Evolves W s (t.setLink r k) := by
  have read : ∀ q, ((t.setLink r k).link q = t.link q) ∨ (q = r ∧ (t.setLink r k).link q = k) := by
    intro q
    by_cases hq : q = r
    · exact .inr ⟨hq, by rw [hq, State.link_setLink_self]⟩
    · exact .inl (State.link_setLink_ne t r q k hq)
  refine { h with linkOk := fun hs q => ?_, attached := fun hw q => ?_, presence := fun q hw => ?_ }
  · rcases read q with e | ⟨-, e⟩ <;> rw [e]
    · exact h.linkOk hs q
    · exact hok (h.linkOk hs r)
  · rcases read q with e | ⟨rfl, e⟩ <;> rw [e]
    · exact h.attached hw q
    · exact (ha hw).trans (h.attached hw q)
  · rcases read q with e | ⟨rfl, e⟩ <;> rw [e]
    · exact h.presence q hw
    · exact (hp hw).trans (h.presence q hw)

/-- A voice record may be written where its FIFO stays within its bound. -/
theorem setVoice (h : Evolves W s t) {v : VoiceNo} {x : Voice}
    (hx : (t.voice v).fifo.length ≤ Config.fifoEntries → x.fifo.length ≤ Config.fifoEntries := by exact id) :
    Evolves W s (t.setVoice v x) := by
  refine { h with fifosOk := fun hs w => ?_ }
  by_cases hw : w = v
  · rw [hw, State.voice_setVoice_self]
    exact hx (h.fifosOk hs v)
  · rw [State.voice_setVoice_ne t v w x hw]
    exact h.fifosOk hs w

/-- A zone record may be written but for its leveler gain. -/
theorem modifyZone (h : Evolves W s t) {z : ZoneNo} {f : Zone → Zone}
    (hf : ∀ zn, (f zn).leveler = zn.leveler := by exact fun _ => rfl) :
    Evolves W s (t.modifyZone z f) := by
  refine { h with zones := fun hw => ?_ }
  have kept : ∀ (n : Nat) (zs : List Zone), (zs.modify n f).map (·.leveler) = zs.map (·.leveler) := by
    intro n zs
    induction zs generalizing n with
    | nil => simp
    | cons zn zs ih => cases n <;> simp [hf, ih]
  exact (kept _ _).trans (h.zones hw)

/-- The fade list may be written within its bounds. -/
theorem writeFades (h : Evolves W s t) {fs : List FadeEntry} (hfs : FadesOk t → FadesOk { t with fades := fs }) :
    Evolves W s { t with fades := fs } :=
  { h with fadesOk := fun hs => hfs (h.fadesOk hs) }

/-- The running cue table may be written within its bounds. -/
theorem writeTable (h : Evolves W s t) {is : List CueInstance} {n : Nat}
    (ht : TableOk s → TableOk t → TableOk { t with seq := { t.seq with instances := is, nextId := n } }) :
    Evolves W s { t with seq := { t.seq with instances := is, nextId := n } } :=
  { h with tableOk := fun hs => ht hs (h.tableOk hs) }

/-- The calls and tails may be written freely. -/
theorem writeCalls (h : Evolves W s t) {ws ps : List Call} {tls : List Tail} {n a : Nat} :
    Evolves W s { t with relay :=
      { t.relay with waiting := ws, playing := ps, tails := tls, nextId := n, arrivals := a } } := { h with }

theorem raise (h : Evolves W s t) {e : Event} : Evolves W s (Machine.raise e t) := by
  refine { h with linkOk := fun hs r => ?_, attached := fun hw r => ?_, presence := fun r hw => ?_ }
  · obtain ⟨hlow, hhigh, hlen, hdet⟩ := h.linkOk hs r
    rw [link_raise]
    rcases Link.append_cases { e with clock := t.timing.showClock } (t.link r) with
      ⟨hatt, hroom, eq⟩ | ⟨hatt, -, eq⟩ | ⟨-, eq⟩ <;> rw [eq]
    · refine ⟨hlow, hhigh, ?_, fun hd => ?_⟩
      · simpa using hroom
      · exact absurd hatt (by simpa using hd)
    · exact ⟨hlow, hhigh, hlen, fun hd => absurd hatt (by simpa using hd)⟩
    · exact ⟨hlow, hhigh, hlen, hdet⟩
  · rw [link_raise, Link.append_attached]
    exact h.attached hw r
  · rw [link_raise, Link.append_tPres]
    exact h.presence r hw

/-! ### Fades (chapter 5) -/

theorem removeFade (h : Evolves W s t) {target : FadeTarget} : Evolves W s (Machine.removeFade target t) :=
  h.writeFades fun ⟨hlen, hnodup, hsteps⟩ =>
    ⟨(List.length_filter_le _ _).trans hlen, (List.filter_sublist.map _).nodup hnodup,
      fun e he => hsteps e (List.mem_of_mem_filter he)⟩

theorem setLevel (h : Evolves W s t) {target : FadeTarget} {l : Level} : Evolves W s (Machine.setLevel target l t) := by
  cases target with
  | voice v => exact h.setVoice
  | duck z => exact h.modifyZone
  | _ => exact { h with }

theorem startRamp (h : Evolves W s t) {v : VoiceNo} : Evolves W s (Machine.startRamp v t) := by
  unfold Machine.startRamp
  split
  · exact h
  · exact h.setVoice

theorem duckReleased (h : Evolves W s t) {z : ZoneNo} : Evolves W s (Machine.duckReleased z t) :=
  h.modifyZone fun zn => by split <;> rfl

theorem writeShowState (h : Evolves W s t) {st : ShowState} :
    Evolves W s { t with showStop := { t.showStop with state := st } } := { h with }

theorem stopMuteReport (h : Evolves W s t) : Evolves W s (Machine.stopMuteReport t) := by
  unfold Machine.stopMuteReport
  split
  · exact h.writeShowState.raise
  · exact h

theorem reportTarget (h : Evolves W s t) {target : FadeTarget} : Evolves W s (Machine.reportTarget target t) := by
  cases target with
  | stopMute => exact h.stopMuteReport
  | _ => exact h

theorem completeAtOnce (h : Evolves W s t) {p : Post} : Evolves W s (Machine.completeAtOnce p t) := by
  unfold Machine.completeAtOnce
  split
  case h_2 => exact h.duckReleased
  case h_4 => exact h.startRamp
  all_goals exact h

theorem snapFade (h : Evolves W s t) {p : Post} : Evolves W s (Machine.snapFade p t) := by
  unfold Machine.snapFade
  split
  · exact h.raise.completeAtOnce
  · exact h.setLevel.raise.completeAtOnce.reportTarget

/-- An entry that is taken over keeps its target and starts anew. -/
theorem fadesOk_takenOver {p : Post} (hp : p.time ≠ 0) (ht : FadesOk t) :
    FadesOk { t with fades := t.fades.map fun e => if e.target == p.target then p.entry t else e } := by
  obtain ⟨hlen, hnodup, hsteps⟩ := ht
  refine ⟨by simpa using hlen, ?_, fun e he => ?_⟩
  · have same : ((·.target) ∘ fun e : FadeEntry => if e.target == p.target then p.entry t else e) = (·.target) := by
      funext e
      dsimp only [Function.comp_apply]
      split
      · next heq => exact (beq_iff_eq.mp heq).symm
      · rfl
    rw [List.map_map, same]
    exact hnodup
  · obtain ⟨d, hd, rfl⟩ := List.mem_map.mp he
    split
    · exact Nat.pos_of_ne_zero hp
    · exact hsteps d hd

/-- A new entry of a target that has none, where the list has room, keeps the list's bounds. -/
theorem fadesOk_posted {p : Post} (hp : p.time ≠ 0) (hnone : fadeFor p.target t = none)
    (hroom : t.fades.length < Config.maxFades) (ht : FadesOk t) :
    FadesOk { t with fades := t.fades ++ [p.entry t] } := by
  obtain ⟨-, hnodup, hsteps⟩ := ht
  refine ⟨by simpa using hroom, ?_, fun e he => ?_⟩
  · simp only [List.map_append, List.map_cons, List.map_nil, List.nodup_append]
    refine ⟨hnodup, by simp, fun a ha b hb hab => ?_⟩
    obtain ⟨d, hd, rfl⟩ := List.mem_map.mp ha
    have := List.find?_eq_none.mp hnone d hd
    simp_all [Post.entry]
  · rcases List.mem_append.mp he with hd | hd
    · exact hsteps e hd
    · rw [List.mem_singleton.mp hd]
      exact Nat.pos_of_ne_zero hp

theorem postFade (h : Evolves W s t) {p : Post} : Evolves W s (Machine.postFade p t).1 := by
  rcases postFade_cases p t with ⟨-, e⟩ | ⟨h0, -, e⟩ | ⟨h0, hnone, hroom, e⟩ | ⟨-, -, -, e⟩ <;> rw [e]
  · exact h.setLevel.removeFade.completeAtOnce.reportTarget
  · exact h.writeFades (fadesOk_takenOver h0)
  · exact h.writeFades (fadesOk_posted h0 hnone hroom)
  · exact h.snapFade

theorem post (h : Evolves W s t) {p : Post} : Evolves W s (Machine.post p t) := h.postFade

theorem writeLevels (h : Evolves W s t) (es : List FadeEntry) : Evolves W s (Machine.writeLevels es t) := by
  induction es generalizing t with
  | nil => exact h
  | cons e es ih =>
    unfold Machine.writeLevels
    split
    · exact ih h.setLevel
    · exact ih h

/-- A millisecond's step leaves an entry short of its last step (R94). -/
theorem tick_target_steps (e : FadeEntry) : e.tick.target = e.target ∧ (e.k < e.n → e.tick.k < e.tick.n) := by
  unfold FadeEntry.tick
  split
  · exact ⟨rfl, fun _ => ‹_›⟩
  · exact ⟨rfl, id⟩

theorem stepFades (h : Evolves W s t) : Evolves W s (Machine.stepFades t) := by
  refine (h.writeFades fun ⟨hlen, hnodup, hsteps⟩ => ⟨by simpa using hlen, ?_, fun e he => ?_⟩).writeLevels _
  · have same : (fun e : FadeEntry => e.tick.target) = (·.target) := funext fun e => (tick_target_steps e).1
    simpa [List.map_map, Function.comp_def, same] using hnodup
  · obtain ⟨d, hd, rfl⟩ := List.mem_map.mp he
    exact (tick_target_steps d).2 (hsteps d hd)

/-! ### Voices (chapter 4) -/

theorem postFetch (h : Evolves W s t) {v : VoiceNo} : Evolves W s (Machine.postFetch v t) := by
  unfold Machine.postFetch
  split
  · exact h.setVoice
  · exact h

/-- The decoder fills a FIFO up to its 1,024 entries at most (R64, R76). -/
theorem afterDecoder_fifo_le (x : Voice) (hx : x.fifo.length ≤ Config.fifoEntries) :
    x.afterDecoder.fifo.length ≤ Config.fifoEntries := by
  have fits : x.decoded.entries.length ≤ Config.fifoEntries - x.fifo.length := by
    simp only [Voice.decoded]
    split
    · simp [zeroFrames]
    · have := decodeWords_fits (Config.fifoEntries - x.fifo.length -
        min x.silence (Config.fifoEntries - x.fifo.length)) x.bufPos x.buf
      simp only [Decoded.before, zeroFrames, List.length_append, List.length_replicate]
      omega
  simp only [Voice.afterDecoder, List.length_append]
  omega

theorem runDecoder (h : Evolves W s t) {v : VoiceNo} : Evolves W s (Machine.runDecoder v t) := by
  have decoded := h.setVoice (v := v) (afterDecoder_fifo_le (t.voice v))
  unfold Machine.runDecoder
  split
  · dsimp only
    split
    · split
      · exact decoded.postFetch
      · exact decoded.raise.postFetch
    · exact decoded.postFetch
  · exact h

/-- Instances may leave the table. -/
theorem tableOk_sublist {is : List CueInstance} (hsub : is.Sublist t.seq.instances) (ht : TableOk t) :
    TableOk { t with seq := { t.seq with instances := is } } := by
  obtain ⟨hlen, hnodup, hids, hnext⟩ := ht
  exact ⟨hsub.length_le.trans hlen, (hsub.map _).nodup hnodup, fun i hi => hids i (hsub.mem hi), hnext⟩

/-- Instances may be written but for their ids. -/
theorem tableOk_map {f : CueInstance → CueInstance} (hf : ∀ i, (f i).id = i.id) (ht : TableOk t) :
    TableOk { t with seq := { t.seq with instances := t.seq.instances.map f } } := by
  obtain ⟨hlen, hnodup, hids, hnext⟩ := ht
  refine ⟨by simpa using hlen, ?_, fun i hi => ?_, hnext⟩
  · simpa [List.map_map, Function.comp_def, hf] using hnodup
  · obtain ⟨j, hj, rfl⟩ := List.mem_map.mp hi
    rw [hf]
    exact hids j hj

theorem removeInst (h : Evolves W s t) {id : Nat} : Evolves W s (Machine.removeInst id t) :=
  h.writeTable fun _ => tableOk_sublist List.filter_sublist

theorem modifyInst (h : Evolves W s t) {id : Nat} {f : CueInstance → CueInstance}
    (hf : ∀ i, (f i).id = i.id := by exact fun _ => rfl) : Evolves W s (Machine.modifyInst id f t) :=
  h.writeTable fun _ => tableOk_map fun i => by split <;> simp [hf]

theorem endInst (h : Evolves W s t) {i : CueInstance} {reason : Nat} : Evolves W s (Machine.endInst i reason t) :=
  h.removeInst.raise

theorem checkEnd (h : Evolves W s t) {id : Nat} : Evolves W s (Machine.checkEnd id t) := by
  unfold Machine.checkEnd
  split
  · split
    · exact h.endInst
    · exact h
  · exact h

theorem checkOwner (h : Evolves W s t) {o : Owner} : Evolves W s (Machine.checkOwner o t) := by
  cases o with
  | inst id c => exact h.checkEnd
  | _ => exact h

theorem freeVoice (h : Evolves W s t) {v : VoiceNo} : Evolves W s (Machine.freeVoice v t) :=
  (h.removeFade.setVoice fun _ => Nat.zero_le _).writeCalls

theorem freeAndCheck (h : Evolves W s t) {v : VoiceNo} : Evolves W s (Machine.freeAndCheck v t) :=
  h.freeVoice.checkOwner

theorem postStopFade (h : Evolves W s t) {p : Post} {v : VoiceNo} : Evolves W s (Machine.postStopFade p v t) := by
  unfold Machine.postStopFade
  dsimp only
  split
  · exact h.postFade
  · exact h.postFade.setVoice

theorem stopVoice (h : Evolves W s t) {v : VoiceNo} {time : Nat} : Evolves W s (Machine.stopVoice v time t) := by
  unfold Machine.stopVoice
  split
  · exact h
  · exact h.freeAndCheck
  · split
    · exact h.startRamp
    · exact h.postStopFade
  · split
    · exact h.startRamp
    · exact h.postStopFade
  · split
    · exact h.removeFade.startRamp
    · exact h.postStopFade
  · exact h
  · exact h.setVoice

theorem stopVoices (h : Evolves W s t) {vs : List VoiceNo} {time : Nat} : Evolves W s (Machine.stopVoices vs time t) :=
  foldl (fun _ _ hu => hu.stopVoice) vs h

theorem stealVoice (h : Evolves W s t) {r : AllocReq} {v : VoiceNo} : Evolves W s (Machine.stealVoice r v t) := by
  refine h.removeFade.setVoice fun hx => le_trans ?_ hx
  show (t.voice v).stealFifo.length ≤ (t.voice v).fifo.length
  unfold Voice.stealFifo
  split
  · exact Nat.zero_le _
  · exact Nat.zero_le _
  · exact List.length_filter_le _ _

theorem started_fifo (x : Voice) : x.started.fifo = x.fifo := by
  unfold Voice.started
  split <;> rfl

theorem takeFree (h : Evolves W s t) {r : AllocReq} {v : VoiceNo} : Evolves W s (Machine.takeFree r v t) :=
  (h.setVoice fun _ => by rw [started_fifo]; exact Nat.zero_le _).postFetch

/-! ### Calls (chapter 8) -/

theorem attackZones (h : Evolves W s t) {id depth : Nat} {zones : BitVec 16} :
    Evolves W s (Machine.attackZones id depth zones t) :=
  foldl (fun _ _ hu => hu.modifyZone.post) _ h

theorem releaseZones (h : Evolves W s t) {zones : BitVec 16} : Evolves W s (Machine.releaseZones zones t) :=
  foldl (fun _ _ hu => hu.modifyZone.post) _ h

theorem leaveCall (h : Evolves W s t) {c : Call} {v : VoiceNo} : Evolves W s (Machine.leaveCall c v t) := by
  have orphaned : Evolves W s (t.setVoice v { t.voice v with owner := .orphan }) := h.setVoice
  unfold Machine.leaveCall
  dsimp only
  split
  case h_5 => exact orphaned.stopVoice
  all_goals exact orphaned.writeCalls.stopVoice

theorem removeCall (h : Evolves W s t) {id : Nat} : Evolves W s (Machine.removeCall id t) := h.writeCalls

theorem endCallCore (h : Evolves W s t) {id : Nat} {reason : CallEnd} :
    Evolves W s (Machine.endCallCore id reason t) := by
  unfold Machine.endCallCore
  split
  · exact h
  · dsimp only
    split
    · split
      · exact h.removeCall.releaseZones.leaveCall.raise
      · exact h.removeCall.leaveCall.raise
    · split
      · exact h.removeCall.releaseZones.raise
      · exact h.removeCall.raise

theorem tellVictim (h : Evolves W s t) {x : Voice} {v : VoiceNo} : Evolves W s (Machine.tellVictim x v t).1 := by
  unfold Machine.tellVictim
  split
  · exact h
  · exact h.checkEnd
  · split
    · exact h.writeCalls.endCallCore
    · exact h

theorem allocate (h : Evolves W s t) {r : AllocReq} {a : Allocated} (ha : Machine.allocate r t = some a) :
    Evolves W s a.state := by
  unfold Machine.allocate at ha
  split at ha
  · cases ha
    exact h.takeFree
  · split at ha
    · cases ha
      exact h.stealVoice.tellVictim
    · cases ha

theorem beginCall (h : Evolves W s t) {c : Call} {v : Option VoiceNo} : Evolves W s (Machine.beginCall c v t) :=
  h.removeCall.writeCalls.attackZones.raise

theorem startCall (h : Evolves W s t) {c : Call} : Evolves W s (Machine.startCall c t).state := by
  unfold Machine.startCall
  split
  · split
    · next ha => exact (h.allocate ha).beginCall
    · exact h.endCallCore
  · exact h.beginCall

theorem scanOnce (h : Evolves W s t) (cs : List Call) {claimed : BitVec 16} {again : Bool} :
    Evolves W s (Machine.scanOnce cs claimed again t).1 := by
  induction cs generalizing t claimed again with
  | nil => exact h
  | cons c cs ih =>
    unfold Machine.scanOnce
    split
    · exact ih h.startCall
    · exact ih h

theorem scanFuel (h : Evolves W s t) (n : Nat) : Evolves W s (Machine.scanFuel n t) := by
  induction n generalizing t with
  | zero => exact h
  | succ n ih =>
    unfold Machine.scanFuel
    dsimp only
    split
    · exact ih (h.scanOnce _)
    · exact h.scanOnce _

theorem scan (h : Evolves W s t) : Evolves W s (Machine.scan t) := h.scanFuel _

theorem endCall (h : Evolves W s t) {id : Nat} {reason : CallEnd} : Evolves W s (Machine.endCall id reason t) := by
  unfold Machine.endCall
  split
  · exact h
  · exact h.endCallCore.scan

theorem endCalls (h : Evolves W s t) {ids : List Nat} {reason : CallEnd} :
    Evolves W s (Machine.endCalls ids reason t) := by
  unfold Machine.endCalls
  split
  · exact h
  · exact (foldl (fun _ _ hu => hu.endCallCore) _ h).scan

theorem allocateScan (h : Evolves W s t) {r : AllocReq} {a : State × VoiceNo}
    (ha : Machine.allocateScan r t = some a) : Evolves W s a.1 := by
  unfold Machine.allocateScan at ha
  split at ha
  · next b hb =>
    cases ha
    dsimp only
    split
    · exact (h.allocate hb).scan
    · exact h.allocate hb
  · cases ha

theorem ownerLost (h : Evolves W s t) {o : Owner} {reason : CallEnd} : Evolves W s (Machine.ownerLost o reason t) := by
  cases o with
  | orphan => exact h
  | inst id c => exact h.checkEnd
  | call id => exact h.endCall

theorem acceptCall (h : Evolves W s t) {c : Call} : Evolves W s (Machine.acceptCall c t).1 :=
  (foldl (fun _ _ hu => hu.endCallCore) _ h.writeCalls).writeCalls.scan

theorem createShowStopCall (h : Evolves W s t) : Evolves W s (Machine.createShowStopCall t) := h.acceptCall

theorem joinShowStopCall (h : Evolves W s t) : Evolves W s (Machine.joinShowStopCall t) := by
  unfold Machine.joinShowStopCall
  split
  · exact h
  · exact h.writeCalls.attackZones

/-! ### The Cue Sequencer's operations (chapter 3) -/

theorem orphanVoices (h : Evolves W s t) {id : Nat} : Evolves W s (Machine.orphanVoices id t) := by
  refine { h with fifosOk := fun hs v => ?_ }
  have fifo : ((Machine.orphanVoices id t).voice v).fifo = (t.voice v).fifo := by
    simp only [State.voice, Machine.orphanVoices, Fin.getElem_fin, getElem_mapVec]
    split <;> rfl
  rw [fifo]
  exact h.fifosOk hs v

theorem makeRoom (h : Evolves W s t) : Evolves W s (Machine.makeRoom t) := by
  unfold Machine.makeRoom
  split
  · exact h
  · split
    · exact h.removeInst.orphanVoices.raise
    · exact h

/-- After room was made where there is any, the table is not full (R48). -/
theorem makeRoom_lt (h : Evolves W s t) (hroom : hasRoom t = true) (hs : TableOk s) :
    (Machine.makeRoom t).seq.instances.length < Config.maxInstances := by
  obtain ⟨hlen, -⟩ := h.tableOk hs
  unfold Machine.makeRoom
  split
  · assumption
  · next hfull =>
    split
    · next i hi =>
      refine lt_of_lt_of_le ?_ hlen
      show (t.seq.instances.filter fun j => j.id != i.id).length < t.seq.instances.length
      exact List.length_filter_lt_length_iff_exists.mpr ⟨i, List.mem_of_find?_eq_some hi, by simp⟩
    · next hnone => simp [hasRoom, hnone, hfull] at hroom

/-- The search from a value on finds an id that is not in use within as many tries as ids are in use, and one more
(R46, R145). -/
theorem iterate_nextId (n k : Nat) (h1 : 1 ≤ n) (h2 : n ≤ 255) : nextId^[k] n = (n - 1 + k) % 255 + 1 := by
  induction k with
  | zero => rw [Function.iterate_zero_apply]; omega
  | succ k ih =>
    rw [Function.iterate_succ_apply', ih]
    unfold nextId
    split <;> omega

theorem freshId_eq_iterate (used : List Nat) (k n : Nat) :
    (∃ j < k, freshId used k n = nextId^[j] n ∧ freshId used k n ∉ used) ∨
      (∀ j < k, nextId^[j] n ∈ used) := by
  induction k generalizing n with
  | zero => exact .inr fun j hj => absurd hj (Nat.not_lt_zero j)
  | succ k ih =>
    unfold freshId
    by_cases hn : used.contains n = true
    · rw [if_pos hn]
      rcases ih (nextId n) with ⟨j, hj, heq, hfree⟩ | hall
      · exact .inl ⟨j + 1, by omega, heq, hfree⟩
      · refine .inr fun j hj => ?_
        cases j with
        | zero => simpa using hn
        | succ j => exact hall j (by omega)
    · rw [if_neg hn]
      exact .inl ⟨0, by omega, rfl, by simpa using hn⟩

/-- With fewer than 255 ids in use, the id found is in 1..255 and not in use. -/
theorem freshId_spec {used : List Nat} {n : Nat} (hused : used.length < 255) (h1 : 1 ≤ n) (h2 : n ≤ 255) :
    freshId used 255 n ∉ used ∧ 1 ≤ freshId used 255 n ∧ freshId used 255 n ≤ 255 := by
  rcases freshId_eq_iterate used 255 n with ⟨j, -, heq, hfree⟩ | hall
  · refine ⟨hfree, ?_⟩
    rw [heq, iterate_nextId n j h1 h2]
    omega
  · have hinj : ((List.range 255).map fun j => nextId^[j] n).Nodup := by
      refine List.Nodup.map_on (fun a ha b hb hab => ?_) List.nodup_range
      rw [iterate_nextId n a h1 h2, iterate_nextId n b h1 h2] at hab
      rw [List.mem_range] at ha hb
      omega
    have hsub : ((List.range 255).map fun j => nextId^[j] n) ⊆ used := by
      intro x hx
      obtain ⟨j, hj, rfl⟩ := List.mem_map.mp hx
      exact hall j (List.mem_range.mp hj)
    have := (hinj.subperm hsub).length_le
    rw [List.length_map, List.length_range] at this
    omega

theorem createInst (h : Evolves W s t) {c : Cue} {cause : Cause}
    (hroom : TableOk s → t.seq.instances.length < Config.maxInstances) :
    Evolves W s (Machine.createInst c cause t) := by
  refine (h.writeTable fun hs ht => ?_).raise
  have hlt := hroom hs
  obtain ⟨hlen, hnodup, hids, hnext1, hnext2⟩ := ht
  have hlen24 : t.seq.instances.length < 24 := hlt
  obtain ⟨hfree, hlow, hhigh⟩ := freshId_spec (used := t.seq.instances.map (·.id)) (n := t.seq.nextId)
    (by simp; omega) hnext1 hnext2
  refine ⟨by simpa using hlt, ?_, fun i hi => ?_, ?_⟩
  · simp only [List.map_append, List.map_cons, List.map_nil, List.nodup_append]
    refine ⟨hnodup, by simp, fun a ha b hb hab => hfree ?_⟩
    rw [List.mem_singleton.mp hb] at hab
    rwa [hab] at ha
  · rcases List.mem_append.mp hi with hd | hd
    · exact hids i hd
    · rw [List.mem_singleton.mp hd]
      exact ⟨hlow, hhigh⟩
  · show 1 ≤ nextId _ ∧ nextId _ ≤ 255
    unfold nextId
    split <;> omega

theorem reachInst (h : Evolves W s t) {time id : Nat} : Evolves W s (Machine.reachInst time id t) := by
  unfold Machine.reachInst
  split
  · exact h
  · split
    · exact h.endInst
    · exact (h.modifyInst.checkEnd).stopVoices

theorem reachInsts (h : Evolves W s t) {time : Nat} {ids : List Nat} : Evolves W s (Machine.reachInsts time ids t) :=
  foldl (fun _ _ hu => hu.reachInst) ids h

theorem actionFault (h : Evolves W s t) {i : CueInstance} {pos : Nat} {why : Result} :
    Evolves W s (Machine.actionFault i pos why t) := h.raise

theorem dispatchPlay (h : Evolves W s t) {i : CueInstance} {pos : Nat} {p : PlaySpec} :
    Evolves W s (Machine.dispatchPlay i pos p t) := by
  unfold Machine.dispatchPlay
  split
  · next ha => exact h.allocateScan ha
  · exact h.raise

theorem dispatchStop (h : Evolves W s t) {i : CueInstance} {target : StopTarget} {time : Nat} :
    Evolves W s (Machine.dispatchStop i target time t) := by
  cases target with
  | group g => exact h.stopVoices
  | cue n => exact h.reachInsts
  | all => exact h.reachInsts.stopVoices

theorem fadeOneVoice (h : Evolves W s t) {level : Level} {time : Nat} {stopAtEnd : Bool} {v : VoiceNo} :
    Evolves W s (Machine.fadeOneVoice level time stopAtEnd v t) := by
  unfold Machine.fadeOneVoice
  dsimp only
  split
  · split
    · exact h.freeAndCheck
    · split
      · exact h.startRamp
      · exact h.postStopFade
    · split
      · exact h.startRamp
      · exact h.postStopFade
    · exact h
  · split
    · exact Evolves.post (h.setVoice)
    · exact h.post
    · exact h.post
    · exact h

theorem dispatchVoiceFade (h : Evolves W s t) {g : Nat} {level : Level} {time : Nat} {stopAtEnd : Bool} :
    Evolves W s (Machine.dispatchVoiceFade g level time stopAtEnd t) :=
  foldl (fun _ _ hu => hu.fadeOneVoice) _ h

theorem postScene (h : Evolves W s t) {entries : List SceneEntry} {time : Nat} :
    Evolves W s (Machine.postScene entries time t) :=
  foldl (fun _ _ hu => hu.post) _ h

theorem setMode (h : Evolves W s t) {o : OutputNo} {m : FoldMode} : Evolves W s (Machine.setMode o m t) := { h with }

theorem dispatchCall (h : Evolves W s t) {i : CueInstance} {pos : Nat} {c : CallSpec} :
    Evolves W s (Machine.dispatchCall i pos c t) := by
  unfold Machine.dispatchCall
  split
  · exact h.actionFault
  · split
    · exact h.raise
    · exact h.acceptCall

theorem dispatchAction (h : Evolves W s t) {i : CueInstance} {pos : Nat} {a : Action} :
    Evolves W s (Machine.dispatchAction i pos a t) := by
  cases a with
  | play p => exact h.dispatchPlay
  | stop target time => exact h.dispatchStop
  | voiceFade g l time e => exact h.dispatchVoiceFade
  | level src o l time => exact h.post
  | scene id time =>
    unfold Machine.dispatchAction
    dsimp only
    split
    · exact h.postScene
    · exact h.actionFault
  | trim o l time => exact h.post
  | foldbackMode o m =>
    unfold Machine.dispatchAction
    dsimp only
    split
    · exact h.actionFault
    · exact h.setMode
  | call c => exact h.dispatchCall

theorem dispatchFrom (h : Evolves W s t) {i : CueInstance} {pos : Nat} (as : List Action) :
    Evolves W s (Machine.dispatchFrom i pos as t) := by
  induction as generalizing t pos with
  | nil => exact h
  | cons a as ih => exact ih h.dispatchAction

theorem enterRunning (h : Evolves W s t) {id : Nat} : Evolves W s (Machine.enterRunning id t) := by
  unfold Machine.enterRunning
  split
  · exact h
  · exact ((h.modifyInst.raise).dispatchFrom _).modifyInst

theorem tableFull (h : Evolves W s t) {n : CueNum} {cause : Cause} : Evolves W s (Machine.tableFull n cause t) := h.raise

/-- A fire into a table with room keeps what it should. -/
def FiresWell (W : List Aspect) (s : State) (fire : Cue → State → State) : Prop :=
  ∀ c u, Evolves W s u → (TableOk s → u.seq.instances.length < Config.maxInstances) → Evolves W s (fire c u)

theorem expireFollow (h : Evolves W s t) {fire : Cue → State → State} (hfire : FiresWell W s fire) {id : Nat} :
    Evolves W s (Machine.expireFollow fire id t) := by
  unfold Machine.expireFollow
  split
  · exact h
  · split
    · exact h
    · have ended := (h.modifyInst (id := id) (f := fun j => { j with follow := none })).checkEnd (id := id)
      dsimp only
      split
      · split
        · split
          · next hroom => exact hfire _ _ ended.makeRoom (ended.makeRoom_lt hroom)
          · exact ended.tableFull
        · exact ended.raise
      · exact ended.raise

theorem fireChain (n : Nat) (cause : Cause) : FiresWell W s (Machine.fireChain n cause) := by
  induction n generalizing cause with
  | zero => exact fun c u h _ => h
  | succ n ih =>
    intro c u h hroom
    unfold Machine.fireChain
    dsimp only
    split
    · split
      · exact ((h.createInst hroom).enterRunning.expireFollow (ih .follow)).checkEnd
      · exact (h.createInst hroom).enterRunning.checkEnd
    · exact h.createInst hroom

theorem fireCue (cause : Cause) : FiresWell W s (Machine.fireCue cause) := fun c u => fireChain _ cause c u

theorem runInst (h : Evolves W s t) {id : Nat} : Evolves W s (Machine.runInst id t) := by
  unfold Machine.runInst
  dsimp only
  split
  · exact (h.enterRunning.expireFollow (fireCue .follow)).checkEnd
  · exact h.enterRunning.checkEnd

theorem fireMarkerCue (h : Evolves W s t) {c : Cue} : Evolves W s (Machine.fireMarkerCue c t) := by
  unfold Machine.fireMarkerCue
  split
  · next hroom => exact fireCue .marker c _ h.makeRoom (h.makeRoom_lt hroom)
  · exact h.tableFull

theorem reportMarker (h : Evolves W s t) {v : VoiceNo} {id : Byte} : Evolves W s (Machine.reportMarker v id t) := by
  unfold Machine.reportMarker
  dsimp only
  split
  · exact foldl (fun _ _ hu => hu.fireMarkerCue) _ h.raise
  · exact h.raise

end Evolves

end Sys2Proof.Machine
end

section
/-! SUPPORT. What every command but device reset keeps: the aspects that it writes, and `Evolves` of its effect. -/

namespace Sys2Proof.Machine

namespace Evolves

variable {W : List Aspect} {s t u : State}

/-! ### Requests and events -/

theorem respond (h : Evolves W s t) {l : Role} {c tag : Byte} {r : Reply} : Evolves W s (Machine.respond l c tag r t) :=
  h.setLink id

theorem reloadPresence (h : Evolves W s t) {l : Role} : Evolves W s (Machine.reloadPresence l t) := by
  unfold Machine.reloadPresence
  split
  · exact h.setLink id
  · exact h

theorem serve {body : State → State × Reply} (hbody : ∀ u, Evolves W s u → Evolves W s (body u).1) (l : Role)
    (c tag : Byte) : Evolves W s (Machine.serve l c tag body s) := by
  unfold Machine.serve
  split
  · exact refl W s
  · split
    · exact (refl W s).respond
    · split
      · exact (refl W s).reloadPresence.respond
      · exact (hbody _ (refl W s).reloadPresence).respond

theorem occur {f : State → State} (hf : ∀ u, Evolves W s u → Evolves W s (f u)) : Evolves W s (Machine.occur f s) := by
  unfold Machine.occur
  split
  · exact refl W s
  · exact hf s (refl W s)

theorem framed {take : State → State} (htake : Evolves W s (take s)) (l : Role) (c tag : Byte) (words : List Word) :
    Evolves W s (Machine.framed l c tag words take s) := by
  unfold Machine.framed
  split
  · exact htake
  · exact occur fun _ hu => hu.respond

/-! ### Level controls, the Mix Matrix and the frame (chapters 5 and 6) -/

theorem setLevelBody (h : Evolves W s t) {l : Role} {source output : Byte} {level : Half} {time : Word} :
    Evolves W s (Machine.setLevelBody l source output level time t).1 := by
  unfold Machine.setLevelBody
  split
  · exact h
  · split
    · split
      · exact h
      · exact h.postFade
    · exact h

theorem setTrimBody (h : Evolves W s t) {l : Role} {output : Byte} {level : Half} {time : Word} :
    Evolves W s (Machine.setTrimBody l output level time t).1 := by
  unfold Machine.setTrimBody
  split
  · exact h
  · split
    · split
      · exact h
      · exact h.postFade
    · exact h

theorem stopVoiceCompletion (h : Evolves W s t) {v : VoiceNo} : Evolves W s (Machine.stopVoiceCompletion v t) := by
  unfold Machine.stopVoiceCompletion
  split
  · exact h.freeVoice.ownerLost
  · exact h.startRamp

theorem runCompletion (h : Evolves W s t) {e : FadeEntry} : Evolves W s (Machine.runCompletion e t) := by
  unfold Machine.runCompletion
  split
  case h_2 => exact h.stopVoiceCompletion
  case h_4 => exact h.duckReleased
  all_goals exact h

theorem completeFade (h : Evolves W s t) {target : FadeTarget} : Evolves W s (Machine.completeFade target t) := by
  unfold Machine.completeFade
  split
  · split
    · exact h.setLevel.removeFade.runCompletion.reportTarget
    · exact h
  · exact h

/-- The Mix Matrix may be written freely. -/
theorem writeMix (h : Evolves W s t) {m : Mix} : Evolves W s { t with mix := m } := { h with }

theorem blankingBody (h : Evolves W s t) {f : Blanking → Blanking} {l : Role} {output : Byte} :
    Evolves W s (Machine.blankingBody f l output t).1 := by
  unfold Machine.blankingBody
  split
  · exact h
  · split
    · exact h
    · exact h.writeMix

theorem clearMeters (h : Evolves W s t) : Evolves W s (Machine.clearMeters t) := { h with }

theorem setReferenceBody (h : Evolves W s t) {value : Byte} : Evolves W s (Machine.setReferenceBody value t).1 := by
  unfold Machine.setReferenceBody
  split
  · exact h.writeMix
  · exact h.writeMix
  · exact h

theorem loseReference (h : Evolves W s t) {rate : Nat} : Evolves W s (Machine.loseReference rate t) := by
  unfold Machine.loseReference
  dsimp only
  split
  · exact h.writeMix.raise
  · exact h.writeMix

theorem achieveLock (h : Evolves W s t) : Evolves W s (Machine.achieveLock t) := by
  unfold Machine.achieveLock
  split
  · exact h.writeMix.raise
  · exact h

theorem reportMarkers (h : Evolves W s t) {v : VoiceNo} (n : Nat) : Evolves W s (Machine.reportMarkers v n t) := by
  induction n generalizing t with
  | zero => exact h
  | succ n ih =>
    have popped : ∀ (e : FifoEntry) (rest : List FifoEntry), (t.voice v).fifo = e :: rest →
        Evolves W s (t.setVoice v { t.voice v with fifo := rest }) := fun e rest hfifo =>
      h.setVoice fun hx => by
        rw [hfifo] at hx
        exact (Nat.le_succ _).trans hx
    unfold Machine.reportMarkers
    dsimp only
    split
    · next hfifo => exact ih (popped _ _ hfifo).runDecoder.reportMarker
    · next hfifo => exact ih (popped _ _ hfifo).runDecoder.reportMarker
    · next hfifo => exact ih (popped _ _ hfifo).runDecoder.reportMarker
    · exact h

theorem takeHead_fifo_le (x : Voice) (st : VoiceState) : (x.takeHead st).1.fifo.length ≤ x.fifo.length := by
  unfold Voice.takeHead
  split
  · next hfifo => simp [hfifo]
  · exact le_rfl

theorem takeFrame (h : Evolves W s t) {v : VoiceNo} : Evolves W s (Machine.takeFrame v t).1 := by
  have taken : ∀ st, Evolves W s (t.setVoice v ((t.voice v).takeHead st).1) := fun st =>
    h.setVoice (takeHead_fifo_le _ _).trans
  unfold Machine.takeFrame
  dsimp only
  split
  · exact (taken _).runDecoder
  · exact (taken _).runDecoder
  · exact (taken _).runDecoder
  · exact taken _
  · exact h

theorem dropMarkers (h : Evolves W s t) {v : VoiceNo} : Evolves W s (Machine.dropMarkers v t) := by
  unfold Machine.dropMarkers
  dsimp only
  split
  · exact h.setVoice (List.dropWhile_sublist _).length_le.trans
  · exact h

theorem playVoices (h : Evolves W s t) (vs : List VoiceNo) : Evolves W s (Machine.playVoices vs t).1 := by
  induction vs generalizing t with
  | nil => exact h
  | cons v vs ih => exact ih (h.reportMarkers _).dropMarkers.takeFrame

theorem reportClips (h : Evolves W s t) {r : State} {ds : List Delivery} : Evolves W s (Machine.reportClips r ds t) :=
  foldl (fun u o hu => by
    unfold Machine.reportClip
    split
    · exact hu.raise
    · exact hu) _ h

theorem runGates (h : Evolves W s t) : Evolves W s (Machine.runGates t) := { h with }

theorem countStems (h : Evolves W s t) {ds : List Delivery} : Evolves W s (Machine.countStems ds t) := { h with }

theorem finishFrame (h : Evolves W s t) {r : State} {ds : List Delivery} {live : Vector (BitVec 24) 16} :
    Evolves W s (Machine.finishFrame r ds live t) := by
  refine { h with zones := fun hw => ?_ }
  have measured : (·.leveler) ∘ Zone.measured r ds = (·.leveler) := by
    funext zn
    dsimp only [Function.comp_apply, Zone.measured]
    split <;> rfl
  refine Eq.trans ?_ (h.zones hw)
  show (t.relay.zones.map (Zone.measured r ds)).map (·.leveler) = t.relay.zones.map (·.leveler)
  rw [List.map_map, measured]

theorem audioFrame (h : Evolves W s t) {live : Vector (BitVec 24) 16} {first : List VoiceNo} :
    Evolves W s (Machine.audioFrame live first t) :=
  (h.runGates.playVoices _).countStems.reportClips.finishFrame

/-! ### Talk, monitor settings and the Relay Controller (chapters 7 and 8) -/

theorem writeTalk (h : Evolves W s t) {k : Option Talk} {e : Option TalkEnd} :
    Evolves W s { t with foldback := { t.foldback with talk := k, lastEnd := e } } := { h with }

theorem endTalk (h : Evolves W s t) {cause : TalkCause} : Evolves W s (Machine.endTalk cause t) := by
  unfold Machine.endTalk
  split
  · exact h
  · exact h.writeTalk

theorem setFollowBody (h : Evolves W s t) {output mode main : Byte} :
    Evolves W s (Machine.setFollowBody output mode main t).1 := by
  unfold Machine.setFollowBody
  split
  · split
    · exact h
    · exact h.setMode
  · exact h

theorem setOffsetBody (h : Evolves W s t) (hw : .offsets ∈ W) {source output : Byte} {offset : Half} :
    Evolves W s (Machine.setOffsetBody source output offset t).1 := by
  unfold Machine.setOffsetBody
  split
  · split
    · exact h
    · exact { h with offsets := fun hn => absurd hw hn }
  · exact h

theorem setCeilingBody (h : Evolves W s t) (hw : .ceilings ∈ W) {output : Byte} {ceiling : Half} :
    Evolves W s (Machine.setCeilingBody output ceiling t).1 := by
  unfold Machine.setCeilingBody
  split
  · exact h
  · split
    · exact h
    · exact { h with ceilings := fun hn => absurd hw hn }

theorem talkOnBody (h : Evolves W s t) {input : Byte} {set : BitVec 32} {level : Half} :
    Evolves W s (Machine.talkOnBody input set level t).1 := by
  unfold Machine.talkOnBody
  split
  · exact h
  · split
    · exact h
    · split
      · exact h
      · split
        · exact h
        · exact h.writeTalk

theorem expireTalk (h : Evolves W s t) : Evolves W s (Machine.expireTalk t) := by
  unfold Machine.expireTalk
  split
  · split
    · exact h.endTalk
    · exact h
  · exact h

theorem callBody (h : Evolves W s t) {p : CallPayload} : Evolves W s (Machine.callBody p t).1 := by
  unfold Machine.callBody
  split
  · exact h
  · split
    · exact h
    · exact h.acceptCall

theorem callEndBody (h : Evolves W s t) {id : Nat} : Evolves W s (Machine.callEndBody id t).1 := by
  unfold Machine.callEndBody
  split
  · exact h
  · split
    · exact h
    · exact h
    · exact h.endCall

theorem cancelCallBody (h : Evolves W s t) {id : Nat} : Evolves W s (Machine.cancelCallBody id t).1 := by
  unfold Machine.cancelCallBody
  split
  · exact h
  · split
    · exact h
    · exact h.endCall

theorem expireCall (h : Evolves W s t) {id : Nat} : Evolves W s (Machine.expireCall id t) := by
  unfold Machine.expireCall
  split
  · split
    · split
      · exact h.endCall
      · exact h
    · exact h
  · exact h

theorem endWindow (h : Evolves W s t) (hw : .zones ∈ W) : Evolves W s (Machine.endWindow t) := by
  unfold Machine.endWindow
  split
  · exact { h with zones := fun hn => absurd hw hn }
  · exact h

/-! ### The Cue Store and the links (chapters 1, 2 and 10) -/

theorem changeHolder (h : Evolves W s t) (hw : .holder ∈ W) {r : Option Role} :
    Evolves W s (Machine.changeHolder r t) :=
  have written : Evolves W s { t with store := { t.store with holder := r } } :=
    { h with holder := fun hn => absurd hw hn, records := fun hn => by rw [h.records hn] }
  written.raise

theorem edit (h : Evolves W s t) {l : Role} {body : State → State × Reply} (hbody : Evolves W s (body t).1) :
    Evolves W s (Machine.edit l body t).1 := by
  unfold Machine.edit
  split
  · exact h
  · exact hbody

/-- The records of the store may be written by the commands that edit or load them. -/
theorem writeRecords (h : Evolves W s t) (hw : .records ∈ W) {st : StoreState} {cs : List Cue} {scs : List Scene} :
    Evolves W s { t with store := { t.store with state := st, cues := cs, scenes := scs } } :=
  { h with records := fun hn => absurd hw hn }

/-- The playhead and the standby flag may be written by the commands that move the playhead. -/
theorem writePlayhead (h : Evolves W s t) (hw : .playhead ∈ W) {p : Option CueNum} {b : Bool} :
    Evolves W s { t with seq := { t.seq with playhead := p, standby := b } } :=
  { h with playhead := fun hn => absurd hw hn }

theorem movePlayhead (h : Evolves W s t) (hw : .playhead ∈ W) {p : Option CueNum} {cause : Nat} :
    Evolves W s (Machine.movePlayhead p cause t) := (h.writePlayhead hw).raise

theorem putCueBody (h : Evolves W s t) (hw : .records ∈ W) {words : List Word} :
    Evolves W s (Machine.putCueBody words t).1 := by
  unfold Machine.putCueBody
  split
  · exact h
  · split
    · exact h
    · split
      · exact h
      · split
        · exact h
        · exact h.writeRecords hw

theorem deleteCueBody (h : Evolves W s t) (hr : .records ∈ W) (hp : .playhead ∈ W) {n : CueNum} :
    Evolves W s (Machine.deleteCueBody n t).1 := by
  unfold Machine.deleteCueBody
  split
  · exact h
  · split
    · exact h
    · dsimp only [acceptCueEdit_fst]
      split
      · exact (h.writeRecords hr).movePlayhead hp
      · exact h.writeRecords hr

theorem putSceneBody (h : Evolves W s t) (hw : .records ∈ W) {words : List Word} :
    Evolves W s (Machine.putSceneBody words t).1 := by
  unfold Machine.putSceneBody
  split
  · exact h
  · split
    · exact h
    · exact h.writeRecords hw

theorem deleteSceneBody (h : Evolves W s t) (hw : .records ∈ W) {id : Nat} :
    Evolves W s (Machine.deleteSceneBody id t).1 := by
  unfold Machine.deleteSceneBody
  split
  · exact h
  · exact h.writeRecords hw

theorem attachBody (h : Evolves W s t) (hw : .attached ∈ W) {l : Role} {revision : Byte} :
    Evolves W s (Machine.attachBody l revision t).1 := by
  unfold Machine.attachBody
  split
  · exact h
  · split
    · exact h
    · exact h.setLink (fun ⟨hlow, hhigh, _, _⟩ => ⟨hlow, hhigh, Nat.zero_le _, fun _ => ⟨rfl, rfl⟩⟩)
        fun hn => absurd hw hn

theorem readEventsBody (h : Evolves W s t) {l : Role} {count : Byte} :
    Evolves W s (Machine.readEventsBody l count t).1 := by
  refine h.setLink fun ⟨hlow, hhigh, hlen, hdet⟩ => ⟨hlow, hhigh, ?_, fun hd => ⟨?_, rfl⟩⟩
  · exact (List.drop_sublist _ _).length_le.trans hlen
  · rw [(hdet hd).1, List.drop_nil]

theorem clearShow (h : Evolves W s t) (hl : .load ∈ W) (hr : .records ∈ W) (hp : .playhead ∈ W) :
    Evolves W s (Machine.clearShow t) :=
  { h with
    load := fun hn => absurd hl hn, records := fun hn => absurd hr hn, playhead := fun hn => absurd hp hn }

theorem failLoad (h : Evolves W s t) (hl : .load ∈ W) (hr : .records ∈ W) (hp : .playhead ∈ W) {why : LoadFailure} :
    Evolves W s (Machine.failLoad why t) := by
  unfold Machine.failLoad
  split
  · exact h
  · exact (h.clearShow hl hr hp).raise

/-- The port may be written freely. -/
theorem writePort (h : Evolves W s t) {p : Port} {m : Bool} {v : VoiceNo} :
    Evolves W s { t with smi := { t.smi with port := p, mhreq := m, lastServed := v } } := { h with }

theorem abortLoad (h : Evolves W s t) (hl : .load ∈ W) (hr : .records ∈ W) (hp : .playhead ∈ W) :
    Evolves W s (Machine.abortLoad t) := by
  unfold Machine.abortLoad
  dsimp only
  split
  · split
    · exact (h.failLoad hl hr hp).writePort
    · exact h.failLoad hl hr hp
  · exact h.failLoad hl hr hp

theorem detachEffects (h : Evolves W s t) (ha : .attached ∈ W) (hh : .holder ∈ W) (hl : .load ∈ W)
    (hr : .records ∈ W) (hp : .playhead ∈ W) {l : Role} : Evolves W s (Machine.detachEffects l t) := by
  have detached : Evolves W s (t.setLink l (t.link l).detach) :=
    h.setLink (fun ⟨hlow, hhigh, _, _⟩ => ⟨hlow, hhigh, Nat.zero_le _, fun _ => ⟨rfl, rfl⟩⟩) fun hn => absurd ha hn
  have aborted : ∀ u, Evolves W s u → Evolves W s (if loadsOn l u then Machine.abortLoad u else u) := by
    intro u hu
    split
    · exact hu.abortLoad hl hr hp
    · exact hu
  have released : ∀ u, Evolves W s u →
      Evolves W s (if u.store.holder = some l then Machine.changeHolder none u else u) := by
    intro u hu
    split
    · exact hu.changeHolder hh
    · exact hu
  have upto := released _ (aborted _ detached)
  cases l with
  | console => exact upto
  | prompt => exact upto.endCalls
  | monitor => exact upto.endTalk

theorem expirePresence (h : Evolves W s t) (ha : .attached ∈ W) (hh : .holder ∈ W) (hl : .load ∈ W)
    (hr : .records ∈ W) (hp : .playhead ∈ W) {l : Role} : Evolves W s (Machine.expirePresence l t) := by
  unfold Machine.expirePresence
  split
  · exact (h.detachEffects ha hh hl hr hp).raise
  · exact h

/-! ### Loading a show (1.5) -/

theorem acceptLoad (h : Evolves W s t) (hl : .load ∈ W) (hr : .records ∈ W) (hp : .playhead ∈ W) (hz : .zones ∈ W)
    {l : Role} : Evolves W s (Machine.acceptLoad l t) := by
  have cleared : Evolves W s { t with fades := t.fades.filter fun e => !goesAtLoad e.target } :=
    h.writeFades fun ⟨hlen, hnodup, hsteps⟩ => ⟨(List.length_filter_le _ _).trans hlen,
      (List.filter_sublist.map _).nodup hnodup, fun e he => hsteps e (List.mem_of_mem_filter he)⟩
  refine endTalk ?_
  exact { cleared with
    load := fun hn => absurd hl hn, records := fun hn => absurd hr hn, playhead := fun hn => absurd hp hn,
    zones := fun hn => absurd hz hn }

theorem succeedLoad (h : Evolves W s t) (hl : .load ∈ W) (hr : .records ∈ W) (hp : .playhead ∈ W) (hz : .zones ∈ W)
    (ho : .offsets ∈ W) (hc : .ceilings ∈ W) {hd : Header} {regions : List Region} :
    Evolves W s (Machine.succeedLoad hd regions t) := by
  unfold Machine.succeedLoad
  dsimp only
  split
  · refine Evolves.joinShowStopCall (Evolves.raise ?_)
    exact { h with
      load := fun hn => absurd hl hn, records := fun hn => absurd hr hn, playhead := fun hn => absurd hp hn,
      zones := fun hn => absurd hz hn, offsets := fun hn => absurd ho hn, ceilings := fun hn => absurd hc hn }
  · refine Evolves.raise ?_
    exact { h with
      load := fun hn => absurd hl hn, records := fun hn => absurd hr hn, playhead := fun hn => absurd hp hn,
      zones := fun hn => absurd hz hn, offsets := fun hn => absurd ho hn, ceilings := fun hn => absurd hc hn }

theorem judgeRecord (h : Evolves W s t) (hr : .records ∈ W) {phase : LoadPhase} {hd : Header} {regions : List Region}
    {ws : List Word} (hj : Machine.judgeRecord phase hd regions ws t = .ok u) : Evolves W s u := by
  have cue : ∀ {u}, judgeCue hd regions ws t = .ok u → Evolves W s u := by
    intro u hj
    unfold judgeCue at hj
    split at hj
    · cases hj
    · split at hj
      · cases hj
      · split at hj
        · cases hj
        · split at hj
          · cases hj
          · cases hj
            exact h.writeRecords hr
  cases phase with
  | scenes =>
    unfold Machine.judgeRecord judgeScene at hj
    dsimp only at hj
    split at hj
    · cases hj
    · split at hj
      · cases hj
      · split at hj
        · cases hj
        · cases hj
          exact h.writeRecords hr
  | _ => exact cue hj

theorem judgeRecords (h : Evolves W s t) (hr : .records ∈ W) {phase : LoadPhase} {hd : Header} {regions : List Region}
    {n left : Nat} {ws : List Word} {r : State × List Word × Bool}
    (hj : Machine.judgeRecords phase hd regions n left ws t = .ok r) : Evolves W s r.1 := by
  induction n generalizing left ws t with
  | zero =>
    cases hj
    exact h
  | succ n ih =>
    cases ws with
    | nil =>
      cases hj
      exact h
    | cons w ws =>
      simp only [Machine.judgeRecords] at hj
      split at hj
      · split at hj
        · cases hj
          exact h
        · cases hj
      · split at hj
        · cases hj
          exact h
        · split at hj
          · split at hj
            · cases hj
              exact h
            · cases hj
          · next ht => exact ih (h.judgeRecord hr ht) hj

theorem setLoad (h : Evolves W s t) (hl : .load ∈ W) {ld : Load} : Evolves W s (Machine.setLoad ld t) :=
  { h with load := fun hn => absurd hl hn }

theorem takeRecords (h : Evolves W s t) (hl : .load ∈ W) (hr : .records ∈ W) (hp : .playhead ∈ W) :
    Evolves W s (Machine.takeRecords t) := by
  unfold Machine.takeRecords
  split
  · exact h
  · split
    · exact h
    · exact h
    · exact h
    · split
      · exact h.setLoad hl
      · split
        · exact h.failLoad hl hr hp
        · next hj => exact (h.judgeRecords hr hj).setLoad hl

theorem endPhase (h : Evolves W s t) (hl : .load ∈ W) (hr : .records ∈ W) (hp : .playhead ∈ W) (hz : .zones ∈ W)
    (ho : .offsets ∈ W) (hc : .ceilings ∈ W) {ld : Load} : Evolves W s (Machine.endPhase ld t) := by
  unfold Machine.endPhase
  split
  case h_4 =>
    split
    · exact h.failLoad hl hr hp
    · exact h.succeedLoad hl hr hp hz ho hc
  case h_5 => exact h
  all_goals
    split
    · exact h.failLoad hl hr hp
    · exact h.setLoad hl

theorem endPhases (h : Evolves W s t) (hl : .load ∈ W) (hr : .records ∈ W) (hp : .playhead ∈ W) (hz : .zones ∈ W)
    (ho : .offsets ∈ W) (hc : .ceilings ∈ W) (n : Nat) : Evolves W s (Machine.endPhases n t) := by
  induction n generalizing t with
  | zero => exact h
  | succ n ih =>
    unfold Machine.endPhases
    split
    · exact h
    · split
      · exact ih (h.endPhase hl hr hp hz ho hc)
      · exact h

theorem takeWords (h : Evolves W s t) (hl : .load ∈ W) {ws : List Word} : Evolves W s (Machine.takeWords ws t) := by
  unfold Machine.takeWords
  split
  · exact h
  · exact h.setLoad hl

theorem completeLoadRead (h : Evolves W s t) (hl : .load ∈ W) (hr : .records ∈ W) (hp : .playhead ∈ W) (hz : .zones ∈ W)
    (ho : .offsets ∈ W) (hc : .ceilings ∈ W) {ws : List Word} : Evolves W s (Machine.completeLoadRead ws t) := by
  unfold Machine.completeLoadRead
  split
  · split
    · split
      · dsimp only
        split
        · exact h.writePort
        · exact ((h.writePort.takeWords hl).takeRecords hl hr hp).endPhases hl hr hp hz ho hc 4
      · exact h
    · exact h
  · exact h

/-! ### The port and the millisecond -/

theorem arbitrate (h : Evolves W s t) : Evolves W s (Machine.arbitrate t) := by
  unfold Machine.arbitrate
  split
  · split
    · exact h.writePort.raise
    · split
      · exact h.setVoice.writePort
      · split
        · unfold startLoadRead
          split
          · exact h.writePort
          · exact h
        · exact h
  · exact h

theorem inAccess (h : Evolves W s t) {f : Transfer → Transfer} : Evolves W s (Machine.inAccess f t) := by
  unfold Machine.inAccess
  split
  · split
    · exact h.writePort
    · exact h
  · exact h

theorem requestHold (h : Evolves W s t) : Evolves W s (Machine.requestHold t) := by
  unfold Machine.requestHold
  dsimp only
  split
  · exact h.writePort.writePort.raise
  · exact h.writePort

theorem releaseHold (h : Evolves W s t) : Evolves W s (Machine.releaseHold t) := by
  unfold Machine.releaseHold
  dsimp only
  split
  · exact h.writePort.writePort.raise.arbitrate
  · exact h.writePort

theorem filled_fifo (x : Voice) (ws : List Word) : (x.filled ws).fifo = x.fifo := by
  unfold Voice.filled Voice.loopReturn
  split <;> rfl

theorem completeVoiceFetch (h : Evolves W s t) {ws : List Word} : Evolves W s (Machine.completeVoiceFetch ws t) := by
  unfold Machine.completeVoiceFetch
  split
  · split
    · split
      · dsimp only
        split
        · exact (h.writePort.setVoice fun hx => (filled_fifo _ ws).symm ▸ hx).runDecoder
        · exact h.writePort
      · exact h
    · exact h
  · exact h

theorem tick_links (h : Evolves W s t) : Evolves W s { t with links := t.links.map Link.tick } := by
  have tick : ∀ k : Link, k.tick.attached = k.attached ∧ k.tick.tPres = k.tPres ∧ (k.ok → k.tick.ok) := by
    intro k
    unfold Link.tick
    split
    · exact ⟨rfl, rfl, id⟩
    · exact ⟨rfl, rfl, id⟩
  have read : ∀ r, { t with links := t.links.map Link.tick }.link r = (t.link r).tick := fun r => Links.get_map _ _ r
  refine { h with linkOk := fun hs r => ?_, attached := fun hw r => ?_, presence := fun r hw => ?_ } <;> rw [read]
  · exact (tick _).2.2 (h.linkOk hs r)
  · exact (tick _).1.trans (h.attached hw r)
  · exact (tick _).2.1.trans (h.presence r hw)

theorem stepTimers (h : Evolves W s t) {sample : LineState} : Evolves W s (Machine.stepTimers sample t) :=
  have ticked := (h.writeTable (is := t.seq.instances.map CueInstance.tick) (n := t.seq.nextId)
    fun _ => tableOk_map fun _ => rfl).tick_links
  { ticked with }

theorem millisecondTick (h : Evolves W s t) {sample : LineState} : Evolves W s (Machine.millisecondTick sample t) := by
  unfold Machine.millisecondTick
  split
  · exact h.stepTimers.stepFades
  · exact h

/-! ### The Cue Sequencer's commands (chapter 3) -/

theorem goBody (h : Evolves W s t) (hp : .playhead ∈ W) (hst : .stamp ∈ W) {l : Role} {e : Option CueNum} :
    Evolves W s (Machine.goBody l e t).1 := by
  unfold Machine.goBody
  split
  · exact h
  · next hnone =>
    split
    · exact h
    · have hroom : hasRoom t = true := by
        unfold goRefusal at hnone
        repeat' (split at hnone <;> first | contradiction | skip)
        assumption
      have fired := fun c => fireCue (.go l) c _ h.makeRoom (h.makeRoom_lt hroom)
      refine Evolves.movePlayhead ?_ hp
      exact { fired _ with stamp := fun hn => absurd hst hn }

theorem standbyBody (h : Evolves W s t) : Evolves W s (Machine.standbyBody t).1 := by
  unfold Machine.standbyBody
  split
  · exact h
  · split
    · exact h
    · refine Evolves.raise ?_
      exact { h with }

theorem fireBody (h : Evolves W s t) {l : Role} {n : CueNum} : Evolves W s (Machine.fireBody l n t).1 := by
  unfold Machine.fireBody
  split
  · exact h
  · split
    · exact h
    · split
      · next hroom => exact fireCue (.fire l) _ _ h.makeRoom (h.makeRoom_lt hroom)
      · exact h

theorem setPlayheadBody (h : Evolves W s t) (hp : .playhead ∈ W) {n : CueNum} :
    Evolves W s (Machine.setPlayheadBody n t).1 := by
  unfold Machine.setPlayheadBody
  split
  · exact h
  · split
    · exact h
    · split
      · exact h
      · exact h.movePlayhead hp

theorem endPrewait (h : Evolves W s t) {id : Nat} : Evolves W s (Machine.endPrewait id t) := by
  unfold Machine.endPrewait
  split
  · split
    · exact h.runInst
    · exact h
  · exact h

theorem endFollow (h : Evolves W s t) {id : Nat} : Evolves W s (Machine.endFollow id t) := by
  unfold Machine.endFollow
  split
  · exact h.expireFollow (fireCue .follow)
  · exact h

/-! ### Show stop (chapter 9) -/

theorem stopCues (h : Evolves W s t) : Evolves W s (Machine.stopCues t) :=
  (foldl (fun _ _ hu => hu.orphanVoices.endInst) _ h.writeShowState).stopVoices

theorem takeShowStop (h : Evolves W s t) {line : Bool} : Evolves W s (Machine.takeShowStop line t) := by
  unfold Machine.takeShowStop
  split
  · exact h
  · exact h.stopCues.post.endTalk.createShowStopCall.raise

theorem endShowStopCall (h : Evolves W s t) : Evolves W s (Machine.endShowStopCall t) := by
  unfold Machine.endShowStopCall
  split
  · exact h.endCall
  · exact h

theorem resumeBody (h : Evolves W s t) : Evolves W s (Machine.resumeBody t).1 := by
  unfold Machine.resumeBody
  split
  · exact h
  · split
    · exact h.writeShowState.endShowStopCall.raise.post
    · exact h

theorem setAnnounceBody (h : Evolves W s t) {input : Byte} {level : Half} :
    Evolves W s (Machine.setAnnounceBody input level t).1 := by
  unfold Machine.setAnnounceBody
  split
  · exact h
  · exact { h with }

theorem changeLine (h : Evolves W s t) {v : LineState} : Evolves W s (Machine.changeLine v t) := by
  refine Evolves.raise ?_
  exact { h with }

theorem assertLine (h : Evolves W s t) : Evolves W s (Machine.assertLine t) := by
  unfold Machine.assertLine
  split
  · exact h.changeLine.takeShowStop
  · exact h

theorem deassertLine (h : Evolves W s t) : Evolves W s (Machine.deassertLine t) := by
  unfold Machine.deassertLine
  split
  · exact h.changeLine
  · exact h

/-! ### The Stream Engine's commands (chapter 4) -/

theorem playBody (h : Evolves W s t) {w : ActionWords} : Evolves W s (Machine.playBody w t).1 := by
  unfold Machine.playBody
  split
  · exact h
  · exact h
  · split
    · exact h
    · split
      · exact h
      · split
        · exact h
        · split
          · next ha => exact h.allocateScan ha
          · exact h

theorem stopVoiceOfCall (h : Evolves W s t) {v : VoiceNo} {time : Nat} :
    Evolves W s (Machine.stopVoiceOfCall v time t) := by
  unfold Machine.stopVoiceOfCall
  split
  · exact h.stopVoice.endCall
  · exact h.stopVoice

theorem enterPlaying (h : Evolves W s t) {v : VoiceNo} : Evolves W s (Machine.enterPlaying v t) := by
  unfold Machine.enterPlaying
  dsimp only
  split
  · split
    · split
      · exact h.setVoice.post
      · exact h.setVoice
    · exact h
  · exact h

theorem enterStarved (h : Evolves W s t) {v : VoiceNo} : Evolves W s (Machine.enterStarved v t) := by
  unfold Machine.enterStarved
  dsimp only
  split
  · exact h.setVoice.raise
  · exact h

theorem returnToPlaying (h : Evolves W s t) {v : VoiceNo} : Evolves W s (Machine.returnToPlaying v t) := by
  unfold Machine.returnToPlaying
  dsimp only
  split
  · exact h.setVoice
  · exact h

theorem stopSiblings (h : Evolves W s t) {x : Voice} : Evolves W s (Machine.stopSiblings x t) := by
  unfold Machine.stopSiblings
  split
  · split
    · exact h.stopVoices
    · exact h
  · exact h

theorem naturalEnd (h : Evolves W s t) {v : VoiceNo} : Evolves W s (Machine.naturalEnd v t) := by
  unfold Machine.naturalEnd
  dsimp only
  split
  · exact h.freeVoice.ownerLost.stopSiblings
  · exact h

theorem endDeclick (h : Evolves W s t) {v : VoiceNo} : Evolves W s (Machine.endDeclick v t) := by
  unfold Machine.endDeclick
  split
  · split
    · exact h.freeVoice.ownerLost
    · exact h
  · exact h

theorem endReclaim (h : Evolves W s t) {v : VoiceNo} : Evolves W s (Machine.endReclaim v t) := by
  unfold Machine.endReclaim
  dsimp only
  split
  · split
    · split
      · exact h.freeVoice.ownerLost
      · refine Evolves.postFetch (v := v) (Evolves.writeCalls (h.setVoice (v := v) fun _ => ?_))
        rw [started_fifo]
        exact Nat.zero_le _
    · exact h
  · exact h

end Evolves

/-! ### Every command -/

/-- The aspects that a command may write; device reset writes every one. -/
def Instr.writes : Instr → List Aspect
  | .attach _ _ _ => [.attached]
  | .setPresence l _ _ => [.presence l]
  | .detach _ _ | .presenceExpiry _ => [.attached, .holder, .load, .records, .playhead]
  | .editHold _ _ | .editRelease _ _ => [.holder]
  | .putCue _ _ _ | .putScene _ _ _ | .deleteScene _ _ _ => [.records]
  | .deleteCue _ _ _ => [.records, .playhead]
  | .loadShow _ _ => [.load, .records, .playhead, .zones]
  | .loadAbort _ _ => [.load, .records, .playhead]
  | .loadReadComplete _ => [.load, .records, .playhead, .zones, .offsets, .ceilings]
  | .go _ _ _ => [.playhead, .stamp]
  | .setPlayhead _ _ _ => [.playhead]
  | .setOffset _ _ _ _ _ => [.offsets]
  | .setCeiling _ _ _ _ => [.ceilings]
  | .setLeveler _ _ _ => [.leveler]
  | .setStopTimes _ _ _ _ => [.stopTimes]
  | .windowEnd | .resetAsserted => [.zones]
  | _ => []

/-- No command but device reset writes an aspect outside its list or breaks a bound. -/
theorem exec_evolves {c : Instr} {s t : State} (hreset : ∀ line m, c ≠ .resetReleased line m)
    (h : exec c s = .next t) : Evolves (Instr.writes c) s t := by
  cases c
  case resetReleased line m => exact absurd rfl (hreset line m)
  all_goals obtain rfl := Host.Outcome.next.inj h
  -- requests of the Link Controller and the Cue Store
  case readResponse => exact Evolves.occur fun _ hu => hu.setLink id
  case badFrame => exact Evolves.occur fun _ hu => hu.respond
  case unknownRequest => exact Evolves.occur fun _ hu => hu.reloadPresence.respond
  case attach => exact Evolves.serve (fun _ hu => hu.attachBody (by simp [Instr.writes])) ..
  case detach =>
    exact Evolves.serve (fun _ hu => hu.detachEffects (by simp [Instr.writes]) (by simp [Instr.writes])
      (by simp [Instr.writes]) (by simp [Instr.writes]) (by simp [Instr.writes])) ..
  case setPresence l tag period =>
    refine Evolves.serve (fun u hu => hu.setLink (r := l) ?_ (by exact fun _ => rfl) ?_) ..
    · rintro ⟨-, -, hlen, hdet⟩
      have bounds : ∀ n, 250 ≤ clampNat 250 10000 n ∧ clampNat 250 10000 n ≤ 10000 := by
        intro n
        unfold clampNat
        split
        · omega
        · split <;> omega
      exact ⟨(bounds _).1, (bounds _).2, hlen, hdet⟩
    · exact fun hn => absurd (.head _) hn
  case setEventMask l tag mask => exact Evolves.serve (fun _ hu => hu.setLink (r := l) (by exact id)) ..
  case readEvents => exact Evolves.serve (fun _ hu => hu.readEventsBody) ..
  case readStatus | readRunning | readVoices | readCalls => exact Evolves.serve (fun _ hu => hu) ..
  case editHold =>
    refine Evolves.serve (fun _ hu => ?_) ..
    split
    · exact hu.changeHolder (.head _)
    · split
      · exact hu
      · exact hu
  case editRelease =>
    refine Evolves.serve (fun _ hu => ?_) ..
    split
    · exact hu
    · split
      · exact hu
      · exact hu.changeHolder (.head _)
  case putCue => exact Evolves.framed (Evolves.serve (fun _ hu => hu.edit (hu.putCueBody (.head _))) ..) ..
  case deleteCue => exact Evolves.serve (fun _ hu => hu.edit (hu.deleteCueBody (.head _) (.tail _ (.head _)))) ..
  case putScene => exact Evolves.framed (Evolves.serve (fun _ hu => hu.edit (hu.putSceneBody (.head _))) ..) ..
  case deleteScene => exact Evolves.serve (fun _ hu => hu.edit (hu.deleteSceneBody (.head _))) ..
  case readCue | readScene =>
    refine Evolves.serve (fun _ hu => ?_) ..
    split
    · exact hu
    · split <;> exact hu
  -- loads and the port
  case loadShow =>
    refine Evolves.serve (fun _ hu => ?_) ..
    split
    · exact hu
    · exact hu.acceptLoad (by simp [Instr.writes]) (by simp [Instr.writes]) (by simp [Instr.writes])
        (by simp [Instr.writes])
  case loadAbort =>
    refine Evolves.serve (fun _ hu => ?_) ..
    split
    · exact hu
    · split
      · exact hu.abortLoad (by simp [Instr.writes]) (by simp [Instr.writes]) (by simp [Instr.writes])
      · exact hu
  case setAccessDelay => exact Evolves.serve (fun _ hu => { hu with }) ..
  case loadReadComplete =>
    exact Evolves.occur fun _ hu => hu.completeLoadRead (by simp [Instr.writes]) (by simp [Instr.writes])
      (by simp [Instr.writes]) (by simp [Instr.writes]) (by simp [Instr.writes]) (by simp [Instr.writes])
  case mhreqAsserted => exact Evolves.occur fun _ hu => hu.requestHold
  case mhend => exact Evolves.occur fun _ hu => hu.releaseHold
  case smRdySeen | taccExpiry => exact Evolves.occur fun _ hu => hu.inAccess
  case arbitrate => exact Evolves.occur fun _ hu => hu.arbitrate
  case voiceFetchComplete => exact Evolves.occur fun _ hu => hu.completeVoiceFetch
  -- the Cue Sequencer
  case go => exact Evolves.serve (fun _ hu => hu.goBody (.head _) (.tail _ (.head _))) ..
  case standby => exact Evolves.serve (fun _ hu => hu.standbyBody) ..
  case fire => exact Evolves.serve (fun _ hu => hu.fireBody) ..
  case setPlayhead => exact Evolves.serve (fun _ hu => hu.setPlayheadBody (.head _)) ..
  case setGoAuthority | setStandbyRequired =>
    refine Evolves.serve (fun _ hu => ?_) ..
    split
    · exact hu
    · exact { hu with }
  case setGuard => exact Evolves.serve (fun _ hu => { hu with }) ..
  case stopCue => exact Evolves.serve (fun _ hu => hu.reachInsts) ..
  case stopAll => exact Evolves.serve (fun _ hu => hu.reachInsts.stopVoices) ..
  case prewaitEnd => exact Evolves.occur fun _ hu => hu.endPrewait
  case followExpiry => exact Evolves.occur fun _ hu => hu.endFollow
  -- the Stream Engine
  case play => exact Evolves.serve (fun _ hu => hu.playBody) ..
  case stopVoice =>
    refine Evolves.serve (fun _ hu => ?_) ..
    split
    · exact hu
    · exact hu.stopVoiceOfCall
  case declickRampEnd => exact Evolves.occur fun _ hu => hu.endDeclick
  case reclaimRampEnd => exact Evolves.occur fun _ hu => hu.endReclaim
  case voiceNaturalEnd => exact Evolves.occur fun _ hu => hu.naturalEnd
  case enterPlaying => exact Evolves.occur fun _ hu => hu.enterPlaying
  case enterStarved => exact Evolves.occur fun _ hu => hu.enterStarved
  case returnToPlaying => exact Evolves.occur fun _ hu => hu.returnToPlaying
  case decoderRun => exact Evolves.occur fun _ hu => hu.runDecoder
  -- levels and the Mix Matrix
  case setLevel => exact Evolves.serve (fun _ hu => hu.setLevelBody) ..
  case setTrim => exact Evolves.serve (fun _ hu => hu.setTrimBody) ..
  case readLevels =>
    refine Evolves.serve (fun _ hu => ?_) ..
    split <;> exact hu
  case blank | openOutput => exact Evolves.serve (fun _ hu => hu.blankingBody) ..
  case readMeters => exact Evolves.serve (fun _ hu => hu.clearMeters) ..
  case setReference => exact Evolves.serve (fun _ hu => hu.setReferenceBody) ..
  case referenceLost => exact Evolves.occur fun _ hu => hu.loseReference
  case lockAchieved => exact Evolves.occur fun _ hu => hu.achieveLock
  case blankingRampEnd | referencePresentAndInRange => exact Evolves.occur fun _ hu => hu.writeMix
  case fadeComplete => exact Evolves.occur fun _ hu => hu.completeFade
  case audioFrame => exact Evolves.occur fun _ hu => hu.audioFrame
  case millisecondTick => exact Evolves.occur fun _ hu => hu.millisecondTick
  -- foldback, relay and show stop
  case setFollow => exact Evolves.serve (fun _ hu => hu.setFollowBody) ..
  case setOffset => exact Evolves.serve (fun _ hu => hu.setOffsetBody (.head _)) ..
  case setCeiling => exact Evolves.serve (fun _ hu => hu.setCeilingBody (.head _)) ..
  case talkOn => exact Evolves.serve (fun _ hu => hu.talkOnBody) ..
  case talkOff => exact Evolves.serve (fun _ hu => hu.endTalk) ..
  case talkGateExpiry => exact Evolves.occur fun _ hu => hu.expireTalk
  case setLeveler => exact Evolves.serve (fun _ hu => { hu with leveler := fun hn => absurd (.head _) hn }) ..
  case setDuckTimes | setGate => exact Evolves.serve (fun _ hu => { hu with }) ..
  case call => exact Evolves.serve (fun _ hu => hu.callBody) ..
  case callEnd => exact Evolves.serve (fun _ hu => hu.callEndBody) ..
  case cancelCall => exact Evolves.serve (fun _ hu => hu.cancelCallBody) ..
  case callGateExpiry => exact Evolves.occur fun _ hu => hu.expireCall
  case presenceExpiry =>
    exact Evolves.occur fun _ hu => hu.expirePresence (by simp [Instr.writes]) (by simp [Instr.writes])
      (by simp [Instr.writes]) (by simp [Instr.writes]) (by simp [Instr.writes])
  case windowEnd => exact Evolves.occur fun _ hu => hu.endWindow (.head _)
  case showStop => exact Evolves.serve (fun _ hu => hu.takeShowStop) ..
  case resume => exact Evolves.serve (fun _ hu => hu.resumeBody) ..
  case setStopTimes => exact Evolves.serve (fun _ hu => { hu with stopTimes := fun hn => absurd (.head _) hn }) ..
  case setAnnounce => exact Evolves.serve (fun _ hu => hu.setAnnounceBody) ..
  case showstopAsserted => exact Evolves.occur fun _ hu => hu.assertLine
  case showstopDeasserted => exact Evolves.occur fun _ hu => hu.deassertLine
  case resetAsserted =>
    exact { Evolves.refl [.zones] s with
      fadesOk := fun _ => ⟨Nat.zero_le _, List.nodup_nil, fun _ he => absurd he List.not_mem_nil⟩
      fifosOk := fun _ v => by simp [assertReset, State.voice, Voice.freeRecord]
      zones := fun hn => absurd (.head _) hn }

/-- Device reset leaves what the reset state makes of the line and MHREQ as they stand; nothing outside the load, the
records and the playhead of the reset state is written (R19, R167). -/
theorem releaseReset_evolves (line : LineState) (m : Bool) (s : State) :
    Evolves [] { State.reset with pending := s.pending } (releaseReset line m s) := by
  have lined : Evolves [] { State.reset with pending := s.pending }
      (takeLineAtReset line { State.reset with pending := s.pending }) := by
    cases line with
    | deasserted => exact .refl _ _
    | asserted =>
      refine Evolves.createShowStopCall ?_
      exact { Evolves.refl [] { State.reset with pending := s.pending } with }
  unfold releaseReset
  dsimp only
  split
  · exact lined.requestHold
  · exact lined

end Sys2Proof.Machine
end

section
/-! SUPPORT. The placing of records in the store (R22, R25), and what the edits and the steps of a load keep of the
store, the playhead and the edit hold. -/

namespace Sys2Proof.Machine

/-! ### Placing a record by its key -/

/-- Puts an element in key order, in place of one of the same key: what `placeCue` does by numbers and `placeScene` by
identifiers. -/
def placeBy {α : Type} (key : α → Nat) (a : α) : List α → List α
  | [] => [a]
  | b :: bs => if key a < key b then a :: b :: bs else if key a = key b then a :: bs else b :: placeBy key a bs

theorem placeCue_eq_placeBy (c : Cue) (cs : List Cue) : placeCue c cs = placeBy (fun c => c.num.toNat) c cs := by
  induction cs with
  | nil => rfl
  | cons d ds ih => simp only [placeCue, placeBy, ih, BitVec.toNat_inj]

theorem placeScene_eq_placeBy (sc : Scene) (ss : List Scene) : placeScene sc ss = placeBy (·.id) sc ss := by
  induction ss with
  | nil => rfl
  | cons d ds ih => simp only [placeScene, placeBy, ih]

section PlaceBy

variable {α : Type} {key : α → Nat} {a : α} {bs : List α}

theorem mem_placeBy_self : a ∈ placeBy key a bs := by
  induction bs with
  | nil => exact .head _
  | cons b bs ih =>
    unfold placeBy
    split
    · exact .head _
    · split
      · exact .head _
      · exact .tail _ ih

theorem eq_or_mem_of_mem_placeBy {x : α} (hx : x ∈ placeBy key a bs) : x = a ∨ x ∈ bs := by
  induction bs with
  | nil => simpa [placeBy] using hx
  | cons b bs ih =>
    unfold placeBy at hx
    split at hx
    · simpa using hx
    · split at hx
      · rcases List.mem_cons.mp hx with h | h
        · exact .inl h
        · exact .inr (.tail _ h)
      · rcases List.mem_cons.mp hx with h | h
        · exact .inr (h ▸ .head _)
        · exact (ih h).imp_right (.tail _)

theorem mem_placeBy_of_ne {x : α} (hx : x ∈ bs) (hne : key x ≠ key a) : x ∈ placeBy key a bs := by
  induction bs with
  | nil => cases hx
  | cons b bs ih =>
    unfold placeBy
    split
    · exact .tail _ hx
    · split
      · next heq =>
        rcases List.mem_cons.mp hx with rfl | h
        · exact absurd heq.symm hne
        · exact .tail _ h
      · rcases List.mem_cons.mp hx with rfl | h
        · exact .head _
        · exact .tail _ (ih h)

/-- An ascending list stays ascending. -/
theorem pairwise_placeBy (h : bs.Pairwise fun x y => key x < key y) :
    (placeBy key a bs).Pairwise fun x y => key x < key y := by
  induction bs with
  | nil => simp [placeBy]
  | cons b bs ih =>
    obtain ⟨hb, hbs⟩ := List.pairwise_cons.mp h
    unfold placeBy
    split
    · next hlt =>
      refine List.pairwise_cons.mpr ⟨fun x hx => ?_, h⟩
      rcases List.mem_cons.mp hx with rfl | hx
      · exact hlt
      · exact hlt.trans (hb x hx)
    · split
      · next heq => exact List.pairwise_cons.mpr ⟨fun x hx => heq ▸ hb x hx, hbs⟩
      · refine List.pairwise_cons.mpr ⟨fun x hx => ?_, ih hbs⟩
        rcases eq_or_mem_of_mem_placeBy hx with rfl | hx
        · omega
        · exact hb x hx

/-- Placing into an ascending list puts the element in the place of those of its key. -/
theorem placeBy_perm (h : bs.Pairwise fun x y => key x < key y) :
    (placeBy key a bs).Perm (a :: bs.filter fun x => key x != key a) := by
  induction bs with
  | nil => exact .refl _
  | cons b bs ih =>
    obtain ⟨hb, hbs⟩ := List.pairwise_cons.mp h
    have above : key a ≤ key b → bs.filter (fun x => key x != key a) = bs := fun hle =>
      List.filter_eq_self.mpr fun x hx => by
        have := hb x hx
        simp only [bne_iff_ne]
        omega
    unfold placeBy
    split
    · next hlt => rw [List.filter_cons_of_pos (by simp only [bne_iff_ne]; omega), above hlt.le]
    · split
      · next heq => rw [List.filter_cons_of_neg (by simp [heq]), above heq.le]
      · next hne =>
        rw [List.filter_cons_of_pos (by simp only [bne_iff_ne]; omega)]
        exact ((ih hbs).cons b).trans (.swap a b _)

end PlaceBy

section PlaceCue

variable {c : Cue} {cs : List Cue}

theorem pairwise_placeCue (h : cs.Pairwise fun a b => a.num.toNat < b.num.toNat) :
    (placeCue c cs).Pairwise fun a b => a.num.toNat < b.num.toNat := by
  rw [placeCue_eq_placeBy]
  exact pairwise_placeBy h

/-- A cue takes the place of the one of its number, if there is one (R22, R31). -/
theorem placeCue_perm (h : cs.Pairwise fun a b => a.num.toNat < b.num.toNat) :
    (placeCue c cs).Perm (c :: cs.filter fun d => d.num != c.num) := by
  have same : (fun d : Cue => d.num.toNat != c.num.toNat) = fun d => d.num != c.num := by
    funext d
    by_cases hd : d.num = c.num
    · simp [hd]
    · rw [bne_iff_ne.mpr hd, bne_iff_ne.mpr fun e => hd (BitVec.toNat_inj.mp e)]
  rw [placeCue_eq_placeBy, ← same]
  exact placeBy_perm h

theorem mem_placeCue_of_ne {d : Cue} (hd : d ∈ cs) (hne : d.num ≠ c.num) : d ∈ placeCue c cs := by
  rw [placeCue_eq_placeBy]
  exact mem_placeBy_of_ne hd fun e => hne (BitVec.toNat_inj.mp e)

theorem mem_placeCue_self : c ∈ placeCue c cs := by
  rw [placeCue_eq_placeBy]
  exact mem_placeBy_self

end PlaceCue

section PlaceScene

variable {sc : Scene} {ss : List Scene}

theorem pairwise_placeScene (h : ss.Pairwise fun a b => a.id < b.id) :
    (placeScene sc ss).Pairwise fun a b => a.id < b.id := by
  rw [placeScene_eq_placeBy]
  exact pairwise_placeBy h

/-- A scene takes the place of the one of its identifier, if there is one (R25, R33). -/
theorem placeScene_perm (h : ss.Pairwise fun a b => a.id < b.id) :
    (placeScene sc ss).Perm (sc :: ss.filter fun d => d.id != sc.id) := by
  rw [placeScene_eq_placeBy]
  exact placeBy_perm h

end PlaceScene

theorem actionTotal_perm {cs ds : List Cue} (h : cs.Perm ds) : actionTotal cs = actionTotal ds :=
  (h.map _).sum_eq

theorem entryTotal_perm {ss ts : List Scene} (h : ss.Perm ts) : entryTotal ss = entryTotal ts :=
  (h.map _).sum_eq

theorem actionTotal_cons (c : Cue) (cs : List Cue) : actionTotal (c :: cs) = c.actions.length + actionTotal cs := rfl

theorem entryTotal_cons (sc : Scene) (ss : List Scene) : entryTotal (sc :: ss) = sc.entries.length + entryTotal ss := rfl

theorem actionTotal_sublist {cs ds : List Cue} (h : cs.Sublist ds) : actionTotal cs ≤ actionTotal ds :=
  (h.map _).sum_le_sum (fun _ _ => Nat.zero_le _)

theorem entryTotal_sublist {ss ts : List Scene} (h : ss.Sublist ts) : entryTotal ss ≤ entryTotal ts :=
  (h.map _).sum_le_sum (fun _ _ => Nat.zero_le _)

/-! ### The store -/

/-- The cues are in order and within their capacities (R22). -/
def CuesOk (cs : List Cue) : Prop :=
  cs.Pairwise (fun a b => a.num.toNat < b.num.toNat) ∧ cs.length ≤ Config.maxCues ∧ actionTotal cs ≤ Config.maxActions

/-- The scenes are in order and within their capacities (R25). -/
def ScenesOk (ss : List Scene) : Prop :=
  ss.Pairwise (fun a b => a.id < b.id) ∧ ss.length ≤ Config.maxScenes ∧ entryTotal ss ≤ Config.maxEntries

/-- The header that a load has judged is within the capacities. -/
def LoadOk (s : State) : Prop := ∀ ld h, s.smi.load = some ld → ld.header = some h → h.ok

theorem storeOk_iff (s : State) : StoreOk s ↔ CuesOk s.store.cues ∧ ScenesOk s.store.scenes ∧ LoadOk s := by
  unfold StoreOk CuesOk ScenesOk LoadOk
  tauto

theorem CuesOk.nil : CuesOk [] := ⟨.nil, Nat.zero_le _, Nat.zero_le _⟩

theorem ScenesOk.nil : ScenesOk [] := ⟨.nil, Nat.zero_le _, Nat.zero_le _⟩

theorem LoadOk.of_none {s : State} (h : s.smi.load = none) : LoadOk s := by
  intro ld hd hld
  rw [h] at hld
  cases hld

theorem StoreOk.of_eq {s t : State} (hs : StoreOk s) (hstore : t.store = { s.store with holder := t.store.holder })
    (hload : t.smi.load = s.smi.load) : StoreOk t := by
  unfold StoreOk
  rw [hstore, hload]
  exact hs

theorem CuesOk.sublist {cs ds : List Cue} (hds : CuesOk ds) (h : cs.Sublist ds) : CuesOk cs := by
  obtain ⟨hsorted, hlen, htotal⟩ := hds
  exact ⟨hsorted.sublist h, h.length_le.trans hlen, (actionTotal_sublist h).trans htotal⟩

theorem ScenesOk.sublist {ss ts : List Scene} (hts : ScenesOk ts) (h : ss.Sublist ts) : ScenesOk ss := by
  obtain ⟨hsorted, hlen, htotal⟩ := hts
  exact ⟨hsorted.sublist h, h.length_le.trans hlen, (entryTotal_sublist h).trans htotal⟩

/-! ### Edits -/

theorem putCueBody_storeOk {s : State} (hs : StoreOk s) (words : List Word) : StoreOk (putCueBody words s).1 := by
  unfold putCueBody
  split
  · exact hs
  · split
    · exact hs
    · split
      · exact hs
      · next hfit =>
        split
        · exact hs
        · obtain ⟨⟨hsorted, -, -⟩, hscenes, hload⟩ := (storeOk_iff s).mp hs
          have hfits := Bool.of_not_eq_false hfit
          obtain ⟨hlen, htotal⟩ := of_decide_eq_true hfits
          exact (storeOk_iff _).mpr ⟨⟨pairwise_placeCue hsorted, hlen, htotal⟩, hscenes, hload⟩

theorem deleteCueBody_storeOk {s : State} (hs : StoreOk s) (n : CueNum) : StoreOk (deleteCueBody n s).1 := by
  obtain ⟨hcues, hscenes, hload⟩ := (storeOk_iff s).mp hs
  have deleted : StoreOk { s with store := { s.store with cues := s.store.cues.filter fun c => c.num != n } } :=
    (storeOk_iff _).mpr ⟨hcues.sublist List.filter_sublist, hscenes, hload⟩
  unfold deleteCueBody
  split
  · exact hs
  · split
    · exact hs
    · dsimp only [acceptCueEdit_fst]
      split
      · exact deleted
      · exact deleted

theorem putSceneBody_storeOk {s : State} (hs : StoreOk s) (words : List Word) : StoreOk (putSceneBody words s).1 := by
  unfold putSceneBody
  split
  · exact hs
  · split
    · exact hs
    · next hfit =>
      obtain ⟨hcues, ⟨hsorted, -, -⟩, hload⟩ := (storeOk_iff s).mp hs
      have hfits := Bool.of_not_eq_false hfit
      obtain ⟨hlen, htotal⟩ := of_decide_eq_true hfits
      exact (storeOk_iff _).mpr ⟨hcues, ⟨pairwise_placeScene hsorted, hlen, htotal⟩, hload⟩

theorem deleteSceneBody_storeOk {s : State} (hs : StoreOk s) (id : Nat) : StoreOk (deleteSceneBody id s).1 := by
  obtain ⟨hcues, hscenes, hload⟩ := (storeOk_iff s).mp hs
  unfold deleteSceneBody
  split
  · exact hs
  · exact (storeOk_iff _).mpr ⟨hcues, hscenes.sublist List.filter_sublist, hload⟩

/-! ### The end of a load without success (R16, R18) -/

/-- Whatever the reason, a load that fails leaves no load, an empty store and the playhead END. -/
structure LoadGone (s t : State) : Prop where
  load : t.smi.load = none
  cues : t.store.cues = []
  scenes : t.store.scenes = []
  state : t.store.state = .noShow
  playhead : t.seq.playhead = none
  holder : t.store.holder = s.store.holder
  links : ∀ r, (t.link r).attached = (s.link r).attached

theorem failLoad_cases (why : LoadFailure) (s : State) :
    (s.smi.load = none ∧ failLoad why s = s) ∨
      (∃ ld, s.smi.load = some ld ∧ failLoad why s = raise (loadFailedEvent why ld.phase) (clearShow s)) := by
  unfold failLoad
  cases hld : s.smi.load with
  | none => exact .inl ⟨rfl, rfl⟩
  | some ld => exact .inr ⟨ld, rfl, rfl⟩

theorem failLoad_gone (why : LoadFailure) {s : State} {ld : Load} (h : s.smi.load = some ld) :
    LoadGone s (failLoad why s) := by
  rcases failLoad_cases why s with ⟨hnone, -⟩ | ⟨ld, -, e⟩
  · rw [hnone] at h
    cases h
  · rw [e]
    exact ⟨rfl, rfl, rfl, rfl, rfl, rfl, fun r => by rw [link_raise, Link.append_attached]; rfl⟩

/-- The abort of a load is its failure, but for the mark on a read in flight (R18). -/
theorem abortLoad_eq (s : State) :
    abortLoad s = { failLoad .aborted s with smi := { (failLoad .aborted s).smi with port := (abortLoad s).smi.port } } := by
  unfold abortLoad
  dsimp only
  split
  · split <;> rfl
  · rfl

theorem abortLoad_gone {s : State} {ld : Load} (h : s.smi.load = some ld) : LoadGone s (abortLoad s) := by
  have gone := failLoad_gone .aborted h
  rw [abortLoad_eq]
  exact { gone with }

theorem abortLoad_idle {s : State} (h : s.smi.load = none) :
    (abortLoad s).smi.load = none ∧ (abortLoad s).store = s.store ∧ (abortLoad s).seq = s.seq ∧
      (abortLoad s).links = s.links := by
  rw [abortLoad_eq]
  rcases failLoad_cases .aborted s with ⟨-, e⟩ | ⟨ld, hld, -⟩
  · exact ⟨by simp [e, h], by simp [e], by simp [e], by simp [e]⟩
  · rw [h] at hld
    cases hld

theorem LoadGone.storeOk {s t : State} (h : LoadGone s t) : StoreOk t :=
  (storeOk_iff t).mpr ⟨h.cues ▸ .nil, h.scenes ▸ .nil, .of_none h.load⟩

theorem LoadGone.playheadOk {s t : State} (h : LoadGone s t) : PlayheadOk t := by
  intro n hn
  rw [h.playhead] at hn
  cases hn

/-! ### The playhead (R38) -/

theorem PlayheadOk.of_eq {s t : State} (hs : PlayheadOk s)
    (hstore : t.store = { s.store with holder := t.store.holder }) (hplay : t.seq.playhead = s.seq.playhead) :
    PlayheadOk t := by
  intro n hn
  obtain ⟨hready, hstored⟩ := hs n (hplay ▸ hn)
  exact ⟨by rw [hstore]; exact hready, by rw [cueOf, hstore]; exact hstored⟩

theorem cueOf_isSome_iff (n : CueNum) (s : State) : (cueOf n s).isSome = true ↔ ∃ c ∈ s.store.cues, c.num = n := by
  simp [cueOf, List.find?_isSome]

theorem nextGo_stored {n p : CueNum} {s : State} (h : nextGo n s = some p) : (cueOf p s).isSome = true := by
  obtain ⟨c, hc, rfl⟩ := Option.map_eq_some_iff.mp h
  exact (cueOf_isSome_iff _ _).mpr ⟨c, List.mem_of_find?_eq_some hc, rfl⟩

theorem firstGo_stored {p : CueNum} {s : State} (h : firstGo s = some p) : (cueOf p s).isSome = true := by
  obtain ⟨c, hc, rfl⟩ := Option.map_eq_some_iff.mp h
  exact (cueOf_isSome_iff _ _).mpr ⟨c, List.mem_of_find?_eq_some hc, rfl⟩

/-- A placed cue leaves every number stored that was. -/
theorem PlayheadOk.placeCue {s : State} (hs : PlayheadOk s) (c : Cue) :
    PlayheadOk { s with store := { s.store with cues := Machine.placeCue c s.store.cues } } := by
  intro n hn
  obtain ⟨hready, hstored⟩ := hs n hn
  obtain ⟨d, hd, rfl⟩ := (cueOf_isSome_iff _ _).mp hstored
  refine ⟨hready, (cueOf_isSome_iff _ _).mpr ?_⟩
  by_cases hne : d.num = c.num
  · exact ⟨c, mem_placeCue_self, hne.symm⟩
  · exact ⟨d, mem_placeCue_of_ne hd hne, rfl⟩

theorem putCueBody_playheadOk {s : State} (hs : PlayheadOk s) (words : List Word) :
    PlayheadOk (putCueBody words s).1 := by
  unfold putCueBody
  split
  · exact hs
  · split
    · exact hs
    · split
      · exact hs
      · split
        · exact hs
        · exact hs.placeCue _

theorem deleteCueBody_playheadOk {s : State} (hs : PlayheadOk s) (hready : s.store.state = .ready) (n : CueNum) :
    PlayheadOk (deleteCueBody n s).1 := by
  unfold deleteCueBody
  split
  · exact hs
  · split
    · exact hs
    · dsimp only [acceptCueEdit_fst]
      split
      · exact fun p hp => ⟨hready, nextGo_stored hp⟩
      · next hne =>
        intro p hp
        obtain ⟨-, hstored⟩ := hs p hp
        obtain ⟨d, hd, rfl⟩ := (cueOf_isSome_iff _ _).mp hstored
        have hd_ne : d.num ≠ n := fun e => hne (e ▸ hp)
        exact ⟨hready, (cueOf_isSome_iff _ _).mpr ⟨d, List.mem_filter.mpr ⟨hd, by simpa using hd_ne⟩, rfl⟩⟩

theorem storeRefusal_eq_none {s : State} (h : storeRefusal s = none) : s.store.state = .ready := by
  unfold storeRefusal at h
  split at h
  · cases h
  · cases h
  · assumption

theorem showRefusal_eq_none {s : State} (h : showRefusal s = none) : s.store.state = .ready := by
  unfold showRefusal at h
  split at h
  · cases h
  · next hr => exact storeRefusal_eq_none hr

theorem goRefusal_ready {l : Role} {e : Option CueNum} {s : State} (h : goRefusal l e s = none) :
    s.store.state = .ready ∧ hasRoom s = true := by
  unfold goRefusal at h
  split at h
  · cases h
  · split at h
    · cases h
    · next hshow =>
      refine ⟨showRefusal_eq_none hshow, ?_⟩
      repeat' (split at h <;> first | contradiction | skip)
      assumption

theorem goBody_playheadOk {s : State} (hs : PlayheadOk s) (l : Role) (e : Option CueNum) :
    PlayheadOk (goBody l e s).1 := by
  unfold goBody
  split
  · exact hs
  · next hnone =>
    obtain ⟨hready, hroom⟩ := goRefusal_ready hnone
    split
    · exact hs
    · next c hc =>
      have fired : Evolves [] s (fireCue (.go l) c (makeRoom s)) :=
        Evolves.fireCue _ _ _ (Evolves.refl [] s).makeRoom ((Evolves.refl [] s).makeRoom_lt hroom)
      intro p hp
      refine ⟨?_, nextGo_stored hp⟩
      show (fireCue (.go l) c (makeRoom s)).store.state = .ready
      rw [fired.records (by simp)]
      exact hready

theorem setPlayheadBody_playheadOk {s : State} (hs : PlayheadOk s) (n : CueNum) :
    PlayheadOk (setPlayheadBody n s).1 := by
  unfold setPlayheadBody
  split
  · exact hs
  · next hstore =>
    split
    · exact hs
    · next hfound =>
      split
      · exact hs
      · intro p hp
        refine ⟨storeRefusal_eq_none hstore, ?_⟩
        have hnamed : namedPlayhead n = some p := hp
        have hpn : n = p := by
          unfold namedPlayhead at hnamed
          split at hnamed
          · cases hnamed
          · exact Option.some.inj hnamed
        rw [hnamed, hpn, Option.isSome_some, Option.isNone_iff_eq_none, not_and] at hfound
        exact Option.isSome_iff_ne_none.mpr (hfound rfl)

/-! ### A load read (R15) -/

theorem readHeader_ok {ws : List Word} {h : Header} (hr : readHeader ws = .ok h) : h.ok := by
  unfold readHeader at hr
  dsimp only at hr
  split at hr
  · cases hr
  · split at hr
    · cases hr
    · split at hr
      · cases hr
      · split at hr
        · cases hr
        · next hcap =>
          split at hr
          · cases hr
          · cases hr
            simp only [not_or, not_lt] at hcap
            exact hcap

/-- A judged cue is placed within the counts of the header, and nothing else is touched. -/
theorem judgeCue_ok {h : Header} {regions : List Region} {ws : List Word} {s t : State}
    (hj : judgeCue h regions ws s = .ok t) :
    ∃ c, s.store.cues.length + 1 ≤ h.cueCount ∧ actionTotal s.store.cues + c.actions.length ≤ h.actionCount ∧
      t = { s with store := { s.store with cues := placeCue c s.store.cues } } := by
  unfold judgeCue at hj
  split at hj
  · cases hj
  · next c _ =>
    split at hj
    · cases hj
    · split at hj
      · cases hj
      · split at hj
        · cases hj
        · next hcount =>
          rw [not_or, not_lt, not_lt] at hcount
          exact ⟨c, hcount.1, hcount.2, (Except.ok.inj hj).symm⟩

/-- A judged scene is placed within the counts of the header, and nothing else is touched. -/
theorem judgeScene_ok {h : Header} {ws : List Word} {s t : State} (hj : judgeScene h ws s = .ok t) :
    ∃ sc, s.store.scenes.length + 1 ≤ h.sceneCount ∧ entryTotal s.store.scenes + sc.entries.length ≤ h.entryCount ∧
      t = { s with store := { s.store with scenes := placeScene sc s.store.scenes } } := by
  unfold judgeScene at hj
  split at hj
  · cases hj
  · next sc _ =>
    split at hj
    · cases hj
    · split at hj
      · cases hj
      · next hcount =>
        rw [not_or, not_lt, not_lt] at hcount
        exact ⟨sc, hcount.1, hcount.2, (Except.ok.inj hj).symm⟩

/-- A judged record is placed within the counts of the header, and nothing else is touched. -/
theorem judgeRecord_cases {phase : LoadPhase} {h : Header} {regions : List Region} {ws : List Word} {s t : State}
    (hj : judgeRecord phase h regions ws s = .ok t) :
    (∃ c, s.store.cues.length + 1 ≤ h.cueCount ∧ actionTotal s.store.cues + c.actions.length ≤ h.actionCount ∧
      t = { s with store := { s.store with cues := placeCue c s.store.cues } }) ∨
    (∃ sc, s.store.scenes.length + 1 ≤ h.sceneCount ∧ entryTotal s.store.scenes + sc.entries.length ≤ h.entryCount ∧
      t = { s with store := { s.store with scenes := placeScene sc s.store.scenes } }) := by
  cases phase with
  | scenes => exact .inr (judgeScene_ok hj)
  | _ => exact .inl (judgeCue_ok hj)

theorem judgeRecord_storeOk {phase : LoadPhase} {h : Header} {regions : List Region} {ws : List Word} {s t : State}
    (hh : h.ok) (hs : StoreOk s) (hj : judgeRecord phase h regions ws s = .ok t) : StoreOk t := by
  obtain ⟨hcues, hscenes, hload⟩ := (storeOk_iff s).mp hs
  obtain ⟨-, hsceneCap, hentryCap, hcueCap, hactionCap⟩ := hh
  rcases judgeRecord_cases hj with ⟨c, hcount, htotal, rfl⟩ | ⟨sc, hcount, htotal, rfl⟩
  · obtain ⟨hsorted, -, -⟩ := hcues
    have hperm := placeCue_perm (c := c) hsorted
    have hsub := List.filter_sublist (p := fun d : Cue => d.num != c.num) (l := s.store.cues)
    refine (storeOk_iff _).mpr ⟨⟨pairwise_placeCue hsorted, ?_, ?_⟩, hscenes, hload⟩
    · have := hsub.length_le
      have := hperm.length_eq
      rw [List.length_cons] at this
      dsimp only
      omega
    · have := actionTotal_sublist hsub
      have := actionTotal_perm hperm
      rw [actionTotal_cons] at this
      dsimp only
      omega
  · obtain ⟨hsorted, -, -⟩ := hscenes
    have hperm := placeScene_perm (sc := sc) hsorted
    have hsub := List.filter_sublist (p := fun d : Scene => d.id != sc.id) (l := s.store.scenes)
    refine (storeOk_iff _).mpr ⟨hcues, ⟨pairwise_placeScene hsorted, ?_, ?_⟩, hload⟩
    · have := hsub.length_le
      have := hperm.length_eq
      rw [List.length_cons] at this
      dsimp only
      omega
    · have := entryTotal_sublist hsub
      have := entryTotal_perm hperm
      rw [entryTotal_cons] at this
      dsimp only
      omega

/-- What every placing of a record keeps, the judging of the records of a block keeps. -/
theorem judgeRecords_induction {P : State → Prop} {phase : LoadPhase} {h : Header} {regions : List Region}
    (hstep : ∀ ws s t, P s → judgeRecord phase h regions ws s = .ok t → P t) {n left : Nat} {ws : List Word} {s : State}
    {r : State × List Word × Bool} (hs : P s) (hj : judgeRecords phase h regions n left ws s = .ok r) : P r.1 := by
  induction n generalizing left ws s with
  | zero =>
    cases hj
    exact hs
  | succ n ih =>
    cases ws with
    | nil =>
      cases hj
      exact hs
    | cons w ws =>
      simp only [judgeRecords] at hj
      split at hj
      · split at hj
        · cases hj
          exact hs
        · cases hj
      · split at hj
        · cases hj
          exact hs
        · split at hj
          · split at hj
            · cases hj
              exact hs
            · cases hj
          · next ht => exact ih (hstep _ _ _ hs ht) hj

/-- A condition on the state that every step of a load read keeps. -/
structure KeptByLoad (P : State → Prop) : Prop where
  port : ∀ s, P s → P { s with smi := { s.smi with port := .idle } }
  gone : ∀ s t, LoadGone s t → P s → P t
  place : ∀ s phase h regions ws t ld, P s → s.smi.load = some ld → ld.header = some h →
    judgeRecord phase h regions ws s = .ok t → P t
  write : ∀ s ld ld', P s → s.smi.load = some ld → ld'.link = ld.link →
    (∀ h, ld'.header = some h → ld.header = some h ∨ h.ok) → P (setLoad ld' s)
  succeed : ∀ s h regions, P s → P (succeedLoad h regions s)

namespace KeptByLoad

variable {P : State → Prop} (hP : KeptByLoad P) {s : State}
include hP

theorem fail (hs : P s) (why : LoadFailure) : P (failLoad why s) := by
  cases hld : s.smi.load with
  | none =>
    rcases failLoad_cases why s with ⟨-, e⟩ | ⟨ld, hsome, -⟩
    · rwa [e]
    · rw [hld] at hsome
      cases hsome
  | some ld => exact hP.gone s _ (failLoad_gone why hld) hs

theorem takeWords (hs : P s) (ws : List Word) : P (Machine.takeWords ws s) := by
  unfold Machine.takeWords
  split
  · exact hs
  · next ld hld => exact hP.write s ld _ hs hld rfl fun h hh => .inl hh

theorem takeRecords (hs : P s) : P (Machine.takeRecords s) := by
  unfold Machine.takeRecords
  split
  · exact hs
  · next ld hld =>
    split
    · exact hs
    · exact hs
    · exact hs
    · next h hheader _ _ =>
      split
      · exact hP.write s ld _ hs hld rfl fun h hh => .inl hh
      · split
        · exact hP.fail hs _
        · next r hj =>
          have judged : P r.1 ∧ r.1.smi.load = some ld := by
            refine judgeRecords_induction (P := fun u => P u ∧ u.smi.load = some ld) ?_ ⟨hs, hld⟩ hj
            intro ws u t ⟨hu, hul⟩ ht
            exact ⟨hP.place u _ h _ ws t ld hu hul hheader ht, by rw [judgeRecord_smi ht, hul]⟩
          exact hP.write r.1 ld _ judged.1 judged.2 rfl fun h hh => .inl hh

theorem endPhase (hs : P s) {ld : Load} (hld : s.smi.load = some ld) : P (Machine.endPhase ld s) := by
  unfold Machine.endPhase
  split
  · split
    · exact hP.fail hs _
    · next h hread =>
      exact hP.write s ld _ hs hld rfl fun g hg => .inr (Option.some.inj hg ▸ readHeader_ok hread)
  · next h _ hheader =>
    split
    · exact hP.fail hs _
    · exact hP.write s ld _ hs hld rfl fun g hg => .inl (hheader.trans hg)
  · next h _ hheader =>
    split
    · exact hP.fail hs _
    · exact hP.write s ld _ hs hld rfl fun g hg => .inl (hheader.trans hg)
  · split
    · exact hP.fail hs _
    · exact hP.succeed s _ _ hs
  · exact hs

theorem endPhases (hs : P s) (n : Nat) : P (Machine.endPhases n s) := by
  induction n generalizing s with
  | zero => exact hs
  | succ n ih =>
    unfold Machine.endPhases
    split
    · exact hs
    · next ld hld =>
      split
      · exact ih (hP.endPhase hs hld)
      · exact hs

theorem completeLoadRead (hs : P s) (ws : List Word) : P (Machine.completeLoadRead ws s) := by
  unfold Machine.completeLoadRead
  split
  · split
    · split
      · dsimp only
        split
        · exact hP.port s hs
        · exact hP.endPhases (hP.takeRecords (hP.takeWords (hP.port s hs) ws)) 4
      · exact hs
    · exact hs
  · exact hs

end KeptByLoad

/-- The success of a load, but for the zones that may join the show-stop call: what it leaves of the load, the store and
the playhead (R17). -/
theorem succeedLoad_leaves (h : Header) (regions : List Region) (s : State) :
    (succeedLoad h regions s).smi.load = none ∧
      (succeedLoad h regions s).store = { s.store with state := .ready } ∧
      (succeedLoad h regions s).seq.playhead = firstGo s ∧
      ∀ r, ((succeedLoad h regions s).link r).attached = (s.link r).attached := by
  have joined : ∀ u : State, (if u.showStop.state = .stopped then joinShowStopCall u else u).smi.load = u.smi.load ∧
      (if u.showStop.state = .stopped then joinShowStopCall u else u).store = u.store ∧
      (if u.showStop.state = .stopped then joinShowStopCall u else u).seq.playhead = u.seq.playhead ∧
      ∀ r, ((if u.showStop.state = .stopped then joinShowStopCall u else u).link r).attached =
        (u.link r).attached := by
    intro u
    split
    · have evolved := (Evolves.refl [] u).joinShowStopCall
      refine ⟨evolved.load (by simp), ?_, evolved.playhead (by simp), evolved.attached (by simp)⟩
      rw [evolved.records (by simp), evolved.holder (by simp)]
    · exact ⟨rfl, rfl, rfl, fun _ => rfl⟩
  unfold succeedLoad
  dsimp only
  obtain ⟨hload, hstore, hplay, hlinks⟩ := joined _
  refine ⟨hload, hstore, hplay, fun r => (hlinks r).trans ?_⟩
  rw [link_raise, Link.append_attached]
  rfl

theorem storeOk_keptByLoad : KeptByLoad StoreOk where
  port _ hs := hs
  gone _ _ hgone _ := hgone.storeOk
  place s phase h regions ws t ld hs hld hheader hj :=
    judgeRecord_storeOk (((storeOk_iff s).mp hs).2.2 ld h hld hheader) hs hj
  write s ld ld' hs hld _ hheader := by
    obtain ⟨hcues, hscenes, hload⟩ := (storeOk_iff s).mp hs
    refine (storeOk_iff _).mpr ⟨hcues, hscenes, fun k g hk hg => ?_⟩
    obtain rfl := Option.some.inj hk
    exact (hheader g hg).elim (hload ld g hld) id
  succeed s h regions hs := by
    obtain ⟨hcues, hscenes, -⟩ := (storeOk_iff s).mp hs
    obtain ⟨hload, hstore, -, -⟩ := succeedLoad_leaves h regions s
    exact (storeOk_iff _).mpr ⟨by rw [hstore]; exact hcues, by rw [hstore]; exact hscenes, .of_none hload⟩

theorem playheadOk_keptByLoad : KeptByLoad PlayheadOk where
  port _ hs := hs
  gone _ _ hgone _ := hgone.playheadOk
  place s phase h regions ws t ld hs _ _ hj := by
    rcases judgeRecord_cases hj with ⟨c, -, -, rfl⟩ | ⟨sc, -, -, rfl⟩
    · exact hs.placeCue c
    · exact hs
  write _ _ _ hs _ _ _ := hs
  succeed s h regions _ := by
    obtain ⟨-, hstore, hplay, -⟩ := succeedLoad_leaves h regions s
    intro n hn
    refine ⟨by rw [hstore], ?_⟩
    rw [cueOf, hstore]
    exact firstGo_stored (hplay ▸ hn)

/-! ### The edit hold (R27, R28) -/

/-- The edit hold is with an ATTACHED link, which is the loading link while a load is READING. -/
def HoldOk (s : State) : Prop :=
  (∀ r, s.store.holder = some r → (s.link r).attached = true) ∧
    ∀ ld, s.smi.load = some ld → s.store.holder = some ld.link

theorem linksOk_iff (s : State) : LinksOk s ↔ (∀ r, (s.link r).ok) ∧ HoldOk s := by
  constructor
  · rintro ⟨hc, hp, hm, hhold, hload⟩
    exact ⟨fun r => by cases r <;> assumption, hhold, hload⟩
  · rintro ⟨hok, hhold, hload⟩
    exact ⟨hok .console, hok .prompt, hok .monitor, hhold, hload⟩

theorem HoldOk.of_eq {s t : State} (hs : HoldOk s) (hatt : ∀ r, (s.link r).attached = true → (t.link r).attached = true)
    (hholder : t.store.holder = s.store.holder) (hload : t.smi.load = s.smi.load ∨ t.smi.load = none) : HoldOk t := by
  obtain ⟨hhold, hloads⟩ := hs
  refine ⟨fun r hr => hatt r (hhold r (hholder ▸ hr)), fun ld hld => ?_⟩
  rcases hload with h | h
  · exact hholder.trans (hloads ld (h ▸ hld))
  · rw [h] at hld
    cases hld

theorem LoadGone.holdOk {s t : State} (h : LoadGone s t) (hs : HoldOk s) : HoldOk t :=
  hs.of_eq (fun r hr => (h.links r).trans hr) h.holder (.inr h.load)

theorem holdOk_keptByLoad : KeptByLoad HoldOk where
  port _ hs := hs
  gone _ _ hgone hs := hgone.holdOk hs
  place s phase h regions ws t ld hs _ _ hj := by
    rcases judgeRecord_cases hj with ⟨c, -, -, rfl⟩ | ⟨sc, -, -, rfl⟩ <;> exact hs
  write s ld ld' hs hld hlink _ := by
    obtain ⟨hhold, hloads⟩ := hs
    refine ⟨hhold, fun k hk => ?_⟩
    obtain rfl := Option.some.inj hk
    rw [hlink]
    exact hloads ld hld
  succeed s h regions hs := by
    obtain ⟨hload, hstore, -, hlinks⟩ := succeedLoad_leaves h regions s
    exact hs.of_eq (fun r hr => (hlinks r).trans hr) (by rw [hstore]) (.inr hload)

end Sys2Proof.Machine
end

section
/-! SUPPORT. The invariants of the part, each kept by every command: what `Evolves` keeps by `exec_evolves`, and the
commands that write the store, the playhead, the edit hold or the load one by one. -/

namespace Sys2Proof.Machine

/-- A condition that everything keeps but the commands which write the edit hold, the load, the records or the
playhead. -/
def KeptByEvolving (P : State → Prop) : Prop :=
  ∀ W s t, Evolves W s t → .attached ∉ W → .holder ∉ W → .load ∉ W → .records ∉ W → .playhead ∉ W → P s → P t

theorem KeptByEvolving.nil {P : State → Prop} (hP : KeptByEvolving P) {s t : State} (h : Evolves [] s t) (hs : P s) :
    P t := hP [] s t h (by simp) (by simp) (by simp) (by simp) (by simp) hs

theorem Evolves.store_eq {W : List Aspect} {s t : State} (h : Evolves W s t) (hh : .holder ∉ W) (hr : .records ∉ W) :
    t.store = s.store := by
  rw [h.records hr, h.holder hh]

theorem storeOk_keptByEvolving : KeptByEvolving StoreOk := fun _ _ _ h _ _ hl hr _ hs =>
  hs.of_eq (h.records hr) (h.load hl)

theorem playheadOk_keptByEvolving : KeptByEvolving PlayheadOk := fun _ _ _ h _ _ _ hr hp hs =>
  hs.of_eq (h.records hr) (h.playhead hp)

theorem holdOk_keptByEvolving : KeptByEvolving HoldOk := fun _ _ _ h ha hh hl _ _ hs =>
  hs.of_eq (fun r hr => (h.attached ha r).trans hr) (h.holder hh) (.inl (h.load hl))

/-- A request writes its link record and what its body writes. -/
theorem serve_induction {P : State → Prop} {l : Role} {c tag : Byte} {body : State → State × Reply} {s : State}
    (hs : P s) (hlink : ∀ u k, P u → P (u.setLink l k)) (hbody : ∀ u, P u → P (body u).1) :
    P (serve l c tag body s) := by
  have reloaded : P (reloadPresence l s) := by
    unfold reloadPresence
    split
    · exact hlink _ _ hs
    · exact hs
  unfold serve
  split
  · exact hs
  · split
    · exact hlink _ _ hs
    · split
      · exact hlink _ _ reloaded
      · exact hlink _ _ (hbody _ reloaded)

/-- What a request's body keeps, the request keeps; the body runs on an ATTACHED link but for ATTACH and READ STATUS. -/
theorem serve_keeps {P : State → Prop} (hP : KeptByEvolving P) {l : Role} {c : Byte} {body : State → State × Reply}
    {s : State} (hs : P s)
    (hbody : ∀ u, ((u.link l).attached = true ∨ c = 0x01#8 ∨ c = 0x06#8) → P u → P (body u).1) (tag : Byte) :
    P (serve l c tag body s) := by
  have reloaded := hP.nil ((Evolves.refl [] s).reloadPresence (l := l)) hs
  unfold serve
  split
  · exact hs
  · split
    · exact hP.nil (Evolves.refl [] s).respond hs
    · next hatt =>
      split
      · exact hP.nil (Evolves.refl [] _).respond reloaded
      · refine hP.nil (Evolves.refl [] _).respond (hbody _ ?_ reloaded)
        rw [(Evolves.refl [] s).reloadPresence.attached (by simp) l]
        by_contra hnot
        simp only [not_or, Bool.not_eq_true] at hnot
        exact hatt hnot

theorem occur_keeps {P : State → Prop} {f : State → State} {s : State} (hs : P s) (hf : P s → P (f s)) :
    P (occur f s) := by
  unfold occur
  split
  · exact hs
  · exact hf hs

theorem edit_keeps {P : State → Prop} {l : Role} {body : State → State × Reply} {s : State} (hs : P s)
    (hbody : s.store.state = .ready → P (body s).1) : P (edit l body s).1 := by
  unfold edit
  split
  · exact hs
  · next hgate =>
    refine hbody ?_
    unfold editRefusal at hgate
    split at hgate
    · cases hgate
    · split at hgate
      · cases hgate
      · cases hgate
      · assumption

theorem framed_keeps {P : State → Prop} (hP : KeptByEvolving P) {l : Role} {c tag : Byte} {words : List Word}
    {take : State → State} {s : State} (hs : P s) (htake : P (take s)) : P (framed l c tag words take s) := by
  unfold framed
  split
  · exact htake
  · exact occur_keeps hs fun hs => hP.nil (Evolves.refl [] s).respond hs

/-! ### The effects of R14, R16 and R173 -/

theorem acceptLoad_leaves (l : Role) (s : State) :
    (acceptLoad l s).smi.load = some (newLoad l) ∧
      (acceptLoad l s).store = { s.store with state := .loading, cues := [], scenes := [] } ∧
      (acceptLoad l s).seq.playhead = none ∧ (acceptLoad l s).links = s.links := by
  unfold acceptLoad endTalk
  split <;> exact ⟨rfl, rfl, rfl, rfl⟩

/-- A condition that an abort of the load and the release of the edit hold keep. -/
theorem abortLoad_keeps {P : State → Prop} (hgone : ∀ s t, LoadGone s t → P s → P t)
    (hidle : ∀ s t, t.smi.load = s.smi.load → t.store = s.store → t.seq = s.seq → t.links = s.links → P s → P t)
    {s : State} (hs : P s) : P (abortLoad s) := by
  cases hld : s.smi.load with
  | none =>
    obtain ⟨hload, hstore, hseq, hlinks⟩ := abortLoad_idle hld
    exact hidle s _ (hload.trans hld.symm) hstore hseq hlinks hs
  | some ld => exact hgone s _ (abortLoad_gone hld) hs

theorem abortLoad_storeOk {s : State} (hs : StoreOk s) : StoreOk (abortLoad s) :=
  abortLoad_keeps (fun _ _ h _ => h.storeOk) (fun s t hl hst _ _ hs => hs.of_eq (by rw [hst]) hl) hs

theorem abortLoad_playheadOk {s : State} (hs : PlayheadOk s) : PlayheadOk (abortLoad s) :=
  abortLoad_keeps (fun _ _ h _ => h.playheadOk) (fun s t _ hst hq _ hs => hs.of_eq (by rw [hst]) (by rw [hq])) hs

theorem abortLoad_holdOk {s : State} (hs : HoldOk s) : HoldOk (abortLoad s) :=
  abortLoad_keeps (fun _ _ h hs => h.holdOk hs)
    (fun s t hl hst _ hk hs => hs.of_eq (fun r hr => by rw [State.link, hk]; exact hr) (by rw [hst]) (.inl hl)) hs

/-- Steps 1 to 3 of R173: the link's own record, its load and the edit hold. -/
def detachStore (l : Role) (s : State) : State :=
  let t := s.setLink l (s.link l).detach
  let t := if loadsOn l t then abortLoad t else t
  if t.store.holder = some l then changeHolder none t else t

/-- Steps 4 and 5 of R173 touch neither the links' attachment nor the store. -/
theorem detachEffects_evolves (l : Role) (s : State) : Evolves [] (detachStore l s) (detachEffects l s) := by
  cases l with
  | console => exact .refl _ _
  | prompt => exact (Evolves.refl [] _).endCalls
  | monitor => exact (Evolves.refl [] _).endTalk

theorem detachStore_keeps {P : State → Prop} (hlink : ∀ l k s, P s → P (s.setLink l k))
    (habort : ∀ s, P s → P (abortLoad s)) (hhold : ∀ h s, P s → P (changeHolder h s)) {s : State} (hs : P s) (l : Role) :
    P (detachStore l s) := by
  have aborted : ∀ t, P t → P (if loadsOn l t then abortLoad t else t) := by
    intro t ht
    split
    · exact habort t ht
    · exact ht
  have released : ∀ t, P t → P (if t.store.holder = some l then changeHolder none t else t) := by
    intro t ht
    split
    · exact hhold _ t ht
    · exact ht
  exact released _ (aborted _ (hlink l _ s hs))

theorem detachEffects_storeOk {s : State} (hs : StoreOk s) (l : Role) : StoreOk (detachEffects l s) :=
  storeOk_keptByEvolving.nil (detachEffects_evolves l s)
    (detachStore_keeps (P := StoreOk) (fun _ _ _ h => h) (fun _ => abortLoad_storeOk) (fun _ _ h => h) hs l)

theorem detachEffects_playheadOk {s : State} (hs : PlayheadOk s) (l : Role) : PlayheadOk (detachEffects l s) :=
  playheadOk_keptByEvolving.nil (detachEffects_evolves l s)
    (detachStore_keeps (P := PlayheadOk) (fun _ _ _ h => h) (fun _ => abortLoad_playheadOk) (fun _ _ h => h) hs l)

theorem changeHolder_holdOk {s : State} {h : Option Role} (hatt : ∀ r, h = some r → (s.link r).attached = true)
    (hidle : s.smi.load = none) : HoldOk (changeHolder h s) := by
  refine ⟨fun r hr => ?_, fun ld hld => ?_⟩
  · show ((raise _ _).link r).attached = true
    rw [link_raise, Link.append_attached]
    exact hatt r hr
  · have : s.smi.load = some ld := hld
    rw [hidle] at this
    cases this

/-- A detaching link loses its load, then the edit hold; another link's load and hold stay with that link (R173). -/
theorem detachEffects_holdOk {s : State} (hs : HoldOk s) (l : Role) : HoldOk (detachEffects l s) := by
  refine holdOk_keptByEvolving.nil (detachEffects_evolves l s) ?_
  obtain ⟨hhold, hloads⟩ := hs
  -- the states after steps 1 and 2
  have attached : ∀ r, r ≠ l → (s.link r).attached = true → ((s.setLink l (s.link l).detach).link r).attached = true :=
    fun r hr hatt => by rwa [State.link_setLink_ne s l r _ hr]
  obtain ⟨u, hu, hatt, hholder, hload⟩ : ∃ u,
      u = (if loadsOn l (s.setLink l (s.link l).detach) then abortLoad (s.setLink l (s.link l).detach)
        else s.setLink l (s.link l).detach) ∧
      (∀ r, r ≠ l → (s.link r).attached = true → (u.link r).attached = true) ∧ u.store.holder = s.store.holder ∧
      ∀ ld, u.smi.load = some ld → s.smi.load = some ld ∧ ld.link ≠ l := by
    refine ⟨_, rfl, ?_⟩
    split
    · next hon =>
      obtain ⟨ld, hld⟩ : ∃ ld, s.smi.load = some ld := by
        cases hld : s.smi.load with
        | none => simp [loadsOn, hld] at hon
        | some ld => exact ⟨ld, rfl⟩
      have gone := abortLoad_gone (s := s.setLink l (s.link l).detach) hld
      refine ⟨fun r hr h => (gone.links r).trans (attached r hr h), gone.holder, fun k hk => ?_⟩
      rw [gone.load] at hk
      cases hk
    · next hoff =>
      refine ⟨attached, rfl, fun ld hld => ⟨hld, fun heq => hoff ?_⟩⟩
      have hsl : s.smi.load = some ld := hld
      simp [loadsOn, hsl, heq]
  unfold detachStore
  dsimp only
  rw [← hu]
  split
  · next hself =>
    refine changeHolder_holdOk (fun r hr => by cases hr) (Option.eq_none_iff_forall_ne_some.mpr fun ld hld => ?_)
    obtain ⟨hsl, hne⟩ := hload ld hld
    have hlink := (hloads ld hsl).symm.trans (hholder.symm.trans hself)
    exact absurd (Option.some.inj hlink) hne
  · next hother =>
    refine ⟨fun r hr => hatt r (fun e => hother (e ▸ hr)) (hhold r (hholder ▸ hr)), fun ld hld => ?_⟩
    rw [hholder]
    exact hloads ld (hload ld hld).1

/-! ### Every command -/

theorem exec_storeOk {c : Instr} {s t : State} (hreset : ∀ line m, c ≠ .resetReleased line m) (h : exec c s = .next t)
    (hs : StoreOk s) : StoreOk t := by
  have kept := storeOk_keptByEvolving
  have evolved := exec_evolves hreset h
  cases c
  case resetReleased line m => exact absurd rfl (hreset line m)
  case putCue =>
    obtain rfl := Host.Outcome.next.inj h
    exact framed_keeps kept hs (serve_keeps kept hs
      (fun u _ hu => edit_keeps hu fun _ => putCueBody_storeOk hu _) _)
  case putScene =>
    obtain rfl := Host.Outcome.next.inj h
    exact framed_keeps kept hs (serve_keeps kept hs
      (fun u _ hu => edit_keeps hu fun _ => putSceneBody_storeOk hu _) _)
  case deleteCue =>
    obtain rfl := Host.Outcome.next.inj h
    exact serve_keeps kept hs (fun u _ hu => edit_keeps hu fun _ => deleteCueBody_storeOk hu _) _
  case deleteScene =>
    obtain rfl := Host.Outcome.next.inj h
    exact serve_keeps kept hs (fun u _ hu => edit_keeps hu fun _ => deleteSceneBody_storeOk hu _) _
  case loadShow l tag =>
    obtain rfl := Host.Outcome.next.inj h
    refine serve_keeps kept hs (fun u _ hu => ?_) _
    split
    · exact hu
    · obtain ⟨hload, hstore, -, -⟩ := acceptLoad_leaves l u
      refine (storeOk_iff _).mpr ⟨?_, ?_, fun ld hd hld hheader => ?_⟩
      · exact hstore ▸ CuesOk.nil
      · exact hstore ▸ ScenesOk.nil
      · have hnew : newLoad l = ld := Option.some.inj (hload.symm.trans hld)
        rw [← hnew] at hheader
        cases hheader
  case loadAbort =>
    obtain rfl := Host.Outcome.next.inj h
    refine serve_keeps kept hs (fun u _ hu => ?_) _
    split
    · exact hu
    · split
      · exact abortLoad_storeOk hu
      · exact hu
  case loadReadComplete =>
    obtain rfl := Host.Outcome.next.inj h
    exact occur_keeps hs fun hs => storeOk_keptByLoad.completeLoadRead hs _
  case detach =>
    obtain rfl := Host.Outcome.next.inj h
    exact serve_keeps kept hs (fun u _ hu => detachEffects_storeOk hu _) _
  case presenceExpiry =>
    obtain rfl := Host.Outcome.next.inj h
    refine occur_keeps hs fun hs => ?_
    unfold expirePresence
    split
    · exact detachEffects_storeOk hs _
    · exact hs
  all_goals exact hs.of_eq (evolved.records (by simp [Instr.writes])) (evolved.load (by simp [Instr.writes]))

theorem exec_playheadOk {c : Instr} {s t : State} (hreset : ∀ line m, c ≠ .resetReleased line m)
    (h : exec c s = .next t) (hs : PlayheadOk s) : PlayheadOk t := by
  have kept := playheadOk_keptByEvolving
  have evolved := exec_evolves hreset h
  cases c
  case resetReleased line m => exact absurd rfl (hreset line m)
  case go =>
    obtain rfl := Host.Outcome.next.inj h
    exact serve_keeps kept hs (fun u _ hu => goBody_playheadOk hu _ _) _
  case setPlayhead =>
    obtain rfl := Host.Outcome.next.inj h
    exact serve_keeps kept hs (fun u _ hu => setPlayheadBody_playheadOk hu _) _
  case putCue =>
    obtain rfl := Host.Outcome.next.inj h
    exact framed_keeps kept hs (serve_keeps kept hs
      (fun u _ hu => edit_keeps hu fun _ => putCueBody_playheadOk hu _) _)
  case putScene =>
    obtain rfl := Host.Outcome.next.inj h
    refine framed_keeps kept hs (serve_keeps kept hs (fun u _ hu => edit_keeps hu fun _ => ?_) _)
    unfold putSceneBody
    split
    · exact hu
    · split <;> exact hu
  case deleteCue =>
    obtain rfl := Host.Outcome.next.inj h
    exact serve_keeps kept hs (fun u _ hu => edit_keeps hu fun hr => deleteCueBody_playheadOk hu hr _) _
  case deleteScene =>
    obtain rfl := Host.Outcome.next.inj h
    refine serve_keeps kept hs (fun u _ hu => edit_keeps hu fun _ => ?_) _
    unfold deleteSceneBody
    split <;> exact hu
  case loadShow l tag =>
    obtain rfl := Host.Outcome.next.inj h
    refine serve_keeps kept hs (fun u _ hu => ?_) _
    split
    · exact hu
    · obtain ⟨-, -, hplay, -⟩ := acceptLoad_leaves l u
      intro n hn
      rw [show (acceptWith [] (acceptLoad l u)).1.seq.playhead = none from hplay] at hn
      cases hn
  case loadAbort =>
    obtain rfl := Host.Outcome.next.inj h
    refine serve_keeps kept hs (fun u _ hu => ?_) _
    split
    · exact hu
    · split
      · exact abortLoad_playheadOk hu
      · exact hu
  case loadReadComplete =>
    obtain rfl := Host.Outcome.next.inj h
    exact occur_keeps hs fun hs => playheadOk_keptByLoad.completeLoadRead hs _
  case detach =>
    obtain rfl := Host.Outcome.next.inj h
    exact serve_keeps kept hs (fun u _ hu => detachEffects_playheadOk hu _) _
  case presenceExpiry =>
    obtain rfl := Host.Outcome.next.inj h
    refine occur_keeps hs fun hs => ?_
    unfold expirePresence
    split
    · exact detachEffects_playheadOk hs _
    · exact hs
  all_goals exact hs.of_eq (evolved.records (by simp [Instr.writes])) (evolved.playhead (by simp [Instr.writes]))

theorem exec_holdOk {c : Instr} {s t : State} (hreset : ∀ line m, c ≠ .resetReleased line m) (h : exec c s = .next t)
    (hs : HoldOk s) : HoldOk t := by
  have kept := holdOk_keptByEvolving
  have evolved := exec_evolves hreset h
  cases c
  case resetReleased line m => exact absurd rfl (hreset line m)
  case attach l tag rev =>
    obtain rfl := Host.Outcome.next.inj h
    refine serve_keeps kept hs (fun u _ hu => ?_) _
    unfold attachBody
    split
    · exact hu
    · split
      · exact hu
      · refine hu.of_eq (fun r hr => ?_) rfl (.inl rfl)
        by_cases hrl : r = l
        · rw [hrl]
          simp [acceptWith, Link.attach]
        · simpa [acceptWith, State.link_setLink_ne _ _ _ _ hrl] using hr
  case editHold l tag =>
    obtain rfl := Host.Outcome.next.inj h
    refine serve_keeps kept hs (fun u hatt hu => ?_) _
    have hatt := hatt.resolve_right (by decide)
    split
    · next hfree =>
      refine changeHolder_holdOk (fun r hr => Option.some.inj hr ▸ hatt) ?_
      cases hld : u.smi.load with
      | none => rfl
      | some ld => exact absurd (hu.2 ld hld) (by simp [hfree])
    · split
      · exact hu
      · exact hu
  case editRelease l tag =>
    obtain rfl := Host.Outcome.next.inj h
    refine serve_keeps kept hs (fun u _ hu => ?_) _
    split
    · exact hu
    · split
      · exact hu
      · next hidle =>
        refine changeHolder_holdOk (fun r hr => by cases hr) ?_
        simpa [loading] using hidle
  case loadShow l tag =>
    obtain rfl := Host.Outcome.next.inj h
    refine serve_keeps kept hs (fun u _ hu => ?_) _
    split
    · exact hu
    · next haccept =>
      obtain ⟨hload, hstore, -, hlinks⟩ := acceptLoad_leaves l u
      have hself : u.store.holder = some l := by
        by_contra hne
        simp [loadRefusal, hne] at haccept
      have hholder : (acceptLoad l u).store.holder = some l := by rw [hstore]; exact hself
      refine ⟨fun r hr => ?_, fun ld hld => ?_⟩
      · obtain rfl := Option.some.inj (hholder.symm.trans hr)
        show ((acceptLoad l u).links.get l).attached = true
        rw [hlinks]
        exact hu.1 l hself
      · obtain rfl := Option.some.inj (hload.symm.trans hld)
        exact hholder
  case loadAbort =>
    obtain rfl := Host.Outcome.next.inj h
    refine serve_keeps kept hs (fun u _ hu => ?_) _
    split
    · exact hu
    · split
      · exact abortLoad_holdOk hu
      · exact hu
  case loadReadComplete =>
    obtain rfl := Host.Outcome.next.inj h
    exact occur_keeps hs fun hs => holdOk_keptByLoad.completeLoadRead hs _
  case detach =>
    obtain rfl := Host.Outcome.next.inj h
    exact serve_keeps kept hs (fun u _ hu => detachEffects_holdOk hu _) _
  case presenceExpiry =>
    obtain rfl := Host.Outcome.next.inj h
    refine occur_keeps hs fun hs => ?_
    unfold expirePresence
    split
    · exact holdOk_keptByEvolving.nil (Evolves.refl [] _).raise (detachEffects_holdOk hs _)
    · exact hs
  all_goals
    exact hs.of_eq (fun r hr => (evolved.attached (by simp [Instr.writes]) r).trans hr)
      (evolved.holder (by simp [Instr.writes])) (.inl (evolved.load (by simp [Instr.writes])))

/-! ### Device reset -/

/-- The state right after reset, with any commands waiting. -/
theorem reset_linkOk (q : List Instr) (r : Role) : ({ State.reset with pending := q }.link r).ok := by
  have fresh : ∀ k, k = Link.reset → k.ok := by
    rintro k rfl
    exact ⟨by decide, by decide, Nat.zero_le _, fun _ => ⟨rfl, rfl⟩⟩
  cases r <;> exact fresh _ rfl

theorem reset_fadesOk (q : List Instr) : FadesOk { State.reset with pending := q } :=
  ⟨Nat.zero_le _, List.nodup_nil, fun _ he => absurd he List.not_mem_nil⟩

theorem reset_fifosOk (q : List Instr) : FifosOk { State.reset with pending := q } := by
  intro v
  simp [State.voice, State.reset, Voice.freeRecord]

theorem reset_tableOk (q : List Instr) : TableOk { State.reset with pending := q } :=
  ⟨Nat.zero_le _, List.nodup_nil, fun _ hi => absurd hi List.not_mem_nil, Nat.le_refl 1, show 1 ≤ 255 by decide⟩

theorem reset_playheadOk (q : List Instr) : PlayheadOk { State.reset with pending := q } :=
  fun _ hn => by cases hn

theorem reset_storeOk (q : List Instr) : StoreOk { State.reset with pending := q } :=
  (storeOk_iff _).mpr ⟨.nil, .nil, .of_none rfl⟩

theorem reset_holdOk (q : List Instr) : HoldOk { State.reset with pending := q } :=
  And.intro (fun _ hr => nomatch hr) (fun _ hld => nomatch hld)

/-- A condition of the reset state that a running part keeps holds after device reset; one that every other command
keeps is kept by every step, whose only other effect is on the queue. -/
theorem step_keeps {P : State → Prop} (hreset : ∀ q t, Evolves [] { State.reset with pending := q } t → P t)
    (hexec : ∀ c s t, (∀ line m, c ≠ .resetReleased line m) → exec c s = .next t → P s → P t)
    (hqueue : ∀ s q, P s → P { s with pending := q }) {s t : State} (hs : P s) (h : step s = .next t) : P t := by
  unfold step at h
  split at h
  · obtain rfl := Host.Outcome.next.inj h
    exact hs
  · next c rest _ =>
    by_cases hc : ∃ line m, c = .resetReleased line m
    · obtain ⟨line, m, rfl⟩ := hc
      obtain rfl := Host.Outcome.next.inj h
      exact hreset _ _ (releaseReset_evolves line m _)
    · exact hexec c _ t (fun line m e => hc ⟨line, m, e⟩) h (hqueue s rest hs)

/-! ### The only writers of a setting -/

theorem mem_writes_stamp {c : Instr} (h : .stamp ∈ Instr.writes c) :
    ∃ l tag e, c = .go l tag e := by
  unfold Instr.writes at h
  split at h <;> simp_all

theorem mem_writes_offsets {c : Instr} (h : .offsets ∈ Instr.writes c) :
    (∃ l tag i o x, c = .setOffset l tag i o x) ∨ ∃ ws, c = .loadReadComplete ws := by
  unfold Instr.writes at h
  split at h <;> simp_all

theorem mem_writes_ceilings {c : Instr} (h : .ceilings ∈ Instr.writes c) :
    (∃ l tag o x, c = .setCeiling l tag o x) ∨ ∃ ws, c = .loadReadComplete ws := by
  unfold Instr.writes at h
  split at h <;> simp_all

theorem mem_writes_leveler {c : Instr} (h : .leveler ∈ Instr.writes c) :
    ∃ l tag p, c = .setLeveler l tag p := by
  unfold Instr.writes at h
  split at h <;> simp_all

theorem mem_writes_stopTimes {c : Instr} (h : .stopTimes ∈ Instr.writes c) :
    ∃ l tag a b, c = .setStopTimes l tag a b := by
  unfold Instr.writes at h
  split at h <;> simp_all

theorem mem_writes_presence {c : Instr} {r : Role} (h : .presence r ∈ Instr.writes c) :
    ∃ tag p, c = .setPresence r tag p := by
  unfold Instr.writes at h
  split at h <;> simp_all

/-! ### The leveler gains (R143) -/

theorem clampInt_bounds {lo hi : Int} (h : lo ≤ hi) (x : Int) : lo ≤ clampInt lo hi x ∧ clampInt lo hi x ≤ hi := by
  unfold clampInt
  split
  · omega
  · split <;> omega

/-- The end of a window leaves a held zone its gain, and any gain within its range (R143). -/
theorem judged_leveler (v : Leveler) (held : Bool) (zn : Zone) :
    (held = true → (zn.judged v held).leveler = zn.leveler) ∧
      (-200 ≤ zn.leveler ∧ zn.leveler ≤ 100 →
        -200 ≤ (zn.judged v held).leveler ∧ (zn.judged v held).leveler ≤ 100) := by
  unfold Zone.judged
  split
  · exact ⟨fun _ => rfl, id⟩
  · next hfree => exact ⟨fun h => absurd h hfree, fun _ => clampInt_bounds (by decide) _⟩

theorem zone_of_map_leveler {s t : State} (h : t.relay.zones.map (·.leveler) = s.relay.zones.map (·.leveler))
    {z : ZoneNo} {zn zn' : Zone} (hs : s.zone? z = some zn) (ht : t.zone? z = some zn') : zn'.leveler = zn.leveler := by
  have := congrArg (·[z.val]?) h
  simp only [List.getElem?_map] at this
  rw [show t.relay.zones[z.val]? = some zn' from ht, show s.relay.zones[z.val]? = some zn from hs] at this
  exact Option.some.inj this

/-- No command but a load and device reset writes the gain of a held zone, or takes one out of its range. -/
theorem exec_zone_leveler {c : Instr} {s t : State} (hreset : ∀ line m, c ≠ .resetReleased line m)
    (h : exec c s = .next t) (hload : ∀ ws, c ≠ .loadReadComplete ws) {z : ZoneNo} {zn zn' : Zone}
    (hs : s.zone? z = some zn) (ht : t.zone? z = some zn') :
    (zoneHeld s zn = true → zn'.leveler = zn.leveler) ∧
      (-200 ≤ zn.leveler ∧ zn.leveler ≤ 100 → -200 ≤ zn'.leveler ∧ zn'.leveler ≤ 100) := by
  have kept : t.relay.zones.map (·.leveler) = s.relay.zones.map (·.leveler) →
      (zoneHeld s zn = true → zn'.leveler = zn.leveler) ∧
        (-200 ≤ zn.leveler ∧ zn.leveler ≤ 100 → -200 ≤ zn'.leveler ∧ zn'.leveler ≤ 100) := fun hmap => by
    rw [zone_of_map_leveler hmap hs ht]
    exact ⟨fun _ => rfl, id⟩
  have evolved := exec_evolves hreset h
  cases c
  case resetReleased line m => exact absurd rfl (hreset line m)
  case loadReadComplete ws => exact absurd rfl (hload ws)
  case resetAsserted =>
    obtain rfl := Host.Outcome.next.inj h
    simp [State.zone?, assertReset] at ht
  case loadShow l tag =>
    obtain rfl := Host.Outcome.next.inj h
    have cleared : ∀ u : State, (acceptLoad l u).relay.zones = [] := by
      intro u
      unfold acceptLoad endTalk
      split <;> rfl
    have written := serve_induction (P := fun u => u.relay = s.relay ∨ u.relay.zones = []) (l := l) (c := 0x18#8)
      (tag := tag) (.inl rfl) (fun _ _ hu => hu) (body := fun u => match loadRefusal l u with
        | some r => refuse r u
        | none => acceptWith [] (acceptLoad l u)) (fun u hu => by
        split
        · exact hu
        · exact .inr (cleared u))
    rcases written with e | e
    · exact kept (congrArg (fun r : Relay => r.zones.map (·.leveler)) e)
    · exact nomatch ht.symm.trans (congrArg (·[z.val]?) e)
  case windowEnd =>
    obtain rfl := Host.Outcome.next.inj h
    unfold occur endWindow at ht
    split at ht
    · obtain rfl := Option.some.inj (hs.symm.trans ht)
      exact ⟨fun _ => rfl, id⟩
    · split at ht
      · have hmap : (s.relay.zones.map fun zn => zn.judged s.relay.leveler (zoneHeld s zn))[z.val]? = some zn' := ht
        rw [List.getElem?_map, show s.relay.zones[z.val]? = some zn from hs] at hmap
        obtain rfl := Option.some.inj hmap
        exact judged_leveler _ _ zn
      · obtain rfl := Option.some.inj (hs.symm.trans ht)
        exact ⟨fun _ => rfl, id⟩
  all_goals exact kept (evolved.zones (by simp [Instr.writes]))

end Sys2Proof.Machine
end

section
/-! The invariants of the part, and who writes the settings. -/

namespace Sys2Proof.Proofs

open Sys2Proof.Machine

/-- Settles O1: by the definition of a step. -/
theorem stepTakesFront : Obligations.StepTakesFront := by
  unfold Obligations.StepTakesFront
  intro c s
  refine ⟨rfl, fun hempty => ?_⟩
  rw [step, hempty]

/-- Settles O2: every arm of `exec` answers a next state, and none of them writes the queue. -/
theorem everyCommandAnswersNext : Obligations.EveryCommandAnswersNext := by
  unfold Obligations.EveryCommandAnswersNext
  intro c s
  obtain ⟨t, ht⟩ : ∃ t, exec c s = .next t := by cases c <;> exact ⟨_, rfl⟩
  refine ⟨t, ht, ?_⟩
  by_cases hc : ∃ line m, c = .resetReleased line m
  · obtain ⟨line, m, rfl⟩ := hc
    obtain rfl := Host.Outcome.next.inj ht
    exact (releaseReset_evolves line m s).pending
  · exact (exec_evolves (fun line m e => hc ⟨line, m, e⟩) ht).pending

/-- Settles O3: each invariant of the reset state, whose queue is empty. -/
theorem resetMeetsInvariants : Obligations.ResetMeetsInvariants := by
  unfold Obligations.ResetMeetsInvariants
  exact ⟨(linksOk_iff _).mpr ⟨reset_linkOk [], reset_holdOk []⟩, reset_fadesOk [], reset_fifosOk [],
    reset_playheadOk [], reset_tableOk [], reset_storeOk []⟩

/-- Settles O4: the ranges of the link records are kept by everything, the edit hold by the commands that write it. -/
theorem stepKeepsLinks : Obligations.StepKeepsLinks := by
  unfold Obligations.StepKeepsLinks
  intro s t hs h
  obtain ⟨hok, hhold⟩ := (linksOk_iff s).mp hs
  refine (linksOk_iff t).mpr ⟨?_, ?_⟩
  · exact step_keeps (P := fun u => ∀ r, (u.link r).ok) (fun q t e => e.linkOk (reset_linkOk q))
      (fun c s t hc he => (exec_evolves hc he).linkOk) (fun _ _ hs => hs) hok h
  · exact step_keeps (fun q t e => holdOk_keptByEvolving.nil e (reset_holdOk q)) (fun c s t => exec_holdOk)
      (fun _ _ hs => hs) hhold h

/-- Settles O5: every operation on the fade list keeps its bounds. -/
theorem stepKeepsFades : Obligations.StepKeepsFades := by
  unfold Obligations.StepKeepsFades
  intro s t hs h
  exact step_keeps (fun q t e => e.fadesOk (reset_fadesOk q)) (fun c s t hc he => (exec_evolves hc he).fadesOk)
    (fun _ _ hs => hs) hs h

/-- Settles O6: every write of a voice record keeps its FIFO within the bound. -/
theorem stepKeepsFifos : Obligations.StepKeepsFifos := by
  unfold Obligations.StepKeepsFifos
  intro s t hs h
  exact step_keeps (fun q t e => e.fifosOk (reset_fifosOk q)) (fun c s t hc he => (exec_evolves hc he).fifosOk)
    (fun _ _ hs => hs) hs h

/-- Settles O7: the commands that write the playhead or the records keep it on a stored cue, the others leave both. -/
theorem stepKeepsPlayhead : Obligations.StepKeepsPlayhead := by
  unfold Obligations.StepKeepsPlayhead
  intro s t hs h
  exact step_keeps (fun q t e => playheadOk_keptByEvolving.nil e (reset_playheadOk q)) (fun c s t => exec_playheadOk)
    (fun _ _ hs => hs) hs h

/-- Settles O8: a fire finds room and takes a fresh id, and everything else keeps or removes instances. -/
theorem stepKeepsTable : Obligations.StepKeepsTable := by
  unfold Obligations.StepKeepsTable
  intro s t hs h
  exact step_keeps (fun q t e => e.tableOk (reset_tableOk q)) (fun c s t hc he => (exec_evolves hc he).tableOk)
    (fun _ _ hs => hs) hs h

/-- Settles O9: the edits and the loads place and remove records in order and within the capacities. -/
theorem stepKeepsStore : Obligations.StepKeepsStore := by
  unfold Obligations.StepKeepsStore
  intro s t hs h
  exact step_keeps (fun q t e => storeOk_keptByEvolving.nil e (reset_storeOk q)) (fun c s t => exec_storeOk)
    (fun _ _ hs => hs) hs h

/-- Settles O10: each setting is an aspect that only its writers have in their lists; tACC is settled with O33. -/
theorem settingsHaveTheirWriters : Obligations.SettingsHaveTheirWriters := by
  unfold Obligations.SettingsHaveTheirWriters
  intro c s t h hreset
  have evolved := exec_evolves hreset h
  have written : ∀ {a : Aspect} {p : Prop}, (a ∉ Instr.writes c → p) → ¬ p → a ∈ Instr.writes c := fun hp hn =>
    by_contra fun ha => hn (hp ha)
  refine ⟨fun hne => ?_, fun hne => ?_, fun hne => ?_, fun hne => ?_, fun hne => ?_, fun hne => ?_, fun r hne => ?_,
    fun z zn zn' hload hs ht => exec_zone_leveler hreset h hload hs ht⟩
  · exact mem_writes_stamp (written evolved.stamp hne)
  · exact mem_writes_offsets (written evolved.offsets hne)
  · exact mem_writes_ceilings (written evolved.ceilings hne)
  · by_contra hset
    exact hne (exec_delaysKept (fun l tag n e => hset ⟨l, tag, n, e⟩) hreset h).1
  · exact mem_writes_leveler (written evolved.leveler hne)
  · exact mem_writes_stopTimes (written evolved.stopTimes fun ⟨ha, hb⟩ => hne.elim (· ha) (· hb))
  · exact mem_writes_presence (written (evolved.presence r) hne)

end Sys2Proof.Proofs
end

section
/-! SUPPORT. What the presence reload of a request leaves, operand clamps and indices, and the frames and requests of
the Link Controller. -/

namespace Sys2Proof.Machine

/-! ### The presence reload (R170) -/

@[simp] theorem reloadPresence_seq (l : Role) (s : State) : (reloadPresence l s).seq = s.seq := by
  unfold reloadPresence; split <;> rfl
@[simp] theorem reloadPresence_stream (l : Role) (s : State) : (reloadPresence l s).stream = s.stream := by
  unfold reloadPresence; split <;> rfl
@[simp] theorem reloadPresence_fades (l : Role) (s : State) : (reloadPresence l s).fades = s.fades := by
  unfold reloadPresence; split <;> rfl
@[simp] theorem reloadPresence_mix (l : Role) (s : State) : (reloadPresence l s).mix = s.mix := by
  unfold reloadPresence; split <;> rfl
@[simp] theorem reloadPresence_foldback (l : Role) (s : State) : (reloadPresence l s).foldback = s.foldback := by
  unfold reloadPresence; split <;> rfl
@[simp] theorem reloadPresence_relay (l : Role) (s : State) : (reloadPresence l s).relay = s.relay := by
  unfold reloadPresence; split <;> rfl
@[simp] theorem reloadPresence_showStop (l : Role) (s : State) : (reloadPresence l s).showStop = s.showStop := by
  unfold reloadPresence; split <;> rfl
@[simp] theorem reloadPresence_timing (l : Role) (s : State) : (reloadPresence l s).timing = s.timing := by
  unfold reloadPresence; split <;> rfl
@[simp] theorem reloadPresence_pending (l : Role) (s : State) : (reloadPresence l s).pending = s.pending := by
  unfold reloadPresence; split <;> rfl

@[simp] theorem voice_reloadPresence (l : Role) (s : State) (v : VoiceNo) :
    (reloadPresence l s).voice v = s.voice v := by
  rw [State.voice, reloadPresence_stream, State.voice]

@[simp] theorem zone?_reloadPresence (l : Role) (s : State) (z : ZoneNo) :
    (reloadPresence l s).zone? z = s.zone? z := by
  rw [State.zone?, reloadPresence_relay, State.zone?]

@[simp] theorem cueOf_reloadPresence (n : CueNum) (l : Role) (s : State) :
    cueOf n (reloadPresence l s) = cueOf n s := by
  simp [cueOf]

/-- The link record after the presence reload of an ATTACHED link. -/
theorem link_reloadPresence_self {l : Role} {s : State} (h : (s.link l).attached = true) :
    (reloadPresence l s).link l = { s.link l with timer := (s.link l).tPres } := by
  rw [reloadPresence_attached l s h, State.link_setLink_self]

@[simp] theorem State.setLink_setLink (s : State) (l : Role) (j k : Link) :
    (s.setLink l j).setLink l k = s.setLink l k := by
  cases l <;> rfl

/-- A request's roles and codes do not decide what an ATTACHED link with the right to it gets (R170). -/
theorem Serves.attached {l : Role} {c : Byte} {s : State} (h : Serves l c s) : (s.link l).attached = true := h.2.1

theorem Serves.running {l : Role} {c : Byte} {s : State} (h : Serves l c s) : s.timing.inReset = false := h.1

/-- A link that may send one request of the table may send another that is granted to the same roles. -/
theorem Serves.of_permitted {l : Role} {c d : Byte} {s : State} (h : Serves l c s)
    (hp : permitted c l = true → permitted d l = true) : Serves l d s :=
  ⟨h.1, h.2.1, hp h.2.2⟩

/-! ### Operands -/

theorem index?_of_lt {n x : Nat} (h : x < n) : index? n x = some ⟨x, h⟩ := by
  simp [index?, h]

theorem index?_of_le {n x : Nat} (h : n ≤ x) : index? n x = none := by
  simp [index?, Nat.not_lt.mpr h]

/-- A number that is the value of an index is that index. -/
theorem index?_of_val {n x : Nat} {i : Fin n} (h : i.val = x) : index? n x = some i := by
  subst h
  exact index?_of_lt i.isLt

theorem clampInt_eq {lo hi x : Int} (h : lo ≤ hi) : clampInt lo hi x = max lo (min hi x) := by
  unfold clampInt
  split
  · omega
  · split <;> omega

theorem clampNat_eq {lo hi x : Nat} (h : lo ≤ hi) : clampNat lo hi x = max lo (min hi x) := by
  unfold clampNat
  split
  · omega
  · split <;> omega

theorem clampTime_eq (t : Word) : clampTime t = min t.toNat 600000 := by
  rw [clampTime, clampNat_eq (Nat.zero_le _), Config.maxTime]
  omega

/-- A level field clamped without OFF is its number clamped: OFF is the lowest number of the field (R90, R178). -/
theorem clampNumeric_levelOfBits {lo hi : Int} (hlo : -32768 ≤ lo) (h : lo ≤ hi) (b : Half) :
    clampNumeric lo hi (levelOfBits b) = max lo (min hi b.toInt) := by
  unfold levelOfBits
  split
  · next hb =>
    have : (0x8000#16).toInt = -32768 := by decide
    rw [hb, this, clampNumeric]
    omega
  · exact clampInt_eq h

end Sys2Proof.Machine
end

section
/-! SUPPORT. The Link Controller's requests and the reads: which requests reach their block, and the reads whose blocks
do not depend on the link records. -/

namespace Sys2Proof.Machine

/-! ### Reaching the owning block (R170) -/

/-- A request reaches its block on an ATTACHED link, and ATTACH and READ STATUS on any (R170). -/
theorem serve_reached {l : Role} {c : Byte} (t : Byte) {body : State → State × Reply} {s : State}
    (hrun : s.timing.inReset = false) (hatt : (s.link l).attached = true ∨ c = 0x01#8 ∨ c = 0x06#8)
    (hperm : permitted c l = true) {u : State} {r : Result} {payload : List Byte}
    (hbody : body (reloadPresence l s) = (u, { result := r, payload := payload })) :
    Host.Outcome.next (serve l c t body s) = answered l c t r payload u := by
  have hopen : ¬ ((s.link l).attached = false ∧ c ≠ 0x01#8 ∧ c ≠ 0x06#8) := by
    rintro ⟨hdet, h1, h6⟩
    rcases hatt with h | h | h
    · rw [hdet] at h; cases h
    · exact h1 h
    · exact h6 h
  rw [serve, if_neg (by simp [hrun]), if_neg hopen, if_neg (by simp [hperm])]
  dsimp only
  rw [hbody, answered]

/-- Every request of the table is served with its own code and tag, given that its record is framed (R170). -/
theorem exec_eq_serve {c : Instr} {l : Role} {code tag : Byte} (hreq : requestOf c = some (l, code, tag))
    (hwf : c.wellFormed = true) : ∃ body, ∀ s, exec c s = .next (serve l code tag body s) := by
  have framedRequest : ∀ {l : Role} {words : List Word} {code tag : Byte} {body : State → State × Reply},
      recordFramed words = true → ∀ s, framed l code tag words (serve l code tag body) s = serve l code tag body s :=
    fun h s => by rw [framed, if_pos h]
  cases c <;> cases hreq
  case putCue => exact ⟨_, fun s => congrArg _ (framedRequest hwf s)⟩
  case putScene => exact ⟨_, fun s => congrArg _ (framedRequest hwf s)⟩
  all_goals exact ⟨_, fun s => rfl⟩

/-! ### Events (R174 to R176) -/

theorem Event.bytes_length (e : Event) : e.bytes.length = 26 := rfl

/-- The first 28 bits of a mask as a word are the mask with its top four bits cleared (R175, R178). -/
theorem mask_setWidth (mask : Word) : (mask.extractLsb' 0 28).setWidth 32 = mask &&& 0x0FFFFFFF := by
  apply BitVec.eq_of_toNat_eq
  have kept : (mask &&& 0x0FFFFFFF#32).toNat = mask.toNat % 2 ^ 28 := by
    rw [BitVec.toNat_and]
    exact Nat.and_two_pow_sub_one_eq_mod mask.toNat 28
  rw [show (0x0FFFFFFF : Word) = 0x0FFFFFFF#32 from rfl, kept]
  simp only [BitVec.toNat_setWidth, BitVec.extractLsb'_toNat, Nat.shiftRight_zero]
  omega

/-- Every kind has its bit among the 28 of the mask (R175, R176). -/
theorem EventKind.code_le (e : EventKind) : e.code - 1 < 28 := by
  cases e <;> decide

theorem masks_extractLsb' (k : Link) (mask : Word) (e : EventKind) :
    ({ k with mask := mask.extractLsb' 0 28 } : Link).masks e = mask.getLsbD (e.code - 1) := by
  simp [Link.masks, EventKind.code_le]

/-! ### The blocks of the reads -/

/-- The meters block: 9 bytes for each of the 32 outputs and 2 for each of the 24 stems (R120, R178). -/
theorem metersBlock_length (s : State) : (metersBlock s).length = 336 := by
  have meters : ∀ o, (meterBytes s o).length = 9 := fun _ => rfl
  have counts : ∀ n, (u16 n).length = 2 := fun _ => rfl
  simp [metersBlock, meters, counts, outputNos]

/-- The directions of a read (R36). -/
theorem directionOf_none {d : Byte} (h : 2 < d.toNat) : directionOf d = none := by
  unfold directionOf
  split
  · omega
  · omega
  · omega
  · rfl

theorem byte_le_two {d : Byte} (h : d.toNat ≤ 2) : d = 0 ∨ d = 1 ∨ d = 2 := by
  have value : d.toNat = 0 ∨ d.toNat = 1 ∨ d.toNat = 2 := by omega
  exact value.imp BitVec.eq_of_toNat_eq (.imp BitVec.eq_of_toNat_eq BitVec.eq_of_toNat_eq)

/-- What READ CUE answers with, by the direction's code (R36). -/
theorem directionOf_cue {d : Byte} (h : d.toNat ≤ 2) (n : CueNum) (s : State) :
    ∃ dir, directionOf d = some dir ∧ readCueAt n dir s =
      if d = 0 then s.store.cues.find? (·.num == n)
      else if d = 1 then s.store.cues.find? (fun c => decide (n.toNat < c.num.toNat))
      else s.store.cues.reverse.find? (fun c => decide (c.num.toNat < n.toNat)) := by
  rcases byte_le_two h with rfl | rfl | rfl
  · exact ⟨.at, rfl, rfl⟩
  · exact ⟨.next, rfl, rfl⟩
  · exact ⟨.previous, rfl, rfl⟩

/-- What READ SCENE answers with, by the direction's code (R36). -/
theorem directionOf_scene {d : Byte} (h : d.toNat ≤ 2) (n : Nat) (s : State) :
    ∃ dir, directionOf d = some dir ∧ readSceneAt n dir s =
      if d = 0 then s.store.scenes.find? (·.id == n)
      else if d = 1 then s.store.scenes.find? (fun c => decide (n < c.id))
      else s.store.scenes.reverse.find? (fun c => decide (c.id < n)) := by
  rcases byte_le_two h with rfl | rfl | rfl
  · exact ⟨.at, rfl, rfl⟩
  · exact ⟨.next, rfl, rfl⟩
  · exact ⟨.previous, rfl, rfl⟩

theorem zonesBytes_setLink (s : State) (l : Role) (k : Link) (n : Nat) (zs : List Zone) :
    zonesBytes (s.setLink l k) n zs = zonesBytes s n zs := by
  induction zs generalizing n with
  | nil => rfl
  | cons zn zs ih =>
    rw [zonesBytes, zonesBytes, ih]
    rfl

theorem callsBlock_setLink (s : State) (l : Role) (k : Link) : callsBlock (s.setLink l k) = callsBlock s := by
  rw [callsBlock, zonesBytes_setLink]
  rfl

end Sys2Proof.Machine
end

section
/-! The requests and frames of the Link Controller, and the reads. -/

namespace Sys2Proof.Proofs

open Sys2Proof.Machine

/-- Settles O16: each of these frames has an equation of its own. -/
theorem framesAnswered : Obligations.FramesAnswered := by
  unfold Obligations.FramesAnswered
  intro l s hrun
  refine ⟨fun r hslot => ?_, fun hslot => ?_, fun cmd code tag rest => ?_, fun tx hshort => ?_, fun code tag => ?_,
    reloadPresence_attached l s, reloadPresence_detached l s⟩
  · rw [exec, execReadResponse, occur_running _ _ hrun, slotBytes, hslot]
    rfl
  · rw [exec, execReadResponse, occur_running _ _ hrun, slotBytes, hslot]
    rfl
  · rw [exec, execBadFrame, occur_running _ _ hrun]
    rfl
  · have echo : echoOf (frameBytes tx) = (0, 0) := by
      match tx, hshort with
      | [], _ => rfl
      | [_], _ => rfl
      | [_, _], _ => rfl
    rw [exec, execBadFrame, occur_running _ _ hrun, echo]
    rfl
  · rw [exec, execUnknownRequest, occur_running _ _ hrun]
    rfl

/-- Settles O17: every request of the table is served, and serving refuses before the body is reached. -/
theorem refusedBeforeTheOwner : Obligations.RefusedBeforeTheOwner := by
  unfold Obligations.RefusedBeforeTheOwner
  intro c l code tag s hreq hwf hrun
  obtain ⟨body, hserve⟩ := exec_eq_serve hreq hwf
  refine ⟨fun hdet h1 h6 => ?_, fun hatt hperm => ?_⟩
  · rw [hserve, serve_detached l code tag body s hrun hdet h1 h6, answered]
  · rw [hserve, serve_notPermitted l code tag body s hrun hatt hperm, answered]

/-- Settles O18: the bodies of the three requests on the reloaded link record. -/
theorem linkSetUp : Obligations.LinkSetUp := by
  unfold Obligations.LinkSetUp
  intro l tag s hrun
  refine ⟨fun rev hrev => ?_, fun hatt => ?_, fun hdet => ?_, fun period p hatt hp => ?_, fun mask hatt => ?_⟩
  · have other : rev.toNat ≠ Config.protocolRevision := fun h => hrev (BitVec.eq_of_toNat_eq h)
    exact serve_reached tag hrun (.inr (.inl rfl)) (by cases l <;> decide) (by rw [attachBody, if_pos other, refuse])
  · refine serve_reached tag hrun (.inl hatt) (by cases l <;> decide) ?_
    have attached : ((reloadPresence l s).link l).attached = true := by rw [link_reloadPresence_self hatt]; exact hatt
    rw [attachBody, if_neg (by decide), if_pos attached, acceptWith, attachPayload, link_reloadPresence_self hatt]
    rfl
  · refine serve_reached tag hrun (.inr (.inl rfl)) (by cases l <;> decide) ?_
    rw [reloadPresence_detached l s hdet, attachBody, if_neg (by decide), if_neg (by simp [hdet])]
    rfl
  · refine serve_reached tag hrun (.inl hatt) (by cases l <;> decide) ?_
    dsimp only
    rw [link_reloadPresence_self hatt, reloadPresence_attached l s hatt, State.setLink_setLink,
      clampNat_eq (by decide), ← hp]
    rfl
  · refine ⟨{ s.link l with timer := (s.link l).tPres, mask := mask.extractLsb' 0 28 }, ?_, rfl,
      masks_extractLsb' { s.link l with timer := (s.link l).tPres } mask, ?_⟩
    · refine serve_reached tag hrun (.inl hatt) (by cases l <;> decide) ?_
      dsimp only
      rw [link_reloadPresence_self hatt, reloadPresence_attached l s hatt, State.setLink_setLink, mask_setWidth]
      rfl
    · rw [Link.attention, List.any_eq_true]
      refine exists_congr fun e => and_congr_right fun _ => ?_
      rw [Bool.not_eq_true']
      exact (masks_extractLsb' { s.link l with timer := (s.link l).tPres } mask e.kind).symm ▸ Iff.rfl

/-- Settles O20: the records an event appends, and the two reads that take what they return. -/
theorem readsThatTake : Obligations.ReadsThatTake := by
  unfold Obligations.ReadsThatTake
  refine ⟨fun e s r => link_raise e s r, Event.bytes_length, fun l tag count s hrun hatt => ⟨fun n hn => ?_, ?_,
    metersBlock_length s⟩⟩
  · refine serve_reached tag hrun (.inl hatt) (by cases l <;> decide) ?_
    have clamp : clampNat 1 Config.readEventsMax count.toNat = n := by
      rw [clampNat_eq (by decide), hn]
      rfl
    rw [readEventsBody, link_reloadPresence_self hatt, reloadPresence_attached l s hatt, State.setLink_setLink, clamp,
      acceptWith, List.length_drop, List.length_take]
  · refine serve_reached tag hrun (.inl hatt) (by cases l <;> decide) ?_
    rw [reloadPresence_attached l s hatt]
    rfl

/-- Settles O21: each read returns its block of a state that differs in the presence timer alone. -/
theorem readsChangeNothing : Obligations.ReadsChangeNothing := by
  unfold Obligations.ReadsChangeNothing
  intro l tag s hrun
  refine ⟨serve_reached tag hrun (.inr (.inr rfl)) (by cases l <;> decide) rfl, fun hatt => ?_⟩
  have reached : ∀ {c : Byte}, permitted c l = true → ∀ {body : State → State × Reply} {u : State} {r : Result}
      {payload : List Byte}, body (reloadPresence l s) = (u, { result := r, payload := payload }) →
      Host.Outcome.next (serve l c tag body s) = answered l c tag r payload u :=
    fun hperm => serve_reached tag hrun (.inl hatt) hperm
  have cues : (reloadPresence l s).store.cues = s.store.cues := by rw [reloadPresence_store]
  have scenes : (reloadPresence l s).store.scenes = s.store.scenes := by rw [reloadPresence_store]
  refine ⟨reached (by cases l <;> decide) ?_, reached (by cases l <;> decide) ?_, reached (by cases l <;> decide) ?_,
    fun o b hb => reached (by cases l <;> decide) ?_, fun b hb => reached (by cases l <;> decide) ?_,
    fun n d hd => reached (by cases l <;> decide) ?_, fun n d r hd hr => ?_,
    fun n d hd => reached (by cases l <;> decide) ?_, fun n d r hd hr => ?_⟩
  · rw [reloadPresence_attached l s hatt]; rfl
  · rw [reloadPresence_attached l s hatt]; rfl
  · rw [reloadPresence_attached l s hatt, callsBlock_setLink]; rfl
  · rw [index?_of_val hb.symm, reloadPresence_attached l s hatt]; rfl
  · rw [index?_of_le hb]; rfl
  · rw [directionOf_none hd]; rfl
  · obtain ⟨dir, hdir, hread⟩ := directionOf_cue hd n (reloadPresence l s)
    rw [cues, ← hr] at hread
    refine ⟨fun c hc => reached (by cases l <;> decide) ?_, fun hc => reached (by cases l <;> decide) ?_⟩
    · rw [hdir]; dsimp only; rw [hread, hc]; rfl
    · rw [hdir]; dsimp only; rw [hread, hc]; rfl
  · rw [directionOf_none hd]; rfl
  · obtain ⟨dir, hdir, hread⟩ := directionOf_scene hd n.toNat (reloadPresence l s)
    rw [scenes, ← hr] at hread
    refine ⟨fun c hc => reached (by cases l <;> decide) ?_, fun hc => reached (by cases l <;> decide) ?_⟩
    · rw [hdir]; dsimp only; rw [hread, hc]; rfl
    · rw [hdir]; dsimp only; rw [hread, hc]; rfl

end Sys2Proof.Proofs
end

section
/-! SUPPORT. The level law of a fade, the lengths of the blocks, and the edits of the Cue Store past their gate. -/

namespace Sys2Proof.Machine

/-! ### The level of a fade (R94) -/

/-- Before its last step a fade writes its start plus the truncated part of the way (log 22). -/
theorem fadeLevel_of_lt {k n : Nat} (h : k < n) (start goal : Level) :
    fadeLevel start goal k n = .db (start.num + ((goal.num - start.num) * k).tdiv n) := by
  rw [fadeLevel, if_pos h]

theorem fadeLevel_last (start goal : Level) (n : Nat) : fadeLevel start goal n n = goal := by
  rw [fadeLevel, if_neg (Nat.lt_irrefl n)]

/-- The truncated `k`/`n` of a way of whole tenths lies within it, and is short of it by less than one tenth. -/
theorem tdiv_way {d k n : Int} (hd : 0 ≤ d) (hk : 0 ≤ k) (hkn : k < n) :
    0 ≤ (d * k).tdiv n ∧ (d * k).tdiv n ≤ d ∧ (d * k).tdiv n * n ≤ d * k ∧ d * k < ((d * k).tdiv n + 1) * n := by
  have hn : 0 < n := by omega
  have hway : 0 ≤ d * k := mul_nonneg hd hk
  rw [Int.tdiv_eq_ediv_of_nonneg hway]
  refine ⟨Int.ediv_nonneg hway hn.le, ?_, Int.ediv_mul_le _ hn.ne', Int.lt_ediv_add_one_mul_self _ hn⟩
  calc d * k / n ≤ d * n / n := Int.ediv_le_ediv hn (mul_le_mul_of_nonneg_left hkn.le hd)
    _ = d := Int.mul_ediv_cancel _ hn.ne'

/-! ### The lengths of blocks (R178) -/

@[simp] theorem u8_length (n : Nat) : (u8 n).length = 1 := rfl
@[simp] theorem u16_length (n : Nat) : (u16 n).length = 2 := rfl
@[simp] theorem u32_length (n : Nat) : (u32 n).length = 4 := rfl
@[simp] theorem lv_length (l : Level) : (lv l).length = 2 := rfl
@[simp] theorem i16_length (x : Int) : (i16 x).length = 2 := rfl
@[simp] theorem flag_length (b : Bool) : (flag b).length = 1 := rfl
@[simp] theorem bytes16_length (x : BitVec 16) : (bytes16 x).length = 2 := rfl
@[simp] theorem bytes24_length (x : BitVec 24) : (bytes24 x).length = 3 := rfl
@[simp] theorem bytes32_length (x : BitVec 32) : (bytes32 x).length = 4 := rfl

@[simp] theorem cueField_length (c : Option CueNum) : (cueField c).length = 3 := by
  cases c <;> rfl

@[simp] theorem fadeField_length (t : FadeTarget) (s : State) : (fadeField t s).length = 12 := by
  unfold fadeField
  split <;> rfl

@[simp] theorem talkEndBytes_length (s : State) : (talkEndBytes s).length = 5 := by
  unfold talkEndBytes
  split <;> rfl

@[simp] theorem talkStatus_length (s : State) : (talkStatus s).length = 15 := by
  unfold talkStatus
  split <;> simp

theorem statusBlock_length (l : Role) (s : State) : (statusBlock l s).length = 90 := by
  simp [statusBlock, linkStatus, showStatus, sequencerStatus, soundStatus, stopStatus]

@[simp] theorem instBytes_length (s : State) (i : CueInstance) : (instBytes s i).length = 25 := by
  simp [instBytes]

theorem runningBlock_length (s : State) : (runningBlock s).length = 19 + 25 * s.seq.instances.length := by
  simp [runningBlock, stampBytes]
  omega

@[simp] theorem ownerBytes_length (o : Owner) : (ownerBytes o).length = 6 := by
  cases o <;> rfl

@[simp] theorem voiceFields_length (s : State) (v : VoiceNo) (x : Voice) : (voiceFields s v x).length = 42 := by
  simp [voiceFields]

theorem voiceBytes_length (s : State) (v : VoiceNo) : (voiceBytes s v).length = 44 := by
  unfold voiceBytes
  dsimp only
  split <;> simp [voiceFieldBytes]

theorem voiceBytes_free {s : State} {v : VoiceNo} (h : (s.voice v).state = .free) :
    voiceBytes s v = .ofNat 8 v.val :: List.replicate 43 0 := by
  simp [voiceBytes, Voice.busy, h, u8, VoiceState.code, voiceFieldBytes, List.replicate_succ]

@[simp] theorem foldbackLevels_length (s : State) (o : OutputNo) : (foldbackLevels s o).length = 172 := by
  have effectiveLength : ∀ (p : Prop) [Decidable p] (l : Level), (if p then lv l else u16 0).length = 2 :=
    fun p _ l => by split <;> rfl
  simp [foldbackLevels, sourceNos, effectiveLength]

@[simp] theorem relayLevels_length (s : State) (o : OutputNo) : (relayLevels s o).length = 18 := by
  unfold relayLevels
  split
  · simp
  · split <;> simp

theorem levelsBlock_length (s : State) (o : OutputNo) : (levelsBlock s o).length = 782 := by
  simp [levelsBlock, sourceNos]

@[simp] theorem zonesBytes_length (s : State) (n : Nat) (zs : List Zone) :
    (zonesBytes s n zs).length = 24 * zs.length := by
  induction zs generalizing n with
  | nil => rfl
  | cons zn zs ih =>
    simp [zonesBytes, zoneBytes, ih]
    omega

@[simp] theorem sourceBytes_length (s : State) (c : CallSource) : (sourceBytes s c).length = 12 := by
  cases c <;> rfl

@[simp] theorem originBytes_length (o : Origin) : (originBytes o).length = 6 := by
  cases o <;> rfl

@[simp] theorem callBytes_length (s : State) (playing : Bool) (c : Call) : (callBytes s playing c).length = 32 := by
  simp [callBytes]

@[simp] theorem tailBytes_length (t : Tail) : (tailBytes t).length = 5 := rfl

theorem callsBlock_length (s : State) : (callsBlock s).length = 22 + 24 * s.relay.zones.length +
    32 * (s.relay.playing.length + s.relay.waiting.length) + 5 * s.relay.tails.length := by
  simp [callsBlock, levelerBytes]
  omega

/-! ### Edits (R29 to R34) -/

/-- The gate lets the holder's edit of a READY store through (R29). -/
theorem edit_passed {l : Role} {s : State} (hholder : s.store.holder = some l) (hready : s.store.state = .ready)
    (body : State → State × Reply) : edit l body s = body s := by
  simp [edit, editRefusal, hholder, hready]

/-- An edit past the gate is answered as its body decides after the presence reload. -/
theorem next_edit_of_serves {l : Role} {c : Byte} {s : State} (hs : Serves l c s) (hholder : s.store.holder = some l)
    (hready : s.store.state = .ready) (t : Byte) {body : State → State × Reply} {u : State} {r : Result}
    {payload : List Byte} (hbody : body (reloadPresence l s) = (u, { result := r, payload := payload })) :
    Host.Outcome.next (serve l c t (edit l body) s) = answered l c t r payload u :=
  next_serve_of_serves hs t (by
    rw [edit_passed (by rw [reloadPresence_store]; exact hholder) (by rw [reloadPresence_store]; exact hready), hbody])

theorem exec_putCue {words : List Word} (h : recordFramed words = true) (l : Role) (tag : Byte) (s : State) :
    exec (.putCue l tag words) s = .next (serve l 0x12 tag (edit l (putCueBody words)) s) := by
  rw [exec, execPutCue, framed, if_pos h]

theorem exec_putScene {words : List Word} (h : recordFramed words = true) (l : Role) (tag : Byte) (s : State) :
    exec (.putScene l tag words) s = .next (serve l 0x14 tag (edit l (putSceneBody words)) s) := by
  rw [exec, execPutScene, framed, if_pos h]

/-- The first failing action is named by its position, counted from the given one (R30). -/
theorem firstFailing_append {ok : Action → Bool} {before after : List Action} {a : Action}
    (hbefore : ∀ b ∈ before, ok b = true) (ha : ok a = false) (pos : Nat) :
    firstFailing ok pos (before ++ a :: after) = some (pos + before.length) := by
  induction before generalizing pos with
  | nil => simp [firstFailing, ha]
  | cons b before ih =>
    rw [List.cons_append, firstFailing, if_pos (hbefore b (.head _)), ih (fun c hc => hbefore c (.tail _ hc)),
      List.length_cons]
    congr 1
    omega

theorem firstFailing_none {ok : Action → Bool} {as : List Action} (h : ∀ a ∈ as, ok a = true) (pos : Nat) :
    firstFailing ok pos as = none := by
  induction as generalizing pos with
  | nil => rfl
  | cons a as ih => rw [firstFailing, if_pos (h a (.head _)), ih fun b hb => h b (.tail _ hb)]

theorem inPrewait_iff (n : CueNum) (s : State) :
    inPrewait n s = true ↔ ∃ i ∈ s.seq.instances, i.cue = n ∧ i.phase = .prewait := by
  simp [inPrewait]

theorem inPrewait_eq_false {n : CueNum} {s : State} (h : ∀ i ∈ s.seq.instances, i.cue = n → i.phase ≠ .prewait) :
    inPrewait n s = false := by
  rw [← Bool.not_eq_true, inPrewait_iff]
  rintro ⟨i, hi, hn, hp⟩
  exact h i hi hn hp

end Sys2Proof.Machine
end

section
/-! The level law, the lengths of the blocks, and the edits. -/

namespace Sys2Proof.Proofs

open Sys2Proof.Machine

/-- Settles O15: the way from start to goal, or back, is a number of whole tenths of which the fade has gone its part. -/
theorem fadeLevelLaw : Obligations.FadeLevelLaw := by
  unfold Obligations.FadeLevelLaw
  intro start goal k n hn
  refine ⟨fadeLevel_last start goal n, fun hk => ⟨_, fadeLevel_of_lt hk start goal, fun hup => ?_, fun hdown => ?_⟩⟩
  · obtain ⟨hnonneg, hle, hfloor, hceil⟩ := tdiv_way (d := goal.num - start.num) (k := k) (n := n) (by omega) (by omega)
      (by exact_mod_cast hk)
    rw [add_sub_cancel_left]
    exact ⟨by omega, by omega, hfloor, hceil⟩
  · obtain ⟨hnonneg, hle, hfloor, hceil⟩ := tdiv_way (d := start.num - goal.num) (k := k) (n := n) (by omega) (by omega)
      (by exact_mod_cast hk)
    have back : ((goal.num - start.num) * k).tdiv n = -((start.num - goal.num) * k).tdiv n := by
      rw [← Int.neg_tdiv, ← Int.neg_mul, neg_sub]
    rw [back, show start.num - (start.num + -((start.num - goal.num) * (k : Int)).tdiv n) =
      ((start.num - goal.num) * (k : Int)).tdiv n by ring]
    exact ⟨by omega, by omega, hfloor, hceil⟩

/-- Settles O22: each block's length is the sum of the lengths of its fields. -/
theorem blocksHaveTheirLengths : Obligations.BlocksHaveTheirLengths := by
  unfold Obligations.BlocksHaveTheirLengths
  exact fun s => ⟨fun l => statusBlock_length l s, runningBlock_length s, voiceBytes_length s,
    fun _ hfree => voiceBytes_free hfree, levelsBlock_length s, callsBlock_length s⟩

/-- Settles O23: the three rows of EDIT HOLD, and what the gate and the framing refuse before a body is reached. -/
theorem editHoldAndGate : Obligations.EditHoldAndGate := by
  unfold Obligations.EditHoldAndGate
  refine ⟨fun l tag s hs => ⟨fun hfree => ?_, fun hself => ?_, fun h hheld hne => ?_⟩,
    fun c l code tag s hreq hcode hwf hs => ?_, fun l tag words s hrun hbad => ?_⟩
  · refine next_serve_of_serves hs tag ?_
    rw [reloadPresence_store, hfree]
    dsimp only [acceptWith, changeHolder, holderCode]
    rw [reloadPresence_store]
  · refine next_serve_of_serves hs tag ?_
    rw [reloadPresence_store, hself]
    dsimp only
    rw [if_pos rfl, acceptWith]
  · refine next_serve_of_serves hs tag ?_
    rw [reloadPresence_store, hheld]
    dsimp only
    rw [if_neg hne]
  · have refused : ∀ (body : State → State × Reply) (r : Result), editRefusal l s = some r →
        exec c s = .next (serve l code tag (edit l body) s) →
        exec c s = answered l code tag r [] (reloadPresence l s) := fun body r hr hexec => by
      rw [hexec]
      refine next_serve_of_serves hs tag ?_
      rw [edit, show editRefusal l (reloadPresence l s) = editRefusal l s by
        rw [editRefusal, reloadPresence_store, editRefusal], hr]
      rfl
    obtain ⟨body, hexec⟩ : ∃ body, exec c s = .next (serve l code tag (edit l body) s) := by
      cases c <;> cases hreq
      case putCue => exact ⟨_, exec_putCue hwf _ _ _⟩
      case putScene => exact ⟨_, exec_putScene hwf _ _ _⟩
      case deleteCue => exact ⟨_, rfl⟩
      case deleteScene => exact ⟨_, rfl⟩
      all_goals exact absurd hcode (by decide)
    refine ⟨fun hholder => refused body _ ?_ hexec, fun hholder hstate => refused body _ ?_ hexec,
      fun hholder hstate => refused body _ ?_ hexec⟩
    · rw [editRefusal, if_pos hholder]
    · rw [editRefusal, if_neg (by simp [hholder]), hstate]
    · rw [editRefusal, if_neg (by simp [hholder]), hstate]
  · constructor
    · rw [exec, execPutCue, framed, if_neg (by simp [hbad]), occur_running _ _ hrun, answered]
    · rw [exec, execPutScene, framed, if_neg (by simp [hbad]), occur_running _ _ hrun, answered]

/-- Settles O25: the branches of PUT CUE in order; the placed cues are the record and the cues of other numbers. -/
theorem putCueTaken : Obligations.PutCueTaken := by
  unfold Obligations.PutCueTaken
  intro l tag words s hs hholder hready hframed hsorted
  have taken : ∀ {u : State} {r : Result} {payload : List Byte},
      putCueBody words (reloadPresence l s) = (u, { result := r, payload := payload }) →
      exec (.putCue l tag words) s = answered l 0x12 tag r payload u := fun hbody => by
    rw [exec_putCue hframed]
    exact next_edit_of_serves hs hholder hready tag hbody
  refine ⟨fun item hitem => taken ?_, fun c hc => ⟨fun before a after hsplit hbefore ha => taken ?_,
    fun others hothers hrefs => ?_⟩⟩
  · rw [putCueBody, reloadPresence_smi, hitem]
    rfl
  · rw [putCueBody, reloadPresence_smi, hc]
    dsimp only
    rw [reloadPresence_store, hsplit, firstFailing_append hbefore ha, Nat.add_comm 1]
    rfl
  have placed : (placeCue c s.store.cues).Perm (c :: others) := hothers ▸ placeCue_perm hsorted
  have hlen : (placeCue c s.store.cues).length = others.length + 1 := placed.length_eq
  have htotal : actionTotal (placeCue c s.store.cues) = actionTotal others + c.actions.length := by
    rw [actionTotal_perm placed, actionTotal_cons, Nat.add_comm]
  have fits : cuesFit (placeCue c s.store.cues) =
      decide (others.length + 1 ≤ 600 ∧ actionTotal others + c.actions.length ≤ 4096) := by
    rw [cuesFit, hlen, htotal]
    rfl
  have body : putCueBody words (reloadPresence l s) =
      if cuesFit (placeCue c s.store.cues) = false then refuse .storeFull (reloadPresence l s)
      else if inPrewait c.num s then refuse .inUse (reloadPresence l s)
      else acceptCueEdit { reloadPresence l s with store := { s.store with cues := placeCue c s.store.cues } } := by
    simp [putCueBody, hc, firstFailing_none hrefs, inPrewait]
  refine ⟨fun hfull => taken ?_, fun hcount hactions => ⟨fun _ huse => taken ?_, fun hfree => ?_⟩⟩
  · rw [body, if_pos (by rw [fits]; simp; omega), refuse]
  · rw [body, if_neg (by rw [fits]; simp; omega), if_pos ((inPrewait_iff _ _).mpr huse), refuse]
  · refine ⟨placeCue c s.store.cues, taken ?_, pairwise_placeCue hsorted, fun d => ?_⟩
    · rw [body, if_neg (by rw [fits]; simp; omega), if_neg (by simp [inPrewait_eq_false hfree]), acceptCueEdit,
        cueTotals, acceptWith]
      dsimp only
      rw [hlen, htotal]
    · rw [placed.mem_iff, List.mem_cons]

/-- Settles O26: the branches of DELETE CUE; the playhead moves in the store without the cue. -/
theorem deleteCueTaken : Obligations.DeleteCueTaken := by
  unfold Obligations.DeleteCueTaken
  intro l tag n s cs hs hholder hready hcs
  have taken : ∀ {u : State} {r : Result} {payload : List Byte},
      deleteCueBody n (reloadPresence l s) = (u, { result := r, payload := payload }) →
      exec (.deleteCue l tag n) s = answered l 0x13 tag r payload u :=
    fun hbody => next_edit_of_serves hs hholder hready tag hbody
  refine ⟨fun hnone => taken ?_, fun hsome => ⟨fun huse => taken ?_, fun hfree => ?_⟩⟩
  · rw [deleteCueBody, cueOf_reloadPresence, if_pos (by simp [hnone]), refuse]
  · rw [deleteCueBody, cueOf_reloadPresence, if_neg (by simp [Option.isSome_iff_ne_none.mp hsome]), inPrewait, reloadPresence_seq,
      ← inPrewait, if_pos ((inPrewait_iff _ _).mpr huse), refuse]
  have body : deleteCueBody n (reloadPresence l s) = acceptCueEdit
      (if s.seq.playhead = some n then movePlayhead
          (nextGo n { reloadPresence l s with store := { s.store with cues := cs } }) 2
          { reloadPresence l s with store := { s.store with cues := cs } }
        else { reloadPresence l s with store := { s.store with cues := cs } }) := by
    have hpresent : cueOf n s ≠ none := Option.isSome_iff_ne_none.mp hsome
    have hidle : inPrewait n (reloadPresence l s) = false := inPrewait_eq_false (by rwa [reloadPresence_seq])
    simp [deleteCueBody, hpresent, hidle, ← hcs]
  refine ⟨fun hother => taken ?_, fun p hdeleted hp => taken ?_⟩
  · rw [body, if_neg hother]
    rfl
  · rw [body, if_pos hdeleted, nextGo]
    dsimp only [Cue.isGo]
    rw [← hp, movePlayhead]
    dsimp only
    rw [reloadPresence_seq]
    rfl

/-- Settles O27: the branches of PUT SCENE and DELETE SCENE; placing is as for cues. -/
theorem sceneEditsTaken : Obligations.SceneEditsTaken := by
  unfold Obligations.SceneEditsTaken
  intro l tag s hs hholder hready hsorted
  refine ⟨fun words hframed => ?_, fun id rest hrest => ?_⟩
  · have taken : ∀ {u : State} {r : Result} {payload : List Byte},
        putSceneBody words (reloadPresence l s) = (u, { result := r, payload := payload }) →
        exec (.putScene l tag words) s = answered l 0x14 tag r payload u := fun hbody => by
      rw [exec_putScene hframed]
      exact next_edit_of_serves hs hholder hready tag hbody
    refine ⟨fun item hitem => taken ?_, fun sc others hsc hothers => ?_⟩
    · rw [putSceneBody, hitem]
      rfl
    have placed : (placeScene sc s.store.scenes).Perm (sc :: others) := hothers ▸ placeScene_perm hsorted
    have hlen : (placeScene sc s.store.scenes).length = others.length + 1 := placed.length_eq
    have htotal : entryTotal (placeScene sc s.store.scenes) = entryTotal others + sc.entries.length := by
      rw [entryTotal_perm placed, entryTotal_cons, Nat.add_comm]
    have fits : scenesFit (placeScene sc s.store.scenes) =
        decide (others.length + 1 ≤ 128 ∧ entryTotal others + sc.entries.length ≤ 4096) := by
      rw [scenesFit, hlen, htotal]
      rfl
    refine ⟨fun hfull => taken ?_, fun hcount hentries => ⟨placeScene sc s.store.scenes, taken ?_,
      pairwise_placeScene hsorted, fun d => ?_⟩⟩
    · rw [putSceneBody, hsc]
      dsimp only
      rw [reloadPresence_store, if_pos (by rw [fits]; simp; omega), refuse]
    · rw [putSceneBody, hsc]
      dsimp only
      rw [reloadPresence_store, if_neg (by rw [fits]; simp; omega), acceptSceneEdit, sceneTotals, acceptWith]
      dsimp only
      rw [hlen, htotal]
    · rw [placed.mem_iff, List.mem_cons]
  · have permitted_of : Serves l 0x15 s := hs.of_permitted (by cases l <;> decide)
    have sceneKept : sceneOf id.toNat (reloadPresence l s) = sceneOf id.toNat s := by
      rw [sceneOf, reloadPresence_store, sceneOf]
    refine ⟨fun hnone => next_edit_of_serves permitted_of hholder hready tag ?_,
      fun hsome => next_edit_of_serves permitted_of hholder hready tag ?_⟩
    · rw [deleteSceneBody, sceneKept, if_pos (by simp [hnone]), refuse]
    · rw [deleteSceneBody, sceneKept, if_neg (by simp [Option.isSome_iff_ne_none.mp hsome]), reloadPresence_store, ← hrest]
      rfl

end Sys2Proof.Proofs
end

section
/-! SUPPORT. The checks of the Cue Sequencer's requests, each as the presence reload leaves it, and the bodies of the
requests that write one setting. -/

namespace Sys2Proof.Machine

@[simp] theorem storeRefusal_reloadPresence (l : Role) (s : State) :
    storeRefusal (reloadPresence l s) = storeRefusal s := by
  simp [storeRefusal]

@[simp] theorem showRefusal_reloadPresence (l : Role) (s : State) :
    showRefusal (reloadPresence l s) = showRefusal s := by
  simp [showRefusal]

@[simp] theorem guardLeft_reloadPresence (l : Role) (s : State) : guardLeft (reloadPresence l s) = guardLeft s := by
  simp [guardLeft, stampAge]

@[simp] theorem hasRoom_reloadPresence (l : Role) (s : State) : hasRoom (reloadPresence l s) = hasRoom s := by
  simp [hasRoom, retiree]

@[simp] theorem goRefusal_reloadPresence (l r : Role) (e : Option CueNum) (s : State) :
    goRefusal r e (reloadPresence l s) = goRefusal r e s := by
  simp [goRefusal]

theorem storeRefusal_noShow {s : State} (h : s.store.state = .noShow) : storeRefusal s = some .noShow := by
  rw [storeRefusal, h]

theorem storeRefusal_loading {s : State} (h : s.store.state = .loading) : storeRefusal s = some .loading := by
  rw [storeRefusal, h]

theorem storeRefusal_ready {s : State} (h : s.store.state = .ready) : storeRefusal s = none := by
  rw [storeRefusal, h]

theorem showRefusal_store {s : State} {r : Result} (h : storeRefusal s = some r) : showRefusal s = some r := by
  rw [showRefusal, h]

theorem showRefusal_stopped {s : State} (h : s.store.state = .ready) (hs : s.showStop.state = .stopped) :
    showRefusal s = some .showStopped := by
  rw [showRefusal, storeRefusal_ready h]
  exact if_pos hs

theorem showRefusal_none {s : State} (h : s.store.state = .ready) (hs : s.showStop.state ≠ .stopped) :
    showRefusal s = none := by
  rw [showRefusal, storeRefusal_ready h]
  exact if_neg hs

/-- A fire finds room where the table is not full or an instance may be retired (R48). -/
theorem hasRoom_iff (s : State) : hasRoom s = true ↔ TableHasRoom s := by
  simp [hasRoom, TableHasRoom, retiree, List.find?_isSome]

theorem guardLeft_stamp {s : State} {st : GuardStamp} (h : s.seq.stamp = some st) :
    guardLeft s = s.seq.guardMs - (s.timing.showClock - st.time).toNat := by
  rw [guardLeft, h]
  rfl

/-- Nothing of the guard is left once it has passed (R41). -/
theorem guardLeft_passed {s : State} (h : GuardPassed s) : guardLeft s = 0 := by
  unfold guardLeft
  split
  · next st hst => exact Nat.sub_eq_zero_of_le (h st hst)
  · rfl

/-! ### The refusals of GO in order (R41) -/

section GoRefusal

variable {l : Role} {expected : Option CueNum} {s : State}

theorem goRefusal_authority (h : s.seq.authority.permits l = false) :
    goRefusal l expected s = some { result := .notPermitted, payload := [] } := by
  rw [goRefusal, if_pos h]

theorem goRefusal_show (h : s.seq.authority.permits l = true) {r : Result} (hr : showRefusal s = some r) :
    goRefusal l expected s = some { result := r, payload := [] } := by
  rw [goRefusal, if_neg (by simp [h]), hr]

theorem goRefusal_guard (h : MayGo l s) (hleft : 0 < guardLeft s) : goRefusal l expected s =
    some { result := .doubleGo, payload := cueField (s.seq.stamp.map (·.cue)) ++ u16 (guardLeft s) } := by
  obtain ⟨hauthority, hready, hshow⟩ := h
  rw [goRefusal, if_neg (by simp [hauthority]), showRefusal_none hready hshow]
  exact if_pos hleft

/-- What is left of the checks of GO once the guard has passed. -/
theorem goRefusal_passed (h : MayGo l s) (hpassed : GuardPassed s) : goRefusal l expected s =
    match s.seq.playhead with
    | none => some { result := .endOfList, payload := [] }
    | some p =>
      if expected.isSome ∧ expected ≠ some p then some { result := .stale, payload := cueField (some p) }
      else if s.seq.standbyRequired ∧ ¬ s.seq.standby then some { result := .notStandingBy, payload := [] }
      else if hasRoom s then none
      else some { result := .cueTableFull, payload := [] } := by
  obtain ⟨hauthority, hready, hshow⟩ := h
  rw [goRefusal, if_neg (by simp [hauthority]), showRefusal_none hready hshow]
  dsimp only
  exact if_neg (by rw [guardLeft_passed hpassed]; exact Nat.lt_irrefl 0)

end GoRefusal

/-- GO is answered as the checks refuse it. -/
theorem exec_go_refused {l : Role} {s : State} (hs : Serves l 0x20 s) (tag : Byte) {expected : Option CueNum}
    {r : Result} {payload : List Byte} (h : goRefusal l expected s = some { result := r, payload := payload }) :
    exec (.go l tag expected) s = answered l 0x20 tag r payload (reloadPresence l s) :=
  next_serve_of_serves hs tag (by rw [goBody, goRefusal_reloadPresence, h])

/-! ### Bodies that write one setting -/

theorem authorityOf_code {b : Byte} {a : GoAuthority} (h : b.toNat = a.code) : authorityOf b = some a := by
  rw [authorityOf, h]
  cases a <;> rfl

theorem authorityOf_none {b : Byte} (h : 2 < b.toNat) : authorityOf b = none := by
  unfold authorityOf
  split
  · omega
  · omega
  · omega
  · rfl

theorem switchOf_toNat {v : Byte} {b : Bool} (h : v.toNat = b.toNat) : switchOf v = some b := by
  rw [switchOf, h]
  cases b <;> rfl

theorem switchOf_none {v : Byte} (h : 1 < v.toNat) : switchOf v = none := by
  unfold switchOf
  split
  · omega
  · omega
  · rfl

/-- SET PLAYHEAD of a number that the store does not refuse, by whether it moves the playhead (R45). -/
theorem setPlayheadBody_ready {n : CueNum} {p : Option CueNum} {s : State} (hready : s.store.state = .ready)
    (hp : p = none ∧ major n = 0 ∨ p = some n ∧ major n ≠ 0 ∧ (cueOf n s).isSome = true) :
    setPlayheadBody n s = if s.seq.playhead = p then acceptWith [] s else acceptWith [] (movePlayhead p 1 s) := by
  have named : namedPlayhead n = p ∧ ¬ ((namedPlayhead n).isSome = true ∧ (cueOf n s).isNone = true) := by
    rcases hp with ⟨rfl, hmajor⟩ | ⟨rfl, hmajor, hstored⟩
    · simp [namedPlayhead, hmajor]
    · simp [namedPlayhead, hmajor, Option.isSome_iff_ne_none.mp hstored]
  rw [setPlayheadBody, storeRefusal_ready hready]
  dsimp only
  rw [if_neg named.2, named.1]

end Sys2Proof.Machine
end

section
/-! The refusals of GO, the playhead requests and the GO settings. -/

namespace Sys2Proof.Proofs

open Sys2Proof.Machine

/-- Settles O35: each refusal is the first of the checks that does not pass. -/
theorem goRefused : Obligations.GoRefused := by
  unfold Obligations.GoRefused
  intro l tag expected s hs
  refine ⟨fun hauthority => exec_go_refused hs tag (goRefusal_authority ?_), fun hpermits => ⟨fun hstate => ?_,
    fun hstate => ?_, fun hready hstopped => ?_⟩, fun hmay => ⟨fun st age hst hage hlt => ?_, fun hpassed => ?_⟩⟩
  · rcases hauthority with ⟨ha, hl⟩ | ⟨ha, hl⟩
    · cases l <;> simp_all [GoAuthority.permits]
    · cases l <;> simp_all [GoAuthority.permits]
  · exact exec_go_refused hs tag (goRefusal_show hpermits (showRefusal_store (storeRefusal_noShow hstate)))
  · exact exec_go_refused hs tag (goRefusal_show hpermits (showRefusal_store (storeRefusal_loading hstate)))
  · exact exec_go_refused hs tag (goRefusal_show hpermits (showRefusal_stopped hready hstopped))
  · have left : guardLeft s = s.seq.guardMs - age := by rw [guardLeft_stamp hst, hage]
    have refusal := goRefusal_guard (expected := expected) hmay (by rw [left]; omega)
    rw [left, hst] at refusal
    exact exec_go_refused hs tag refusal
  · have checks := goRefusal_passed (expected := expected) hmay hpassed
    refine ⟨fun hend => exec_go_refused hs tag (by rw [checks, hend]), fun p hp => ?_⟩
    rw [hp] at checks
    dsimp only at checks
    refine ⟨fun e he hne => exec_go_refused hs tag ?_, fun hexpected => ?_⟩
    · rw [checks, he, if_pos ⟨rfl, fun h => hne (Option.some.inj h)⟩]
    · have current : ¬ (expected.isSome ∧ expected ≠ some p) := by
        rcases hexpected with rfl | rfl <;> simp
      rw [if_neg current] at checks
      refine ⟨fun hrequired hstandby => exec_go_refused hs tag ?_, fun hstandby hfull => exec_go_refused hs tag ?_⟩
      · rw [checks, if_pos (by simp [hrequired, hstandby])]
      · rw [checks, if_neg (by rcases hstandby with h | h <;> simp [h]),
          if_neg (fun h => hfull ((hasRoom_iff s).mp h))]

/-- Settles O38: the bodies of the six requests, branch by branch. -/
theorem playheadAndGoSettings : Obligations.PlayheadAndGoSettings := by
  unfold Obligations.PlayheadAndGoSettings
  intro tag s
  refine ⟨fun hs => ?_, fun l n hs => ?_, fun hs => ?_⟩
  · refine ⟨fun hstate => next_serve_of_serves hs tag ?_, fun hstate => next_serve_of_serves hs tag ?_,
      fun hready => ⟨fun hend => next_serve_of_serves hs tag ?_, fun p hp => next_serve_of_serves hs tag ?_⟩⟩
    · rw [standbyBody, storeRefusal_reloadPresence, storeRefusal_noShow hstate]; rfl
    · rw [standbyBody, storeRefusal_reloadPresence, storeRefusal_loading hstate]; rfl
    · simp [standbyBody, storeRefusal_ready hready, hend, refuse]
    · simp [standbyBody, storeRefusal_ready hready, hp, acceptWith]
  · refine ⟨fun hstate => next_serve_of_serves hs tag ?_, fun hstate => next_serve_of_serves hs tag ?_,
      fun hready => ⟨fun hmajor hnone => next_serve_of_serves hs tag ?_, fun p hp => ?_⟩⟩
    · rw [setPlayheadBody, storeRefusal_reloadPresence, storeRefusal_noShow hstate]; rfl
    · rw [setPlayheadBody, storeRefusal_reloadPresence, storeRefusal_loading hstate]; rfl
    · simp [setPlayheadBody, storeRefusal_ready hready, namedPlayhead, hmajor, hnone, refuse]
    · have body := setPlayheadBody_ready (s := reloadPresence l s) (n := n) (p := p)
        (by rw [reloadPresence_store]; exact hready) (by rw [cueOf_reloadPresence]; exact hp)
      rw [reloadPresence_seq] at body
      refine ⟨fun hsame => next_serve_of_serves hs tag ?_, fun hmoves => next_serve_of_serves hs tag ?_⟩
      · rw [body, if_pos hsame, acceptWith]
      · rw [body, if_neg hmoves, acceptWith, movePlayhead, reloadPresence_seq]
        rfl
  · have hs25 : Serves .prompt 0x25 s := hs.of_permitted (by decide)
    have hs26 : Serves .prompt 0x26 s := hs.of_permitted (by decide)
    refine ⟨fun value a ha => next_serve_of_serves hs tag ?_, fun value hbad => next_serve_of_serves hs tag ?_,
      fun value b hb => next_serve_of_serves hs25 tag ?_, fun value hbad => next_serve_of_serves hs25 tag ?_,
      fun ms n hn => next_serve_of_serves hs26 tag ?_⟩
    · simp [authorityOf_code ha, acceptWith]
    · simp [authorityOf_none hbad, refuse]
    · simp [switchOf_toNat hb, acceptWith]
    · simp [switchOf_none hbad, refuse]
    · have clamp : clampNat 0 2000 ms.toNat = n := by rw [clampNat_eq (by decide)]; omega
      simp [clamp, acceptWith]

end Sys2Proof.Proofs
end

section
/-! SUPPORT. The bodies of the Mix Matrix's, the Foldback Controller's and the Relay Controller's requests that write
one setting, and the four cases of a level control. -/

namespace Sys2Proof.Machine

/-! ### BLANK and OPEN (R116, R117) -/

/-- BLANK by the table of R116. -/
theorem Blanking.close_eq {old new : Blanking}
    (h : old = .opened ∧ new = .closing 0 ∨ (∃ c, old = .closing c ∧ new = old) ∨ old = .blanked ∧ new = old ∨
      old = .opening 0 ∧ new = .blanked ∨ ∃ p, old = .opening p ∧ 0 < p ∧ new = .closing (240 - p)) :
    old.close = new := by
  rcases h with ⟨rfl, rfl⟩ | ⟨c, rfl, rfl⟩ | ⟨rfl, rfl⟩ | ⟨rfl, rfl⟩ | ⟨p, rfl, hp, rfl⟩
  · rfl
  · rfl
  · rfl
  · rfl
  · exact if_neg hp.ne'

/-- OPEN by the table of R116. -/
theorem Blanking.reopen_eq {old new : Blanking}
    (h : old = .opened ∧ new = old ∨ old = .closing 0 ∧ new = .opened ∨
      (∃ c, old = .closing c ∧ 0 < c ∧ new = .opening (240 - c)) ∨ old = .blanked ∧ new = .opening 0 ∨
      ∃ p, old = .opening p ∧ new = old) : old.reopen = new := by
  rcases h with ⟨rfl, rfl⟩ | ⟨rfl, rfl⟩ | ⟨c, rfl, hc, rfl⟩ | ⟨rfl, rfl⟩ | ⟨p, rfl, rfl⟩
  · rfl
  · rfl
  · exact if_neg hc.ne'
  · rfl
  · rfl

@[simp] theorem monitorRefused_reloadPresence (l r : Role) (o : OutputNo) (s : State) :
    monitorRefused r o (reloadPresence l s) = monitorRefused r o s := by
  simp [monitorRefused]

theorem monitorRefused_iff (l : Role) (o : OutputNo) (s : State) :
    monitorRefused l o s = true ↔ l = .monitor ∧ s.mix.classes[o] ≠ .foldback := by
  simp [monitorRefused]

theorem monitorRefused_eq_false {l : Role} {o : OutputNo} {s : State}
    (h : l = .monitor → s.mix.classes[o] = .foldback) : monitorRefused l o s = false := by
  rw [← Bool.not_eq_true, monitorRefused_iff]
  exact fun ⟨hl, hc⟩ => hc (h hl)

section BlankingBody

variable {f : Blanking → Blanking} {l : Role} {b : Byte} {s : State}

theorem blankingBody_badField (h : 32 ≤ b.toNat) : blankingBody f l b s = (s, ⟨.badField, []⟩) := by
  rw [blankingBody, index?_of_le h]
  rfl

theorem blankingBody_notPermitted {o : OutputNo} (ho : o.val = b.toNat) (h : monitorRefused l o s = true) :
    blankingBody f l b s = (s, ⟨.notPermitted, []⟩) := by
  rw [blankingBody, index?_of_val ho]
  exact if_pos h

theorem blankingBody_taken {o : OutputNo} (ho : o.val = b.toNat) (h : monitorRefused l o s = false)
    {old new : Blanking} (hold : s.mix.blanking[o] = old) (hnew : f old = new) :
    blankingBody f l b s = (setBlanking o new s, ⟨.accepted, u8 new.code ++ u8 new.pos⟩) := by
  rw [blankingBody, index?_of_val ho]
  dsimp only
  rw [if_neg (by simp [h]), hold, hnew, acceptWith]

end BlankingBody

/-- A position that no ramp end is due at leaves the blanking state (log 1). -/
theorem setBlanking_self (o : OutputNo) (s : State) : setBlanking o s.mix.blanking[o] s = s := by
  simp [setBlanking]

/-! ### The foldback settings (R129, R132, R133) -/

theorem modeOf_none {mode main : Byte} (h : 2 ≤ mode.toNat ∨ mode = 1 ∧ 32 ≤ main.toNat) :
    modeOf mode.toNat main.toNat = none := by
  rcases h with h | ⟨rfl, h⟩
  · unfold modeOf
    split
    · omega
    · omega
    · rfl
  · simp [modeOf, index?_of_le h]

theorem modeOf_eq {mode main : Byte} {m : FoldMode}
    (h : mode = 0 ∧ m = .independent ∨ mode = 1 ∧ ∃ n : OutputNo, n.val = main.toNat ∧ m = .follow n) :
    modeOf mode.toNat main.toNat = some m := by
  rcases h with ⟨rfl, rfl⟩ | ⟨rfl, n, hn, rfl⟩
  · rfl
  · simp [modeOf, index?_of_val hn]

@[simp] theorem modeFault_reloadPresence (o : OutputNo) (m : FoldMode) (l : Role) (s : State) :
    modeFault o m (reloadPresence l s) = modeFault o m s := by
  cases m <;> simp [modeFault]

theorem modeFault_notFoldback {o : OutputNo} {s : State} (h : s.mix.classes[o] ≠ .foldback) (m : FoldMode) :
    modeFault o m s = some .notFoldback := by
  unfold modeFault
  exact if_pos h

theorem modeFault_notMain {o n : OutputNo} {s : State} (h : s.mix.classes[o] = .foldback)
    (hn : s.mix.classes[n] ≠ .main) : modeFault o (.follow n) s = some .badReference := by
  unfold modeFault
  rw [if_neg (not_not.mpr h)]
  exact if_pos hn

theorem modeFault_none {o : OutputNo} {m : FoldMode} {s : State} (h : s.mix.classes[o] = .foldback)
    (hm : ∀ n, m = .follow n → s.mix.classes[n] = .main) : modeFault o m s = none := by
  cases m with
  | independent => simp [modeFault, h]
  | follow n => simp [modeFault, h, hm n rfl]

theorem setFollowBody_badField {output mode main : Byte} (s : State)
    (h : 32 ≤ output.toNat ∨ 2 ≤ mode.toNat ∨ mode = 1 ∧ 32 ≤ main.toNat) :
    setFollowBody output mode main s = (s, ⟨.badField, []⟩) := by
  rcases h with h | h
  · rw [setFollowBody, index?_of_le h]
    rfl
  · rw [setFollowBody, modeOf_none h]
    cases index? 32 output.toNat <;> rfl

theorem setOffsetBody_badField {source output : Byte} (offset : Half) (s : State)
    (h : 40 ≤ source.toNat ∨ 32 ≤ output.toNat) : setOffsetBody source output offset s = (s, ⟨.badField, []⟩) := by
  rcases h with h | h
  · rw [setOffsetBody, index?_of_le h]
    rfl
  · rw [setOffsetBody, index?_of_le h]
    cases index? 40 source.toNat <;> rfl

/-! ### Talk (R135, R136) -/

@[simp] theorem firstNotFoldback_reloadPresence (set : BitVec 32) (l : Role) (s : State) :
    firstNotFoldback set (reloadPresence l s) = firstNotFoldback set s := by
  simp [firstNotFoldback]

/-- The first element of a set that fails a test is the one below which every member passes it. -/
theorem find?_members {n : Nat} {set : BitVec n} {p : Fin n → Bool} {o : Fin n} (ho : set.getLsbD o = true)
    (hp : p o = true) (hbelow : ∀ q, q < o → set.getLsbD q = true → p q = false) : (members set).find? p = some o := by
  rw [members, List.find?_filter, List.find?_eq_some_iff_getElem]
  refine ⟨by simp [ho, hp], o.val, by simp, by simp, fun j hj => ?_⟩
  have hlt : (⟨j, by omega⟩ : Fin n) < o := hj
  simp only [List.getElem_finRange, Bool.not_eq_true', decide_eq_false_iff_not]
  rintro ⟨hset, hpj⟩
  exact Bool.false_ne_true ((hbelow _ hlt hset).symm.trans hpj)

theorem find?_members_none {n : Nat} {set : BitVec n} {p : Fin n → Bool}
    (h : ∀ o : Fin n, set.getLsbD o = true → p o = false) : (members set).find? p = none := by
  rw [members, List.find?_filter, List.find?_eq_none]
  intro o _
  simpa using h o

theorem endTalk_none {s : State} (h : s.foldback.talk = none) (cause : TalkCause) : endTalk cause s = s := by
  rw [endTalk, h]

theorem endTalk_some {s : State} {k : Talk} (h : s.foldback.talk = some k) (cause : TalkCause) :
    endTalk cause s = { s with foldback := { s.foldback with
      talk := none, lastEnd := some { cause := cause, time := s.timing.showClock } } } := by
  rw [endTalk, h]

end Sys2Proof.Machine
end

section
/-! Blanking, the clock reference, foldback and talk. -/

namespace Sys2Proof.Proofs

open Sys2Proof.Machine

/-- Settles O50: the two tables of R116, and the end of a ramp by its position. -/
theorem blankingTaken : Obligations.BlankingTaken := by
  unfold Obligations.BlankingTaken
  refine ⟨fun l tag b s hs => ?_, fun s o hrun => ?_⟩
  · have hs49 : Serves l 0x49 s := hs.of_permitted (by cases l <;> decide)
    refine ⟨fun hbad => ⟨next_serve_of_serves hs tag (blankingBody_badField hbad),
      next_serve_of_serves hs49 tag (blankingBody_badField hbad)⟩, fun o ho => ⟨fun hl hclass => ?_,
      fun hclass old new code pos hold hcode hpos => ?_⟩⟩
    · have refused : monitorRefused l o (reloadPresence l s) = true := by
        rw [monitorRefused_reloadPresence]
        exact (monitorRefused_iff l o s).mpr ⟨hl, hclass⟩
      exact ⟨next_serve_of_serves hs tag (blankingBody_notPermitted ho refused),
        next_serve_of_serves hs49 tag (blankingBody_notPermitted ho refused)⟩
    · have taken : monitorRefused l o (reloadPresence l s) = false := by
        rw [monitorRefused_reloadPresence]
        exact monitorRefused_eq_false hclass
      have stands : (reloadPresence l s).mix.blanking[o] = old := by rw [reloadPresence_mix]; exact hold
      have written : setBlanking o new (reloadPresence l s) =
          { reloadPresence l s with mix := { s.mix with blanking := s.mix.blanking.set o new } } := by
        rw [setBlanking, reloadPresence_mix]
      rw [hcode, hpos, ← written]
      exact ⟨fun h => next_serve_of_serves hs tag (blankingBody_taken ho taken stands (Blanking.close_eq h)),
        fun h => next_serve_of_serves hs49 tag (blankingBody_taken ho taken stands (Blanking.reopen_eq h))⟩
  · have ended : exec (.blankingRampEnd o) s = .next (setBlanking o (s.mix.blanking[o]).ended s) := by
      rw [exec, execBlankingRampEnd, occur_running _ _ hrun]
    have stands : (s.mix.blanking[o]).ended = s.mix.blanking[o] → exec (.blankingRampEnd o) s = .next s := fun h => by
      rw [ended, h, setBlanking_self]
    refine ⟨fun c hc => ⟨fun hend => ?_, fun hramp => stands ?_⟩, fun p hp => ⟨fun hend => ?_, fun hramp => stands ?_⟩,
      fun h => stands ?_⟩
    · rw [ended, hc, Blanking.ended, if_pos (show Config.rampFrames ≤ c from hend), setBlanking]
    · rw [hc]
      exact if_neg (Nat.not_le.mpr hramp)
    · rw [ended, hp, Blanking.ended, if_pos (show Config.rampFrames ≤ p from hend), setBlanking]
    · rw [hp]
      exact if_neg (Nat.not_le.mpr hramp)
    · rcases h with h | h <;> rw [h] <;> rfl

/-- Settles O51: each command applies one function of the clock reference, by its state. -/
theorem referenceTable : Obligations.ReferenceTable := by
  unfold Obligations.ReferenceTable
  rintro s _ hrun rfl
  have unchanged : ∀ {f : ClockRef → ClockRef} {u : State}, f u.mix.clock = u.mix.clock → modifyClock f u = u :=
    fun h => by rw [modifyClock, h]
  refine ⟨fun tag b hs => ⟨fun hb hstate => ?_, fun hb hstate => ?_, fun hb hstate => ?_, fun hb hstate => ?_,
    fun hb => ?_⟩, fun rate => ⟨fun hlocked => ?_, fun hother => ?_⟩, fun hpresent hqualified hstate => ?_,
    fun hnot => ?_, fun habsent => ?_, fun hpresent => ?_⟩
  · subst hb
    refine next_serve_of_serves hs tag ?_
    have stays : modifyClock ClockRef.internal (reloadPresence .console s) = reloadPresence .console s :=
      unchanged (by rw [reloadPresence_mix, ClockRef.internal, hstate])
    show acceptWith _ _ = _
    rw [stays, reloadPresence_mix, hstate]
    rfl
  · subst hb
    refine next_serve_of_serves hs tag ?_
    have moves : (s.mix.clock).internal = { s.mix.clock with state := .internal, qualified := 0, holdRate := none } := by
      unfold ClockRef.internal
      split
      · next h => exact absurd h hstate
      · rfl
    show acceptWith _ _ = _
    rw [modifyClock, reloadPresence_mix, moves]
    rfl
  · subst hb
    refine next_serve_of_serves hs tag ?_
    show acceptWith _ _ = _
    rw [modifyClock, reloadPresence_mix, ClockRef.external, hstate]
    rfl
  · subst hb
    refine next_serve_of_serves hs tag ?_
    have stays : modifyClock ClockRef.external (reloadPresence .console s) = reloadPresence .console s :=
      unchanged (by
        rw [reloadPresence_mix, ClockRef.external]
        split
        · next h => exact absurd h hstate
        · rfl)
    show acceptWith _ _ = _
    rw [stays, reloadPresence_mix]
    rfl
  · refine next_serve_of_serves hs tag ?_
    unfold setReferenceBody
    split
    · omega
    · omega
    · rfl
  · rw [exec, execReferenceLost, occur_running _ _ hrun, loseReference]
    dsimp only
    rw [if_pos hlocked, modifyClock, ClockRef.lost, hlocked]
  · have moves : (s.mix.clock).lost rate = { s.mix.clock with present := false, qualified := 0 } := by
      unfold ClockRef.lost
      split
      · next h => exact absurd h hother
      · rfl
    rw [exec, execReferenceLost, occur_running _ _ hrun, loseReference]
    dsimp only
    rw [if_neg hother, modifyClock, moves]
  · have lockable : s.mix.clock.lockable = true := by
      rcases hstate with h | h <;> simp [ClockRef.lockable, hpresent, h, Config.lockMs, hqualified]
    rw [exec, execLockAchieved, occur_running _ _ hrun, achieveLock, if_pos lockable, modifyClock, ClockRef.lock]
  · have lockable : ¬ s.mix.clock.lockable = true := by
      rcases hnot with h | h | h | h
      · simp [ClockRef.lockable, h]
      · simp [ClockRef.lockable, Config.lockMs, Nat.not_le.mpr h]
      · simp [ClockRef.lockable, h]
      · simp [ClockRef.lockable, h]
    rw [exec, execLockAchieved, occur_running _ _ hrun, achieveLock, if_neg lockable]
  · rw [exec, execReferencePresentAndInRange, occur_running _ _ hrun, modifyClock, ClockRef.found, if_neg (by simp [habsent])]
  · rw [exec, execReferencePresentAndInRange, occur_running _ _ hrun, unchanged (by rw [ClockRef.found, if_pos hpresent])]

/-- Settles O54: the checks of each request in order, and the talk gate by what is left of it. -/
theorem foldbackAndTalk : Obligations.FoldbackAndTalk := by
  unfold Obligations.FoldbackAndTalk
  refine ⟨fun s hrun => ⟨fun hleft => ?_, fun k hk hout => ?_⟩, fun l tag s hs => ?_⟩
  · rw [exec, execTalkGateExpiry, occur_running _ _ hrun, expireTalk]
    cases hk : s.foldback.talk with
    | none => rfl
    | some k =>
      dsimp only
      rw [if_neg (hleft k hk).ne']
  · rw [exec, execTalkGateExpiry, occur_running _ _ hrun, expireTalk, hk]
    dsimp only
    rw [if_pos hout, endTalk_some hk]
  have hs51 : Serves l 0x51 s := hs.of_permitted (by cases l <;> decide)
  have hs52 : Serves l 0x52 s := hs.of_permitted (by cases l <;> decide)
  refine ⟨fun output mode main h => next_serve_of_serves hs tag (setFollowBody_badField _ h),
    fun source output offset h => next_serve_of_serves hs51 tag (setOffsetBody_badField _ _ h),
    fun output ceiling h => next_serve_of_serves hs52 tag (by rw [setCeilingBody, index?_of_le h, refuse]),
    fun output mode main o m ho hm => ⟨fun hclass => next_serve_of_serves hs tag ?_,
      fun n hclass hmode hmain => next_serve_of_serves hs tag ?_,
      fun hclass hmain => next_serve_of_serves hs tag ?_⟩,
    fun source output offset i o x hi ho hx => ⟨fun hclass => next_serve_of_serves hs51 tag ?_,
      fun hclass => next_serve_of_serves hs51 tag ?_⟩,
    fun output ceiling o x ho hx => ⟨fun hclass => next_serve_of_serves hs52 tag ?_,
      fun hclass => next_serve_of_serves hs52 tag ?_⟩,
    fun input set level hs53 => ⟨fun hstopped => next_serve_of_serves hs53 tag ?_,
      fun hshow hbad => next_serve_of_serves hs53 tag ?_,
      fun i hshow hi hset => ⟨fun o ho hclass hbelow => next_serve_of_serves hs53 tag ?_,
        fun x hall hx => next_serve_of_serves hs53 tag ?_⟩⟩,
    fun hs54 => ⟨fun hoff => next_serve_of_serves hs54 tag ?_, fun k hk => next_serve_of_serves hs54 tag ?_⟩⟩
  · simp [setFollowBody, index?_of_val ho, modeOf_eq hm, modeFault_notFoldback hclass, refuse]
  · simp [setFollowBody, index?_of_val ho, modeOf_eq hm, hmode, modeFault_notMain hclass hmain, refuse]
  · simp [setFollowBody, index?_of_val ho, modeOf_eq hm, modeFault_none hclass hmain, acceptWith, setMode]
  · have other : ¬ s.mix.classes[o.val] = .foldback := hclass
    simp [setOffsetBody, index?_of_val ho, index?_of_val hi, other, refuse]
  · have clamp : clampNumeric (-240) 120 (levelOfBits offset) = x := by
      rw [clampNumeric_levelOfBits (by decide) (by decide), hx]
    simp [setOffsetBody, index?_of_val ho, index?_of_val hi, hclass, clamp, acceptWith, setOffset]
  · have other : ¬ s.mix.classes[o.val] = .foldback := hclass
    simp [setCeilingBody, index?_of_val ho, other, refuse]
  · have clamp : clampNumeric (-200) 0 (levelOfBits ceiling) = x := by
      rw [clampNumeric_levelOfBits (by decide) (by decide), hx]
    simp [setCeilingBody, index?_of_val ho, hclass, clamp, acceptWith, setCeiling]
  · simp [talkOnBody, hstopped, refuse]
  · rcases hbad with h | h
    · simp [talkOnBody, hshow, index?_of_le h, refuse]
    · cases hi : index? 16 input.toNat <;> simp [talkOnBody, hshow, hi, h, refuse]
  · have first : firstNotFoldback set s = some o :=
      find?_members ho (by simpa using hclass) fun q hq hset => by simpa using hbelow q hq hset
    have nonempty : ¬ set = 0#32 := hset
    simp [talkOnBody, hshow, index?_of_val hi, nonempty, first]
  · have clamp : clampNumeric (-300) 60 (levelOfBits level) = x := by
      rw [clampNumeric_levelOfBits (by decide) (by decide), hx]
    have none_first : firstNotFoldback set s = none := find?_members_none fun o ho => by simpa using hall o ho
    have nonempty : ¬ set = 0#32 := hset
    simp [talkOnBody, hshow, index?_of_val hi, nonempty, none_first, clamp, acceptWith, loadedGate]
  · have off : (reloadPresence l s).foldback.talk = none := by rw [reloadPresence_foldback]; exact hoff
    rw [endTalk_none off, off]
    rfl
  · have on : (reloadPresence l s).foldback.talk = some k := by rw [reloadPresence_foldback]; exact hk
    rw [endTalk_some on, on, reloadPresence_foldback]
    simp [acceptWith, flag, u8]

end Sys2Proof.Proofs
end

section
/-! SUPPORT. The leveler window, the four cases of a level control, the arbiter and the port, and device reset. -/

namespace Sys2Proof.Machine

/-! ### The relay settings and the leveler window (R141 to R143) -/

/-- The end of a window for one zone, with its clamp written out (R143). -/
theorem judged_eq (v : Leveler) (s : State) (zn : Zone) :
    zn.judged v (zoneHeld s zn) =
      if zn.duck < 0 ∨ s.showStop.state ≠ .normal then { zn with peak := 0 }
      else { zn with peak := 0, leveler := max (-200) (min 100 (zn.leveler +
        if magnitudeOf (v.target + 60) < zn.peak then -v.leap
        else if magnitudeOf v.target < zn.peak then -v.down
        else if magnitudeOf v.gate < zn.peak then v.up
        else 0)) } := by
  by_cases h : zn.duck < 0 ∨ s.showStop.state ≠ .normal
  · have held : zoneHeld s zn = true := by simpa [zoneHeld] using h
    rw [if_pos h, Zone.judged, if_pos held]
  · have free : ¬ zoneHeld s zn = true := by simpa [zoneHeld] using h
    rw [if_neg h, Zone.judged, if_neg free, clampInt_eq (by decide), levelerStep]

/-! ### Level controls (R92, R93, R99, R100) -/

/-- A level field clamped to −960..+100 or OFF (R90, R178). -/
theorem clampLevel_levelOfBits (b : Half) : clampLevel (-960) 100 (levelOfBits b) =
    if b = 0x8000#16 then .off else .db (max (-960) (min 100 b.toInt)) := by
  unfold levelOfBits
  split
  · rfl
  · rw [clampLevel, clampInt_eq (by decide)]

@[simp] theorem getLevel_reloadPresence (T : FadeTarget) (l : Role) (s : State) :
    getLevel T (reloadPresence l s) = getLevel T s := by
  cases T <;> simp [getLevel]

@[simp] theorem fadeFor_reloadPresence (T : FadeTarget) (l : Role) (s : State) :
    fadeFor T (reloadPresence l s) = fadeFor T s := by
  simp [fadeFor]

/-- The post of a level control of a link (R99, R100). -/
def controlPost (T : FadeTarget) (g : Level) (n : Nat) (l : Role) : Post :=
  { target := T, goal := g, time := n, action := .nothing, poster := .link l }

section Posts

variable {p : Post} {s : State}

theorem postFade_atOnce (h : p.time = 0) : postFade p s =
    (reportTarget p.target (completeAtOnce p (removeFade p.target (setLevel p.target p.goal s))), .setAtOnce) := by
  rw [postFade, if_pos h]

theorem postFade_takenOver (ht : p.time ≠ 0) (hf : (fadeFor p.target s).isSome = true) : postFade p s =
    ({ s with fades := s.fades.map fun e => if e.target = p.target then p.entry s else e }, .takenOver) := by
  rw [postFade, if_neg ht, if_pos hf]
  simp only [beq_iff_eq]

theorem postFade_posted (ht : p.time ≠ 0) (hf : fadeFor p.target s = none) (hroom : s.fades.length < 256) :
    postFade p s = ({ s with fades := s.fades ++ [p.entry s] }, .posted) := by
  rw [postFade, if_neg ht, if_neg (by simp [hf]), if_pos (show _ < Config.maxFades from hroom)]

theorem postFade_snapped (ht : p.time ≠ 0) (hf : fadeFor p.target s = none) (hfull : 256 ≤ s.fades.length) :
    postFade p s = (snapFade p s, .snapped) := by
  rw [postFade, if_neg ht, if_neg (by simp [hf]), if_neg (show ¬ _ < Config.maxFades from Nat.not_lt.mpr hfull)]

/-- A post of no completion action, whose target has no report, that finds the list full (R93). -/
theorem snapFade_plain (ha : p.action = .nothing) (hr : p.target ≠ .stopMute) :
    snapFade p s = raise p.overflow (setLevel p.target p.goal s) := by
  have unreported : ∀ u, reportTarget p.target u = u := fun u => by
    cases hT : p.target <;> first | rfl | exact absurd hT hr
  rw [snapFade, if_neg (by simp [ha]), unreported, completeAtOnce, ha]

/-- A post of no completion action and time 0, whose target has no report (R92). -/
theorem postFade_atOnce_plain (h : p.time = 0) (ha : p.action = .nothing) (hr : p.target ≠ .stopMute) :
    postFade p s = (removeFade p.target (setLevel p.target p.goal s), .setAtOnce) := by
  have unreported : ∀ u, reportTarget p.target u = u := fun u => by
    cases hT : p.target <;> first | rfl | exact absurd hT hr
  rw [postFade_atOnce h, unreported, completeAtOnce, ha]

end Posts

section Controls

variable {T : FadeTarget} {g : Level} {n : Nat} {l : Role} {s : State}

theorem acceptFade_atOnce (hn : n = 0) (hT : T ≠ .stopMute) : acceptFade (controlPost T g n l) s =
    (removeFade T (setLevel T g s), ⟨.accepted, lv g ++ u32 n ++ u8 0⟩) := by
  rw [acceptFade, postFade_atOnce_plain (by exact hn) rfl (by exact hT)]
  rfl

/-- The entry of a level control. -/
theorem controlPost_entry : (controlPost T g n l).entry s = {
    target := T, start := getLevel T s, goal := g, n := n, k := 0, due := false, action := .nothing,
    poster := .link l } := rfl

theorem acceptFade_takenOver (hn : 0 < n) (hf : (fadeFor T s).isSome = true) : acceptFade (controlPost T g n l) s =
    ({ s with fades := s.fades.map fun f => if f.target = T then (controlPost T g n l).entry s else f },
      ⟨.accepted, lv g ++ u32 n ++ u8 1⟩) := by
  rw [acceptFade, postFade_takenOver (by exact hn.ne') (by exact hf)]
  rfl

theorem acceptFade_posted (hn : 0 < n) (hf : fadeFor T s = none) (hroom : s.fades.length < 256) :
    acceptFade (controlPost T g n l) s =
      ({ s with fades := s.fades ++ [(controlPost T g n l).entry s] }, ⟨.accepted, lv g ++ u32 n ++ u8 2⟩) := by
  rw [acceptFade, postFade_posted (by exact hn.ne') (by exact hf) hroom]
  rfl

theorem acceptFade_snapped (hn : 0 < n) (hT : T ≠ .stopMute) (hf : fadeFor T s = none) (hfull : 256 ≤ s.fades.length) :
    acceptFade (controlPost T g n l) s =
      (raise (controlPost T g n l).overflow (setLevel T g s), ⟨.accepted, lv g ++ u32 n ++ u8 3⟩) := by
  rw [acceptFade, postFade_snapped (by exact hn.ne') (by exact hf) hfull, snapFade_plain rfl (by exact hT)]
  rfl

end Controls

/-! ### The arbiter (R4) -/

@[simp] theorem mem_voiceNos (v : VoiceNo) : v ∈ voiceNos := List.mem_finRange v

theorem mem_waitingVoices (v : VoiceNo) (s : State) : v ∈ waitingVoices s ↔ (s.voice v).fetch = .waiting := by
  simp [waitingVoices]

/-- A candidate is a waiting voice that is URGENT, or any waiting voice where none is (R4). -/
theorem mem_candidates (v : VoiceNo) (s : State) : v ∈ candidates s ↔
    (s.voice v).fetch = .waiting ∧
      ((s.voice v).urgent = true ∨ ∀ w, (s.voice w).fetch = .waiting → (s.voice w).urgent = false) := by
  unfold candidates
  split
  · next hnone =>
    have calm : ∀ w, (s.voice w).fetch = .waiting → (s.voice w).urgent = false := fun w hw => by
      simpa using List.filter_eq_nil_iff.mp hnone w ((mem_waitingVoices w s).mpr hw)
    rw [mem_waitingVoices]
    exact ⟨fun h => ⟨h, .inr calm⟩, fun h => h.1⟩
  · next hsome =>
    obtain ⟨w, hw⟩ := List.exists_mem_of_ne_nil _ hsome
    obtain ⟨hw, hurgent⟩ := List.mem_filter.mp hw
    rw [List.mem_filter, mem_waitingVoices]
    refine and_congr_right fun _ => ⟨.inl, fun h => h.resolve_right fun calm => ?_⟩
    rw [calm w ((mem_waitingVoices w s).mp hw)] at hurgent
    cases hurgent

theorem foldl_max_ge {α : Type} (f : α → Nat) (as : List α) (m : Nat) : m ≤ as.foldl (fun m a => max m (f a)) m := by
  induction as generalizing m with
  | nil => exact Nat.le_refl m
  | cons a as ih => exact (Nat.le_max_left _ _).trans (ih _)

theorem le_foldl_max {α : Type} (f : α → Nat) {as : List α} {a : α} (ha : a ∈ as) (m : Nat) :
    f a ≤ as.foldl (fun m a => max m (f a)) m := by
  induction as generalizing m with
  | nil => cases ha
  | cons b as ih =>
    rcases List.mem_cons.mp ha with rfl | ha
    · exact (Nat.le_max_right _ _).trans (foldl_max_ge f as _)
    · exact ih ha _

theorem foldl_max_mem {α : Type} (f : α → Nat) (as : List α) (m : Nat) :
    as.foldl (fun m a => max m (f a)) m = m ∨ ∃ a ∈ as, as.foldl (fun m a => max m (f a)) m = f a := by
  induction as generalizing m with
  | nil => exact .inl rfl
  | cons b as ih =>
    rcases ih (max m (f b)) with h | ⟨a, ha, h⟩
    · rcases Nat.le_total m (f b) with hle | hle
      · exact .inr ⟨b, .head _, by rw [List.foldl_cons, h, Nat.max_eq_right hle]⟩
      · exact .inl (by rw [List.foldl_cons, h, Nat.max_eq_left hle])
    · exact .inr ⟨a, .tail _ ha, h⟩

/-- The voice at a place of the rotation has that rank (R4). -/
theorem rotationRank_add (last k : VoiceNo) : rotationRank last (last + 1 + k) = k.val := by
  rw [rotationRank, Fin.val_add, Fin.val_add]
  have one : (1 : VoiceNo).val = 1 := rfl
  omega

theorem mem_rotation (last v : VoiceNo) : v ∈ rotation last := by
  refine List.mem_map.mpr ⟨v - (last + 1), mem_voiceNos _, ?_⟩
  rw [add_sub_cancel]

/-- The rotation lists the voices by their rank. -/
theorem pairwise_rotation (last : VoiceNo) :
    (rotation last).Pairwise fun v w => rotationRank last v < rotationRank last w := by
  rw [rotation, List.pairwise_map]
  refine (List.pairwise_lt_finRange 32).imp fun {a b} hab => ?_
  rw [rotationRank_add, rotationRank_add]
  exact hab

/-- An element found in a list that a relation orders comes before every other that the test passes. -/
theorem find?_first {α : Type} {R : α → α → Prop} {as : List α} {p : α → Bool} {a : α} (hpair : as.Pairwise R)
    (hfind : as.find? p = some a) {b : α} (hb : b ∈ as) (hpb : p b = true) (hne : b ≠ a) : R a b := by
  induction hpair with
  | nil => cases hb
  | @cons c as hc _ ih =>
    by_cases hpc : p c = true
    · rw [List.find?_cons_of_pos hpc] at hfind
      obtain rfl := Option.some.inj hfind
      exact hc b ((List.mem_cons.mp hb).resolve_left hne)
    · rw [List.find?_cons_of_neg hpc] at hfind
      rcases List.mem_cons.mp hb with rfl | hb
      · exact absurd hpb hpc
      · exact ih hfind hb

/-- The winner waits and is served before every other waiting voice (R4). -/
theorem winner_servedBefore {s : State} {v : VoiceNo} (h : winner s = some v) :
    (s.voice v).fetch = .waiting ∧ ∀ w, w ≠ v → (s.voice w).fetch = .waiting → ServedBefore s v w := by
  have hv := List.find?_some h
  simp only [Bool.and_eq_true, List.contains_iff_mem, beq_iff_eq] at hv
  obtain ⟨hcand, htop⟩ := hv
  obtain ⟨hwaiting, hurgent⟩ := (mem_candidates v s).mp hcand
  refine ⟨hwaiting, fun w hne hw => ?_⟩
  by_cases hwcand : w ∈ candidates s
  · have urgent_eq : (s.voice v).urgent = (s.voice w).urgent := by
      rcases hurgent with hu | calm
      · rcases ((mem_candidates w s).mp hwcand).2 with hu' | calm
        · rw [hu, hu']
        · rw [calm v hwaiting] at hu
          cases hu
      · rw [calm v hwaiting, calm w hw]
    have hle : (s.voice w).priority ≤ (s.voice v).priority := by
      rw [htop]
      exact le_foldl_max (fun u => (s.voice u).priority) hwcand 0
    rcases Nat.lt_or_eq_of_le hle with hlt | heq
    · exact .inr ⟨urgent_eq, .inl hlt⟩
    · refine .inr ⟨urgent_eq, .inr ⟨heq.symm, ?_⟩⟩
      refine find?_first (pairwise_rotation s.smi.lastServed) h (mem_rotation _ w) ?_ hne
      simp [hwcand, heq, htop]
  · have wcalm : (s.voice w).urgent = false := by
      by_contra hu
      exact hwcand ((mem_candidates w s).mpr ⟨hw, .inl (by simpa using hu)⟩)
    have vurgent : (s.voice v).urgent = true := hurgent.resolve_right fun calm =>
      hwcand ((mem_candidates w s).mpr ⟨hw, .inr calm⟩)
    exact .inl ⟨vurgent, wcalm⟩

/-- A voice wins wherever one waits (R4). -/
theorem winner_isSome {s : State} {v : VoiceNo} (h : (s.voice v).fetch = .waiting) : (winner s).isSome = true := by
  obtain ⟨c, hc⟩ : ∃ c, c ∈ candidates s := by
    by_cases hu : ∃ w, (s.voice w).fetch = .waiting ∧ (s.voice w).urgent = true
    · obtain ⟨w, hw, hwu⟩ := hu
      exact ⟨w, (mem_candidates w s).mpr ⟨hw, .inl hwu⟩⟩
    · exact ⟨v, (mem_candidates v s).mpr ⟨h, .inr fun w hw => by
        by_contra hwu
        exact hu ⟨w, hw, by simpa using hwu⟩⟩⟩
  obtain ⟨w, hw, htop⟩ : ∃ w ∈ candidates s, (s.voice w).priority = topPriority s (candidates s) := by
    rcases foldl_max_mem (fun u => (s.voice u).priority) (candidates s) 0 with h0 | ⟨w, hw, htop⟩
    · refine ⟨c, hc, ?_⟩
      have := le_foldl_max (fun u => (s.voice u).priority) hc 0
      unfold topPriority
      omega
    · exact ⟨w, hw, htop.symm⟩
  rw [winner, List.find?_isSome]
  exact ⟨w, mem_rotation _ w, by simp [hw, htop]⟩

/-- No voice is served before one that is served before it. -/
theorem ServedBefore.asymm {s : State} {v w : VoiceNo} (h : ServedBefore s v w) : ¬ ServedBefore s w v := by
  rintro (⟨hw, hv⟩ | ⟨hu, hw⟩)
  · rcases h with ⟨hv', hw'⟩ | ⟨hu, _⟩
    · rw [hv] at hv'
      cases hv'
    · rw [hv, hw] at hu
      cases hu
  · rcases h with ⟨hv', hw'⟩ | ⟨_, hv⟩
    · rw [hv', hw'] at hu
      cases hu
    · omega

/-- The winner is the voice that is served before every other waiting one. -/
theorem winner_eq {s : State} {v : VoiceNo} (hv : (s.voice v).fetch = .waiting)
    (hbefore : ∀ w, w ≠ v → (s.voice w).fetch = .waiting → ServedBefore s v w) : winner s = some v := by
  obtain ⟨w, hw⟩ := Option.isSome_iff_exists.mp (winner_isSome hv)
  obtain ⟨hwaiting, hbefore'⟩ := winner_servedBefore hw
  by_cases hne : w = v
  · rw [hw, hne]
  · exact absurd (hbefore' v (fun e => hne e.symm) hv) (hbefore w hne hwaiting).asymm

theorem winner_none {s : State} (h : ∀ v, (s.voice v).fetch ≠ .waiting) : winner s = none := by
  by_contra hsome
  obtain ⟨v, hv⟩ := Option.ne_none_iff_exists'.mp hsome
  exact h v (winner_servedBefore hv).1

end Sys2Proof.Machine
end

section
/-! The relay settings, the level controls, the port and device reset. -/

namespace Sys2Proof.Proofs

open Sys2Proof.Machine

/-- Settles O55: the clamps of the three settings, and the window by its 4,800 frames. -/
theorem relaySettingsAndWindow : Obligations.RelaySettingsAndWindow := by
  unfold Obligations.RelaySettingsAndWindow
  refine ⟨fun l tag s => ⟨fun p v hs hv => next_serve_of_serves hs tag ?_,
    fun a r m n hs hm hn => next_serve_of_serves hs tag ?_,
    fun threshold seconds x n hx hn hs => next_serve_of_serves hs tag ?_⟩, fun s hrun => ⟨fun hshort => ?_, fun hlong => ?_⟩⟩
  · have clamps : levelerOf p = v := by
      rw [levelerOf, clampNumeric_levelOfBits (by decide) (by decide), clampNumeric_levelOfBits (by decide) (by decide),
        clampNumeric_levelOfBits (by decide) (by decide), clampNumeric_levelOfBits (by decide) (by decide),
        clampNumeric_levelOfBits (by decide) (by decide), hv]
    rw [clamps, reloadPresence_relay]
    rfl
  · have attack : clampNat 0 2000 a.toNat = m := by rw [clampNat_eq (by decide)]; omega
    have release : clampNat 0 5000 r.toNat = n := by rw [clampNat_eq (by decide)]; omega
    dsimp only
    rw [attack, release, reloadPresence_relay]
    rfl
  · have level : clampNumeric (-600) (-200) (levelOfBits threshold) = x := by
      rw [clampNumeric_levelOfBits (by decide) (by decide), hx]
    have time : clampNat 2 60 seconds.toNat = n := by rw [clampNat_eq (by decide), hn]
    dsimp only
    rw [level, time, reloadPresence_relay]
    rfl
  · rw [exec, execWindowEnd, occur_running _ _ hrun, endWindow, if_neg (show ¬ Config.windowFrames ≤ _ from Nat.not_le.mpr hshort)]
  · rw [exec, execWindowEnd, occur_running _ _ hrun, endWindow, if_pos (show Config.windowFrames ≤ _ from hlong)]
    simp only [judged_eq, Config.windowFrames]

/-- Settles O47: the checks of the two requests, and the four cases of a post of no completion action. -/
theorem levelControls : Obligations.LevelControls := by
  unfold Obligations.LevelControls
  refine ⟨fun l tag source output level time s hstate => ⟨fun hs hbad => next_serve_of_serves hs tag ?_,
    fun hs hbad => next_serve_of_serves hs tag ?_⟩, ?_⟩
  · have idle : ¬ (reloadPresence l s).store.state = .loading := by rw [reloadPresence_store]; exact hstate
    rw [setLevelBody, if_neg idle]
    rcases hbad with h | h
    · rw [index?_of_le h]
      rfl
    · rw [index?_of_le h]
      cases index? 40 source.toNat <;> rfl
  · have idle : ¬ (reloadPresence l s).store.state = .loading := by rw [reloadPresence_store]; exact hstate
    rw [setTrimBody, if_neg idle, index?_of_le hbad]
    rfl
  intro l tag source output level time s c code T o put hs hc
  obtain ⟨body, hexec, hbody⟩ : ∃ body : State → State × Reply, exec c s = .next (serve l code tag body s) ∧
      ∀ u, body u = if u.store.state = .loading then refuse .loading u
        else if monitorRefused l o u then refuse .notPermitted u
        else acceptFade (controlPost T (clampLevel (-960) 100 (levelOfBits level)) (clampTime time) l) u := by
    rcases hc with ⟨rfl, rfl, i, hi, ho, rfl, -⟩ | ⟨rfl, rfl, ho, rfl, -⟩
    · refine ⟨setLevelBody l source output level time, rfl, fun u => ?_⟩
      rw [setLevelBody, index?_of_val hi, index?_of_val ho]
      rfl
    · refine ⟨setTrimBody l output level time, rfl, fun u => ?_⟩
      rw [setTrimBody, index?_of_val ho]
      rfl
  obtain ⟨hput, hnotMute⟩ : (∀ g u, setLevel T g u = put g u) ∧ T ≠ .stopMute := by
    rcases hc with ⟨-, -, i, -, -, rfl, rfl⟩ | ⟨-, -, -, rfl, rfl⟩
    · exact ⟨fun _ _ => rfl, FadeTarget.noConfusion⟩
    · exact ⟨fun _ _ => rfl, FadeTarget.noConfusion⟩
  rw [hexec]
  refine ⟨fun hloading => next_serve_of_serves hs tag ?_, fun hidle => ⟨fun hl hclass => next_serve_of_serves hs tag ?_,
    fun g n hclass hoff hdb hn => ?_⟩⟩
  · rw [hbody, if_pos (by rw [reloadPresence_store]; exact hloading), refuse]
  · rw [hbody, if_neg (by rw [reloadPresence_store]; exact hidle), monitorRefused_reloadPresence,
      if_pos ((monitorRefused_iff l o s).mpr ⟨hl, hclass⟩), refuse]
  have goal : clampLevel (-960) 100 (levelOfBits level) = g := by
    rw [clampLevel_levelOfBits]
    by_cases h : level = 0x8000#16
    · rw [if_pos h, hoff h]
    · rw [if_neg h, hdb h]
  have taken : body (reloadPresence l s) = acceptFade (controlPost T g n l) (reloadPresence l s) := by
    rw [hbody, if_neg (by rw [reloadPresence_store]; exact hidle), monitorRefused_reloadPresence,
      if_neg (by simp [monitorRefused_eq_false hclass]), goal, clampTime_eq, ← hn]
  refine ⟨fun h0 => next_serve_of_serves hs tag ?_, fun e hpos he => ⟨fun hfade => next_serve_of_serves hs tag ?_,
    fun hfade hroom => next_serve_of_serves hs tag ?_, fun hfade hfull => next_serve_of_serves hs tag ?_⟩⟩
  · have kept : (put g (reloadPresence l s)).fades = s.fades := by
      rw [← hput]
      rcases hc with ⟨-, -, i, -, -, rfl, -⟩ | ⟨-, -, -, rfl, -⟩ <;> simp [setLevel]
    rw [taken, acceptFade_atOnce h0 hnotMute, hput, removeFade, kept]
  · rw [taken, acceptFade_takenOver hpos (by rw [fadeFor_reloadPresence]; exact hfade), controlPost_entry,
      getLevel_reloadPresence, ← he, reloadPresence_fades]
  · rw [taken, acceptFade_posted hpos (by rw [fadeFor_reloadPresence]; exact hfade)
      (by rw [reloadPresence_fades]; exact hroom), controlPost_entry, getLevel_reloadPresence, ← he,
      reloadPresence_fades]
  · rw [taken, acceptFade_snapped hpos hnotMute (by rw [fadeFor_reloadPresence]; exact hfade)
      (by rw [reloadPresence_fades]; exact hfull), hput]
    rfl

/-- Settles O31: the winner is served before every other waiting voice, and that voice alone can win. -/
theorem arbiterPicks : Obligations.ArbiterPicks := by
  unfold Obligations.ArbiterPicks
  intro s hrun
  have arbitrates : exec .arbitrate s = .next (arbitrate s) := by rw [exec, execArbitrate, occur_running _ _ hrun]
  rw [arbitrates]
  refine ⟨fun hport => by rw [arbitrate, if_neg hport], fun hidle => ⟨fun hheld => ?_, fun hfree => ⟨?_, ?_, ?_⟩⟩⟩
  · rw [arbitrate, if_pos hidle, if_pos hheld]
    rfl
  · rintro v x reg rfl hreg hwaiting hbefore
    rw [arbitrate, if_pos hidle, if_neg (by simp [hfree]), winner_eq hwaiting hbefore]
    dsimp only
    have region : regionAt s (s.voice v).region = reg := by
      rw [regionAt, List.getD_eq_getElem?_getD, hreg, Option.getD_some]
    rw [startVoiceFetch, region]
    rfl
  · rintro ⟨v, hv⟩
    obtain ⟨w, hw⟩ := Option.isSome_iff_exists.mp (winner_isSome hv)
    exact ⟨w, winner_servedBefore hw⟩
  · intro hnone
    have idles : arbitrate s = if loadMember s then startLoadRead s else s := by
      rw [arbitrate, if_pos hidle, if_neg (by simp [hfree]), winner_none hnone]
    rw [idles]
    refine ⟨fun ld hld hremaining => ?_, fun hdone => ?_⟩
    · have member : loadMember s = true := by simp [loadMember, hld, hremaining, loadReadInFlight, hidle]
      rw [if_pos member, startLoadRead, hld]
      rfl
    · have member : ¬ loadMember s = true := by
        unfold loadMember
        split
        · next ld hld => simp [hdone ld hld]
        · simp
      rw [if_neg member]

/-- Settles O32: each row by the state of the port. -/
theorem portLines : Obligations.PortLines := by
  unfold Obligations.PortLines
  intro s hrun
  refine ⟨fun hidle => ?_, fun hbusy => ?_, fun hheld => ?_, fun hfree => ?_, fun t ht hacc => ⟨?_, ?_⟩,
    fun htransfer => ?_⟩
  · rw [exec, execMhreqAsserted, occur_running _ _ hrun, requestHold, hidle]
    rfl
  · rw [exec, execMhreqAsserted, occur_running _ _ hrun, requestHold]
    split
    · next h => exact absurd h hbusy
    · rfl
  · rw [exec, execMhend, occur_running _ _ hrun, releaseHold, hheld, exec, execArbitrate, occur_running _ _ (by exact hrun)]
    rfl
  · rw [exec, execMhend, occur_running _ _ hrun, releaseHold]
    split
    · next h => exact absurd h hfree
    · rfl
  · rw [exec, execSmRdySeen, occur_running _ _ hrun, inAccess, ht]
    dsimp only
    rw [if_pos hacc, Transfer.settle]
    cases t.taccExpired <;> simp [hacc]
  · rw [exec, execTaccExpiry, occur_running _ _ hrun, inAccess, ht]
    dsimp only
    rw [if_pos hacc, Transfer.settle]
    cases t.ready <;> simp [hacc]
  · have untouched : ∀ f, inAccess f s = s := fun f => by
      unfold inAccess
      split
      · next t ht => rw [if_neg (by rw [htransfer t ht]; decide)]
      · rfl
    rw [exec, execSmRdySeen, occur_running _ _ hrun, exec, execTaccExpiry, occur_running _ _ hrun, untouched, untouched]
    exact ⟨rfl, rfl⟩

/-- Settles O34: a completed fetch by the voice's fetch state; the filled record is the one of R75 and R77. -/
theorem voiceFetchTaken : Obligations.VoiceFetchTaken := by
  unfold Obligations.VoiceFetchTaken
  rintro words s tr v x hrun hport huser rfl
  refine ⟨fun hacc => ?_, fun htransfer hlen => ⟨fun hother => ?_, fun y hflight hy => ?_⟩⟩
  · rw [exec, execVoiceFetchComplete, occur_running _ _ hrun, completeVoiceFetch, hport]
    dsimp only
    rw [if_neg (by simp [hacc])]
  · rw [exec, execVoiceFetchComplete, occur_running _ _ hrun, completeVoiceFetch, hport]
    dsimp only
    rw [if_pos ⟨htransfer, hlen⟩, huser]
    exact congrArg _ (if_neg hother)
  · have filled : (s.voice v).filled words = y := by
      rw [hy, Voice.filled, Voice.loopReturn]
      split <;> grind
    rw [exec, execVoiceFetchComplete, occur_running _ _ hrun, completeVoiceFetch, hport]
    dsimp only
    rw [if_pos ⟨htransfer, hlen⟩, huser]
    dsimp only
    rw [if_pos hflight, filled, exec, execDecoderRun, occur_running _ _ (by exact hrun)]
    rfl

end Sys2Proof.Proofs
end

section
/-! SUPPORT. What the operations of the running part leave exactly as it was. Stopping voices reaches voices, fades,
instances and tails; ending and starting calls reaches also the calls and zones; a cue's actions reach also the levels, the
foldback modes and the stop mute. `Within L` says so by a scope `L` of 0, 1 or 2. -/

namespace Sys2Proof.Machine

/-- The kinds of the records that stops and calls raise where no instance stands. -/
def EventKind.ofCalls (k : EventKind) : Prop := k = .fadeOverflow ∨ k = .callEnded ∨ k = .callStarted

/-- The scope of a fade target: the voices', the zones' or that of the remaining levels. -/
def targetScope : FadeTarget → Nat
  | .voice _ => 0
  | .duck _ => 1
  | _ => 2

/-- `t` came of `s` by operations of a scope: 0 for stops of voices, 1 for calls, 2 for everything that cues do. -/
structure Within (L : Nat) (s t : State) : Prop where
  smi : t.smi = s.smi
  store : t.store = s.store
  timing : t.timing = s.timing
  pending : t.pending = s.pending
  seq : t.seq = { s.seq with instances := t.seq.instances, nextId := t.seq.nextId }
  stream : t.stream = { s.stream with voices := t.stream.voices }
  mix : t.mix = { s.mix with xpts := t.mix.xpts, trims := t.mix.trims }
  foldback : t.foldback = { s.foldback with modes := t.foldback.modes }
  relay : t.relay = { s.relay with
    zones := t.relay.zones, waiting := t.relay.waiting, playing := t.relay.playing, tails := t.relay.tails,
    nextId := t.relay.nextId, arrivals := t.relay.arrivals }
  showStop : t.showStop = { s.showStop with state := t.showStop.state, mute := t.showStop.mute }
  outputs : t.relay.zones.map (fun zn => (zn.output, zn.leveler)) = s.relay.zones.map fun zn => (zn.output, zn.leveler)
  ended : L ≤ 1 → s.seq.instances = [] → t.seq.instances = []
  events : ∃ es : List Event, (L ≤ 1 → s.seq.instances = [] → ∀ e ∈ es, e.kind.ofCalls) ∧
    ∀ r, t.link r = (s.link r).receives s.timing.showClock es
  calls : L = 0 → t.relay = { s.relay with tails := t.relay.tails }
  levels : L ≤ 1 → t.mix = s.mix ∧ t.foldback = s.foldback ∧ t.showStop = s.showStop
  ids : L ≤ 1 → t.seq.nextId = s.seq.nextId

namespace Within

variable {L : Nat} {s t u : State}

theorem refl (L : Nat) (s : State) : Within L s s where
  smi := rfl
  store := rfl
  timing := rfl
  pending := rfl
  seq := rfl
  stream := rfl
  mix := rfl
  foldback := rfl
  relay := rfl
  showStop := rfl
  outputs := rfl
  ended _ h := h
  events := ⟨[], fun _ _ _ he => absurd he List.not_mem_nil, fun _ => rfl⟩
  calls _ := rfl
  levels _ := ⟨rfl, rfl, rfl⟩
  ids _ := rfl

theorem trans (h : Within L s t) (g : Within L t u) : Within L s u where
  smi := g.smi.trans h.smi
  store := g.store.trans h.store
  timing := g.timing.trans h.timing
  pending := g.pending.trans h.pending
  seq := g.seq.trans (by rw [h.seq])
  stream := g.stream.trans (by rw [h.stream])
  mix := g.mix.trans (by rw [h.mix])
  foldback := g.foldback.trans (by rw [h.foldback])
  relay := g.relay.trans (by rw [h.relay])
  showStop := g.showStop.trans (by rw [h.showStop])
  outputs := g.outputs.trans h.outputs
  ended hL hs := g.ended hL (h.ended hL hs)
  events := by
    obtain ⟨es, hes, hs⟩ := h.events
    obtain ⟨fs, hfs, ht⟩ := g.events
    refine ⟨es ++ fs, fun hL hempty e he => ?_, fun r => ?_⟩
    · rcases List.mem_append.mp he with he | he
      · exact hes hL hempty e he
      · exact hfs hL (h.ended hL hempty) e he
    · rw [ht, hs, h.timing, Link.receives, Link.receives, Link.receives, List.foldl_append]
  calls hL := (g.calls hL).trans (by rw [h.calls hL])
  levels hL := ⟨(g.levels hL).1.trans (h.levels hL).1, (g.levels hL).2.1.trans (h.levels hL).2.1,
    (g.levels hL).2.2.trans (h.levels hL).2.2⟩
  ids hL := (g.ids hL).trans (h.ids hL)

theorem foldl {α : Type} {f : State → α → State} (hf : ∀ u a, Within L s u → Within L s (f u a)) (as : List α)
    (h : Within L s t) : Within L s (as.foldl f t) := by
  induction as generalizing t with
  | nil => exact h
  | cons a as ih => exact ih (hf _ a h)

/-! ### Writing one part of the state -/

theorem setVoice (h : Within L s t) {v : VoiceNo} {x : Voice} : Within L s (t.setVoice v x) := { h with
  stream := by rw [State.setVoice, h.stream] }

theorem writeFades (h : Within L s t) {fs : List FadeEntry} : Within L s { t with fades := fs } := { h with }

theorem writeTails (h : Within L s t) {tls : List Tail} :
    Within L s { t with relay := { t.relay with tails := tls } } := { h with
  relay := by rw [h.relay]
  calls := fun hL => by rw [h.calls hL] }

theorem writeCalls (h : Within L s t) (hL : 1 ≤ L) {ws ps : List Call} {tls : List Tail} {n a : Nat} :
    Within L s { t with relay :=
      { t.relay with waiting := ws, playing := ps, tails := tls, nextId := n, arrivals := a } } := { h with
  relay := by rw [h.relay]
  calls := fun h0 => by omega }

/-- A zone record may be written but for its output and its leveler gain. -/
theorem modifyZone (h : Within L s t) (hL : 1 ≤ L) {z : ZoneNo} {f : Zone → Zone}
    (hf : ∀ zn, ((f zn).output, (f zn).leveler) = (zn.output, zn.leveler) := by exact fun _ => rfl) :
    Within L s (t.modifyZone z f) := { h with
  relay := by rw [State.modifyZone, h.relay]
  outputs := by
    have kept : ∀ (n : Nat) (zs : List Zone),
        (zs.modify n f).map (fun zn => (zn.output, zn.leveler)) = zs.map fun zn => (zn.output, zn.leveler) := by
      intro n zs
      induction zs generalizing n with
      | nil => simp
      | cons zn zs ih => cases n <;> simp_all
    exact (kept _ _).trans h.outputs
  calls := fun h0 => by omega }

/-- An event may be raised that is of a stop or a call, or where an instance stood at first. -/
theorem raise_of (h : Within L s t) {e : Event} (he : L ≤ 1 → s.seq.instances = [] → e.kind.ofCalls) :
    Within L s (Machine.raise e t) := { h with
  events := by
    obtain ⟨es, hes, hs⟩ := h.events
    refine ⟨es ++ [e], fun hL hempty d hd => ?_, fun r => ?_⟩
    · rcases List.mem_append.mp hd with hd | hd
      · exact hes hL hempty d hd
      · rw [List.mem_singleton.mp hd]
        exact he hL hempty
    · rw [link_raise, hs, h.timing, Link.receives, Link.receives, List.foldl_append]
      rfl }

theorem raise (h : Within L s t) {e : Event} (he : L ≤ 1 → t.seq.instances = [] → e.kind.ofCalls) :
    Within L s (Machine.raise e t) :=
  h.raise_of fun hL hempty => he hL (h.ended hL hempty)

/-- Instances may be written where none arises of none. -/
theorem writeTable (h : Within L s t) {is : List CueInstance} {n : Nat}
    (his : L ≤ 1 → t.seq.instances = [] → is = []) (hn : L ≤ 1 → n = t.seq.nextId) :
    Within L s { t with seq := { t.seq with instances := is, nextId := n } } := { h with
  seq := by rw [h.seq]
  ended := fun hL hs => his hL (h.ended hL hs)
  ids := fun hL => (hn hL).trans (h.ids hL) }

/-! ### Fades (chapter 5) -/

theorem removeFade (h : Within L s t) {target : FadeTarget} : Within L s (Machine.removeFade target t) := h.writeFades

theorem setLevel (h : Within L s t) {target : FadeTarget} {l : Level} (hL : targetScope target ≤ L) :
    Within L s (Machine.setLevel target l t) := by
  cases target with
  | voice v => exact h.setVoice
  | duck z => exact h.modifyZone hL
  | crosspoint i o => exact { h with
      mix := by rw [Machine.setLevel, h.mix]
      levels := fun h1 => absurd (show 2 ≤ 1 from hL.trans h1) (by decide) }
  | trim o => exact { h with
      mix := by rw [Machine.setLevel, h.mix]
      levels := fun h1 => absurd (show 2 ≤ 1 from hL.trans h1) (by decide) }
  | stopMute => exact { h with
      showStop := by rw [Machine.setLevel, h.showStop]
      levels := fun h1 => absurd (show 2 ≤ 1 from hL.trans h1) (by decide) }

theorem startRamp (h : Within L s t) {v : VoiceNo} : Within L s (Machine.startRamp v t) := by
  unfold Machine.startRamp
  split
  · exact h
  · exact h.setVoice

theorem duckReleased (h : Within L s t) (hL : 1 ≤ L) {z : ZoneNo} : Within L s (Machine.duckReleased z t) :=
  h.modifyZone hL fun zn => by split <;> rfl

theorem writeShowState (h : Within L s t) (hL : 2 ≤ L) {st : ShowState} :
    Within L s { t with showStop := { t.showStop with state := st } } := { h with
  showStop := by rw [h.showStop]
  levels := fun h1 => by omega }

theorem stopMuteReport (h : Within L s t) (hL : 2 ≤ L) : Within L s (Machine.stopMuteReport t) := by
  unfold Machine.stopMuteReport
  split
  · exact (h.writeShowState hL).raise fun h1 => by omega
  · exact h

theorem reportTarget (h : Within L s t) {target : FadeTarget} (hL : targetScope target ≤ L) :
    Within L s (Machine.reportTarget target t) := by
  cases target with
  | stopMute => exact h.stopMuteReport hL
  | _ => exact h

theorem completeAtOnce (h : Within L s t) {p : Post} (hL : targetScope p.target ≤ L) :
    Within L s (Machine.completeAtOnce p t) := by
  unfold Machine.completeAtOnce
  split
  case h_2 z _ ht => exact h.duckReleased (by rw [ht] at hL; exact hL)
  case h_4 => exact h.startRamp
  all_goals exact h

theorem overflow_kind (p : Post) : p.overflow.kind = .fadeOverflow := by
  unfold Post.overflow
  cases p.target <;> rfl

theorem snapFade (h : Within L s t) {p : Post} (hL : targetScope p.target ≤ L) : Within L s (Machine.snapFade p t) := by
  have overflow : ∀ {u}, Within L s u → Within L s (Machine.raise p.overflow u) := fun hu =>
    hu.raise fun _ _ => .inl (overflow_kind p)
  unfold Machine.snapFade
  split
  · exact (overflow h).completeAtOnce hL
  · exact ((overflow (h.setLevel hL)).completeAtOnce hL).reportTarget hL

theorem postFade (h : Within L s t) {p : Post} (hL : targetScope p.target ≤ L) : Within L s (Machine.postFade p t).1 := by
  rcases postFade_cases p t with ⟨-, e⟩ | ⟨h0, -, e⟩ | ⟨h0, hnone, hroom, e⟩ | ⟨-, -, -, e⟩ <;> rw [e]
  · exact ((h.setLevel hL).removeFade.completeAtOnce hL).reportTarget hL
  · exact h.writeFades
  · exact h.writeFades
  · exact h.snapFade hL

theorem post (h : Within L s t) {p : Post} (hL : targetScope p.target ≤ L) : Within L s (Machine.post p t) := h.postFade hL

/-! ### Voices (chapter 4) -/

theorem postFetch (h : Within L s t) {v : VoiceNo} : Within L s (Machine.postFetch v t) := by
  unfold Machine.postFetch
  split
  · exact h.setVoice
  · exact h

theorem removeInst (h : Within L s t) {id : Nat} : Within L s (Machine.removeInst id t) :=
  h.writeTable (fun _ he => by rw [he]; rfl) fun _ => rfl

theorem modifyInst (h : Within L s t) {id : Nat} {f : CueInstance → CueInstance} :
    Within L s (Machine.modifyInst id f t) :=
  h.writeTable (fun _ he => by rw [he]; rfl) fun _ => rfl

/-- An instance of the table may end. -/
theorem endInst (h : Within L s t) {i : CueInstance} (hi : i ∈ t.seq.instances) {reason : Nat} :
    Within L s (Machine.endInst i reason t) :=
  h.removeInst.raise_of fun hL hempty => absurd hi (by rw [h.ended hL hempty]; exact List.not_mem_nil)

theorem instOf_mem {id : Nat} {i : CueInstance} (h : instOf id t = some i) : i ∈ t.seq.instances ∧ i.id = id :=
  ⟨List.mem_of_find?_eq_some h, by simpa using List.find?_some h⟩

theorem checkEnd (h : Within L s t) {id : Nat} : Within L s (Machine.checkEnd id t) := by
  unfold Machine.checkEnd
  split
  · next hi =>
    split
    · exact h.endInst (instOf_mem hi).1
    · exact h
  · exact h

theorem checkOwner (h : Within L s t) {o : Owner} : Within L s (Machine.checkOwner o t) := by
  cases o with
  | inst id c => exact h.checkEnd
  | _ => exact h

theorem freeVoice (h : Within L s t) {v : VoiceNo} : Within L s (Machine.freeVoice v t) :=
  h.removeFade.setVoice.writeTails

theorem freeAndCheck (h : Within L s t) {v : VoiceNo} : Within L s (Machine.freeAndCheck v t) :=
  h.freeVoice.checkOwner

theorem postStopFade (h : Within L s t) {p : Post} {v : VoiceNo} (hL : targetScope p.target ≤ L) :
    Within L s (Machine.postStopFade p v t) := by
  unfold Machine.postStopFade
  dsimp only
  split
  · exact h.postFade hL
  · exact (h.postFade hL).setVoice

theorem stopVoice (h : Within L s t) {v : VoiceNo} {time : Nat} : Within L s (Machine.stopVoice v time t) := by
  have fade : Within L s (Machine.postStopFade (stopFade v time) v t) := h.postStopFade (Nat.zero_le L)
  unfold Machine.stopVoice
  split
  · exact h
  · exact h.freeAndCheck
  · split
    · exact h.startRamp
    · exact fade
  · split
    · exact h.startRamp
    · exact fade
  · split
    · exact h.removeFade.startRamp
    · exact fade
  · exact h
  · exact h.setVoice

theorem stopVoices (h : Within L s t) {vs : List VoiceNo} {time : Nat} : Within L s (Machine.stopVoices vs time t) :=
  foldl (fun _ _ hu => hu.stopVoice) vs h

theorem stealVoice (h : Within L s t) {r : AllocReq} {v : VoiceNo} : Within L s (Machine.stealVoice r v t) :=
  h.removeFade.setVoice

theorem takeFree (h : Within L s t) {r : AllocReq} {v : VoiceNo} : Within L s (Machine.takeFree r v t) :=
  h.setVoice.postFetch

/-! ### Calls (chapter 8) -/

theorem attackZones (h : Within L s t) (hL : 1 ≤ L) {id depth : Nat} {zones : BitVec 16} :
    Within L s (Machine.attackZones id depth zones t) :=
  foldl (fun _ _ hu => (hu.modifyZone hL).post (by exact hL)) _ h

theorem releaseZones (h : Within L s t) (hL : 1 ≤ L) {zones : BitVec 16} :
    Within L s (Machine.releaseZones zones t) :=
  foldl (fun _ _ hu => (hu.modifyZone hL).post (by exact hL)) _ h

theorem leaveCall (h : Within L s t) {c : Call} {v : VoiceNo} : Within L s (Machine.leaveCall c v t) := by
  have orphaned : Within L s (t.setVoice v { t.voice v with owner := .orphan }) := h.setVoice
  unfold Machine.leaveCall
  dsimp only
  split
  case h_5 => exact orphaned.stopVoice
  all_goals exact orphaned.writeTails.stopVoice

theorem removeCall (h : Within L s t) (hL : 1 ≤ L) {id : Nat} : Within L s (Machine.removeCall id t) :=
  h.writeCalls hL

theorem endCallCore (h : Within L s t) (hL : 1 ≤ L) {id : Nat} {reason : CallEnd} :
    Within L s (Machine.endCallCore id reason t) := by
  have raised : ∀ {c : Call} {u}, Within L s u → Within L s (Machine.raise (callEndedEvent c reason) u) :=
    fun hu => hu.raise fun _ _ => .inr (.inl rfl)
  unfold Machine.endCallCore
  split
  · exact h
  · dsimp only
    split
    · split
      · exact raised ((h.removeCall hL).releaseZones hL).leaveCall
      · exact raised (h.removeCall hL).leaveCall
    · split
      · exact raised ((h.removeCall hL).releaseZones hL)
      · exact raised (h.removeCall hL)

theorem tellVictim (h : Within L s t) (hL : 1 ≤ L) {x : Voice} {v : VoiceNo} :
    Within L s (Machine.tellVictim x v t).1 := by
  unfold Machine.tellVictim
  split
  · exact h
  · exact h.checkEnd
  · split
    · exact h.writeTails.endCallCore hL
    · exact h

theorem allocate (h : Within L s t) (hL : 1 ≤ L) {r : AllocReq} {a : Allocated}
    (ha : Machine.allocate r t = some a) : Within L s a.state := by
  unfold Machine.allocate at ha
  split at ha
  · cases ha
    exact h.takeFree
  · split at ha
    · cases ha
      exact h.stealVoice.tellVictim hL
    · cases ha

theorem beginCall (h : Within L s t) (hL : 1 ≤ L) {c : Call} {v : Option VoiceNo} :
    Within L s (Machine.beginCall c v t) :=
  (((h.removeCall hL).writeCalls hL).attackZones hL).raise fun _ _ => .inr (.inr rfl)

theorem startCall (h : Within L s t) (hL : 1 ≤ L) {c : Call} : Within L s (Machine.startCall c t).state := by
  unfold Machine.startCall
  split
  · split
    · next ha => exact (h.allocate hL ha).beginCall hL
    · exact h.endCallCore hL
  · exact h.beginCall hL

theorem scanOnce (h : Within L s t) (hL : 1 ≤ L) (cs : List Call) {claimed : BitVec 16} {again : Bool} :
    Within L s (Machine.scanOnce cs claimed again t).1 := by
  induction cs generalizing t claimed again with
  | nil => exact h
  | cons c cs ih =>
    unfold Machine.scanOnce
    split
    · exact ih (h.startCall hL)
    · exact ih h

theorem scanFuel (h : Within L s t) (hL : 1 ≤ L) (n : Nat) : Within L s (Machine.scanFuel n t) := by
  induction n generalizing t with
  | zero => exact h
  | succ n ih =>
    unfold Machine.scanFuel
    dsimp only
    split
    · exact ih (h.scanOnce hL _)
    · exact h.scanOnce hL _

theorem scan (h : Within L s t) (hL : 1 ≤ L) : Within L s (Machine.scan t) := h.scanFuel hL _

theorem endCall (h : Within L s t) (hL : 1 ≤ L) {id : Nat} {reason : CallEnd} :
    Within L s (Machine.endCall id reason t) := by
  unfold Machine.endCall
  split
  · exact h
  · exact (h.endCallCore hL).scan hL

theorem endCalls (h : Within L s t) (hL : 1 ≤ L) {ids : List Nat} {reason : CallEnd} :
    Within L s (Machine.endCalls ids reason t) := by
  unfold Machine.endCalls
  split
  · exact h
  · exact (foldl (fun _ _ hu => hu.endCallCore hL) _ h).scan hL

theorem allocateScan (h : Within L s t) (hL : 1 ≤ L) {r : AllocReq} {a : State × VoiceNo}
    (ha : Machine.allocateScan r t = some a) : Within L s a.1 := by
  unfold Machine.allocateScan at ha
  split at ha
  · next b hb =>
    cases ha
    dsimp only
    split
    · exact (h.allocate hL hb).scan hL
    · exact h.allocate hL hb
  · cases ha

theorem ownerLost (h : Within L s t) (hL : 1 ≤ L) {o : Owner} {reason : CallEnd} :
    Within L s (Machine.ownerLost o reason t) := by
  cases o with
  | orphan => exact h
  | inst id c => exact h.checkEnd
  | call id => exact h.endCall hL

theorem acceptCall (h : Within L s t) (hL : 1 ≤ L) {c : Call} : Within L s (Machine.acceptCall c t).1 :=
  ((foldl (fun _ _ hu => hu.endCallCore hL) _ (h.writeCalls hL)).writeCalls hL).scan hL

theorem createShowStopCall (h : Within L s t) (hL : 1 ≤ L) : Within L s (Machine.createShowStopCall t) :=
  h.acceptCall hL

/-! ### The Cue Sequencer's operations (chapter 3) -/

theorem orphanVoices (h : Within L s t) {id : Nat} : Within L s (Machine.orphanVoices id t) := { h with
  stream := by rw [Machine.orphanVoices, h.stream] }

theorem reachInst (h : Within L s t) {time id : Nat} : Within L s (Machine.reachInst time id t) := by
  unfold Machine.reachInst
  split
  · exact h
  · next hi =>
    split
    · exact h.endInst (instOf_mem hi).1
    · exact (h.modifyInst.checkEnd).stopVoices

theorem reachInsts (h : Within L s t) {time : Nat} {ids : List Nat} : Within L s (Machine.reachInsts time ids t) :=
  foldl (fun _ _ hu => hu.reachInst) ids h

end Within

/-! ### Everything that cues do -/

namespace Within

variable {s t u : State}

/-- In the widest scope any event may be raised. -/
theorem raiseAny (h : Within 2 s t) {e : Event} : Within 2 s (Machine.raise e t) :=
  h.raise fun h1 => absurd h1 (by decide)

theorem makeRoom (h : Within 2 s t) : Within 2 s (Machine.makeRoom t) := by
  unfold Machine.makeRoom
  split
  · exact h
  · split
    · exact h.removeInst.orphanVoices.raiseAny
    · exact h

theorem createInst (h : Within 2 s t) {c : Cue} {cause : Cause} : Within 2 s (Machine.createInst c cause t) :=
  (h.writeTable (fun h1 => absurd h1 (by decide)) fun h1 => absurd h1 (by decide)).raiseAny

theorem dispatchPlay (h : Within 2 s t) {i : CueInstance} {pos : Nat} {p : PlaySpec} :
    Within 2 s (Machine.dispatchPlay i pos p t) := by
  unfold Machine.dispatchPlay
  split
  · next ha => exact h.allocateScan (by decide) ha
  · exact h.raiseAny

theorem dispatchStop (h : Within 2 s t) {i : CueInstance} {target : StopTarget} {time : Nat} :
    Within 2 s (Machine.dispatchStop i target time t) := by
  cases target with
  | group g => exact h.stopVoices
  | cue n => exact h.reachInsts
  | all => exact h.reachInsts.stopVoices

theorem fadeOneVoice (h : Within 2 s t) {level : Level} {time : Nat} {stopAtEnd : Bool} {v : VoiceNo} :
    Within 2 s (Machine.fadeOneVoice level time stopAtEnd v t) := by
  have scope : targetScope (.voice v) ≤ 2 := Nat.zero_le 2
  unfold Machine.fadeOneVoice
  dsimp only
  split
  · split
    · exact h.freeAndCheck
    · split
      · exact h.startRamp
      · exact h.postStopFade scope
    · split
      · exact h.startRamp
      · exact h.postStopFade scope
    · exact h
  · split
    · exact Within.post h.setVoice scope
    · exact h.post scope
    · exact h.post scope
    · exact h

theorem dispatchVoiceFade (h : Within 2 s t) {g : Nat} {level : Level} {time : Nat} {stopAtEnd : Bool} :
    Within 2 s (Machine.dispatchVoiceFade g level time stopAtEnd t) :=
  foldl (fun _ _ hu => hu.fadeOneVoice) _ h

theorem postScene (h : Within 2 s t) {entries : List SceneEntry} {time : Nat} :
    Within 2 s (Machine.postScene entries time t) :=
  foldl (fun _ _ hu => hu.post (Nat.le_refl 2)) _ h

theorem setMode (h : Within 2 s t) {o : OutputNo} {m : FoldMode} : Within 2 s (Machine.setMode o m t) := { h with
  foldback := by rw [Machine.setMode, h.foldback]
  levels := fun h1 => absurd h1 (by decide) }

theorem dispatchCall (h : Within 2 s t) {i : CueInstance} {pos : Nat} {c : CallSpec} :
    Within 2 s (Machine.dispatchCall i pos c t) := by
  unfold Machine.dispatchCall
  split
  · exact h.raiseAny
  · split
    · exact h.raiseAny
    · exact h.acceptCall (by decide)

theorem dispatchAction (h : Within 2 s t) {i : CueInstance} {pos : Nat} {a : Action} :
    Within 2 s (Machine.dispatchAction i pos a t) := by
  cases a with
  | play p => exact h.dispatchPlay
  | stop target time => exact h.dispatchStop
  | voiceFade g l time e => exact h.dispatchVoiceFade
  | level src o l time => exact h.post (Nat.le_refl 2)
  | scene id time =>
    unfold Machine.dispatchAction
    dsimp only
    split
    · exact h.postScene
    · exact h.raiseAny
  | trim o l time => exact h.post (Nat.le_refl 2)
  | foldbackMode o m =>
    unfold Machine.dispatchAction
    dsimp only
    split
    · exact h.raiseAny
    · exact h.setMode
  | call c => exact h.dispatchCall

theorem dispatchFrom (h : Within 2 s t) {i : CueInstance} {pos : Nat} (as : List Action) :
    Within 2 s (Machine.dispatchFrom i pos as t) := by
  induction as generalizing t pos with
  | nil => exact h
  | cons a as ih => exact ih h.dispatchAction

theorem enterRunning (h : Within 2 s t) {id : Nat} : Within 2 s (Machine.enterRunning id t) := by
  unfold Machine.enterRunning
  split
  · exact h
  · exact ((h.modifyInst.raiseAny).dispatchFrom _).modifyInst

/-- A fire stays in the widest scope. -/
theorem expireFollow (h : Within 2 s t) {fire : Cue → State → State}
    (hfire : ∀ c u, Within 2 s u → Within 2 s (fire c u)) {id : Nat} : Within 2 s (Machine.expireFollow fire id t) := by
  unfold Machine.expireFollow
  split
  · exact h
  · split
    · exact h
    · have ended := (h.modifyInst (id := id) (f := fun j => { j with follow := none })).checkEnd (id := id)
      dsimp only
      split
      · split
        · split
          · exact hfire _ _ ended.makeRoom
          · exact ended.raiseAny
        · exact ended.raiseAny
      · exact ended.raiseAny

theorem fireChain (n : Nat) (cause : Cause) (c : Cue) (u : State) (h : Within 2 s u) :
    Within 2 s (Machine.fireChain n cause c u) := by
  induction n generalizing cause c u with
  | zero => exact h
  | succ n ih =>
    unfold Machine.fireChain
    dsimp only
    split
    · split
      · exact (h.createInst.enterRunning.expireFollow (ih .follow)).checkEnd
      · exact h.createInst.enterRunning.checkEnd
    · exact h.createInst

theorem fireCue (h : Within 2 s t) {cause : Cause} {c : Cue} : Within 2 s (Machine.fireCue cause c t) :=
  fireChain _ cause c t h

theorem runInst (h : Within 2 s t) {id : Nat} : Within 2 s (Machine.runInst id t) := by
  unfold Machine.runInst
  dsimp only
  split
  · exact (h.enterRunning.expireFollow fun c u hu => hu.fireCue).checkEnd
  · exact h.enterRunning.checkEnd

theorem fireMarkerCue (h : Within 2 s t) {c : Cue} : Within 2 s (Machine.fireMarkerCue c t) := by
  unfold Machine.fireMarkerCue
  split
  · exact h.makeRoom.fireCue
  · exact h.raiseAny

end Within

end Sys2Proof.Machine
end

section
/-! SUPPORT. What a fire, the end of a pre-wait and the expiry of a follow make of the table, where the cue waits or has
nothing to do. -/

namespace Sys2Proof.Machine

/-! ### Events as records of queues (R174) -/

/-- A raised event is the newest record, or the link has lost records. -/
theorem newest_raise (e : Event) (s : State) : Newest e (raise e s) := by
  intro r hatt
  rw [link_raise] at hatt ⊢
  rcases Link.append_cases { e with clock := s.timing.showClock } (s.link r) with
    ⟨-, -, h⟩ | ⟨-, -, h⟩ | ⟨hdet, h⟩
  · rw [h]
    exact .inl List.getLast?_concat
  · rw [h]
    exact .inr rfl
  · rw [h, hdet] at hatt
    cases hatt

/-! ### The table -/

section Table

variable {s : State} {i : CueInstance}

/-- With distinct ids the instance of an id is the one that carries it. -/
theorem instOf_eq (hnodup : (s.seq.instances.map (·.id)).Nodup) (hi : i ∈ s.seq.instances) :
    instOf i.id s = some i := by
  cases hfind : instOf i.id s with
  | none => exact absurd (List.find?_eq_none.mp hfind i hi) (by simp)
  | some j =>
    obtain ⟨hj, hid⟩ := Within.instOf_mem hfind
    rw [List.inj_on_of_nodup_map hnodup hj hi hid]

/-- With distinct ids, writing the instance of an id writes that instance. -/
theorem modifyInst_eq (hnodup : (s.seq.instances.map (·.id)).Nodup) (hi : i ∈ s.seq.instances)
    (f : CueInstance → CueInstance) : modifyInst i.id f s = { s with seq := { s.seq with
      instances := s.seq.instances.map fun j => if j.id = i.id then f i else j } } := by
  have same : s.seq.instances.map (fun j => if j.id == i.id then f j else j) =
      s.seq.instances.map fun j => if j.id = i.id then f i else j := by
    refine List.map_congr_left fun j hj => ?_
    by_cases hid : j.id = i.id
    · rw [if_pos hid, if_pos (by simpa using hid), List.inj_on_of_nodup_map hnodup hj hi hid]
    · rw [if_neg hid, if_neg (by simpa using hid)]
  rw [modifyInst, same]

/-- An id that the counter names and no instance has is taken (R46). -/
theorem takeInstId_eq (hfree : ∀ j ∈ s.seq.instances, j.id ≠ s.seq.nextId) : takeInstId s = s.seq.nextId := by
  have unused : (s.seq.instances.map (·.id)).contains s.seq.nextId = false := by
    simpa using hfree
  unfold takeInstId freshId
  rw [if_neg (by rw [unused]; decide)]

theorem nextId_eq {n : Nat} (h : n ≤ 255) : nextId n = if n = 255 then 1 else n + 1 := by
  unfold nextId
  split <;> split <;> omega

/-- What a fire adds to the table, and its record (R47). -/
theorem createInst_eq (c : Cue) (cause : Cause) (s : State) : createInst c cause s =
    raise { kind := .cueFired, inst := .ofNat 8 (takeInstId s), cue := c.num, reason := .ofNat 8 cause.code,
            aux1 := .ofNat 16 cause.roleByte }
      { s with seq := { s.seq with
        instances := s.seq.instances ++ [waitingInst (takeInstId s) c cause s.timing.showClock],
        nextId := nextId (takeInstId s) } } := rfl

/-- A cue with a pre-wait is fired by adding its instance in PREWAIT (R47). -/
theorem fireCue_waiting {c : Cue} (h : 0 < c.preWait) (cause : Cause) (s : State) :
    fireCue cause c s = createInst c cause s := by
  unfold fireCue fireChain
  dsimp only
  rw [if_neg h.ne']

theorem makeRoom_eq_self (h : s.seq.instances.length < 24) : makeRoom s = s := by
  unfold makeRoom
  exact if_pos h

theorem hasRoom_of_lt (h : s.seq.instances.length < 24) : hasRoom s = true := by
  rw [hasRoom_iff]
  exact .inl h

/-- The instance of a cue without actions enters RUNNING with the follow it captures, and CUE_RUNNING (R51, R54). -/
theorem enterRunning_noActions {id : Nat} (hi : instOf id s = some i) (hactions : actionsOf i.cue s = []) :
    enterRunning id s = raise (instEvent .cueRunning i)
      (modifyInst id (fun j => { j with phase := .running, preWait := 0, follow := capturedFollow i.cue s }) s) := by
  unfold enterRunning
  rw [hi]
  have none_dispatched : actionsOf i.cue (raise (instEvent .cueRunning i)
      (modifyInst id (fun j => { j with phase := .dispatching, preWait := 0 }) s)) = [] := hactions
  dsimp only
  rw [none_dispatched]
  have twice : ∀ is : List CueInstance, (is.map fun j =>
      if j.id == id then { j with phase := .dispatching, preWait := 0 } else j).map (fun j =>
        if j.id == id then { j with phase := .running, follow := capturedFollow i.cue s } else j) =
      is.map fun j => if j.id == id then
        { j with phase := .running, preWait := 0, follow := capturedFollow i.cue s } else j := fun is => by
    rw [List.map_map]
    refine List.map_congr_left fun j _ => ?_
    by_cases hid : j.id = id <;> simp [hid]
  show raise _ { s with seq := { s.seq with instances := List.map _ (List.map _ s.seq.instances) } } = _
  exact congrArg (fun is => raise _ { s with seq := { s.seq with instances := is } }) (twice _)

/-- The instance of an id after the instance of that id was written. -/
theorem instOf_modifyInst {id : Nat} (hi : instOf id s = some i) {f : CueInstance → CueInstance}
    (hf : ∀ j, (f j).id = j.id) : instOf id (modifyInst id f s) = some (f i) := by
  have test : ((fun j : CueInstance => j.id == id) ∘ fun j => if j.id == id then f j else j) = fun j => j.id == id := by
    funext j
    by_cases hid : j.id = id <;> simp [hid, hf]
  have found : (s.seq.instances.map fun j => if j.id == id then f j else j).find? (fun j => j.id == id) =
      some (f i) := by
    rw [List.find?_map, test, show s.seq.instances.find? (fun j => j.id == id) = some i from hi, Option.map_some,
      if_pos (by simpa using (Within.instOf_mem hi).2)]
  exact found

/-- An instance that is RUNNING with nothing pending and no voice ends (R58). -/
theorem checkEnd_ends {id : Nat} (hi : instOf id s = some i) (hphase : i.phase = .running) (hfollow : i.follow = none)
    (hvoices : ∀ v, (s.voice v).ownedByInst id = false) :
    checkEnd id s = endInst i (if i.stopped then 1 else 0) s := by
  have count : ownedCount s id = 0 := by
    simp [ownedCount, voicesOfInst, hvoices]
  unfold checkEnd
  rw [hi]
  dsimp only
  rw [if_pos ⟨hphase, hfollow, count⟩]

theorem checkEnd_follow {id : Nat} (hi : instOf id s = some i) (hfollow : i.follow ≠ none) : checkEnd id s = s := by
  unfold checkEnd
  rw [hi]
  exact if_neg fun h => hfollow h.2.1

/-- An instance that still owns a voice does not end (R58). -/
theorem checkEnd_owns {id : Nat} {v : VoiceNo} (hv : (s.voice v).ownedByInst id = true) : checkEnd id s = s := by
  have count : ownedCount s id ≠ 0 := by
    simp only [ownedCount, voicesOfInst, ne_eq, List.length_eq_zero_iff, List.filter_eq_nil_iff, not_forall]
    exact ⟨v, mem_voiceNos v, not_not.mpr hv⟩
  unfold checkEnd
  split
  · exact if_neg fun h => count h.2.2
  · rfl

/-- The follow that an instance captures, or none (R54). -/
theorem capturedFollow_none {n : CueNum}
    (h : ∀ d, s.store.cues.find? (fun d => decide (n.toNat < d.num.toNat)) = some d → d.trigger ≠ .follow) :
    capturedFollow n s = none := by
  unfold capturedFollow
  split
  · next d hd => exact if_neg (h d hd)
  · rfl

theorem capturedFollow_some {n : CueNum} {c d : Cue} (hc : cueOf n s = some c)
    (hd : s.store.cues.find? (fun d => decide (n.toNat < d.num.toNat)) = some d) (htrigger : d.trigger = .follow) :
    capturedFollow n s = some { cue := d.num, delay := c.followDelay } := by
  unfold capturedFollow cueAfter
  rw [hd]
  dsimp only
  rw [if_pos htrigger, followDelayOf, hc]

theorem cueOf_num {n : CueNum} {c : Cue} (h : cueOf n s = some c) : c.num = n := by
  simpa using List.find?_some h

theorem filter_map_id {is : List CueInstance} {id : Nat} {f : CueInstance → CueInstance} (hf : ∀ j, (f j).id = j.id) :
    (is.map fun j => if j.id == id then f j else j).filter (fun j => j.id != id) = is.filter fun j => j.id != id := by
  induction is with
  | nil => rfl
  | cons j is ih => by_cases hid : j.id = id <;> simpa [hid, hf] using ih

/-- An instance at the end of its pre-wait whose cue has nothing to do runs and ends at once (R49, R51, R58). -/
theorem runs_and_ends {id : Nat} (hi : instOf id s = some i) (hactions : actionsOf i.cue s = [])
    (hnext : capturedFollow i.cue s = none) (hvoices : ∀ v, (s.voice v).ownedByInst id = false) :
    followDelay id (enterRunning id s) = none ∧ checkEnd id (enterRunning id s) =
      raise { instEvent .cueEnded i with reason := .ofNat 8 (if i.stopped then 1 else 0) }
        (raise (instEvent .cueRunning i) (removeInst id s)) := by
  have runs := enterRunning_noActions hi hactions
  rw [hnext] at runs
  have now := instOf_modifyInst hi (f := fun j => { j with phase := .running, preWait := 0, follow := none })
    fun _ => rfl
  have hid : i.id = id := (Within.instOf_mem hi).2
  have here : instOf id (enterRunning id s) = some { i with phase := .running, preWait := 0, follow := none } := by
    rw [runs]
    exact now
  refine ⟨by rw [followDelay, here]; rfl, ?_⟩
  rw [checkEnd_ends here rfl rfl (by rw [runs]; exact hvoices), endInst, runs]
  show raise _ (raise _ { s with seq := { s.seq with instances := List.filter _ (List.map _ s.seq.instances) } }) = _
  have rest := filter_map_id (is := s.seq.instances) (id := id)
    (f := fun j => { j with phase := .running, preWait := 0, follow := none }) fun _ => rfl
  subst hid
  rw [rest]
  rfl

end Table

end Sys2Proof.Machine
end

section
/-! SUPPORT. What an accepted GO makes of the state, and what a retirement does (R42, R48). -/

namespace Sys2Proof.Machine

section Go

variable {l : Role} {expected : Option CueNum} {s : State} {c : Cue} {p : CueNum}

/-- Every check of GO passes (R41). -/
theorem goRefusal_none (h : MayGo l s) (hpassed : GuardPassed s) (hplayhead : s.seq.playhead = some p)
    (hexpected : expected = none ∨ expected = some p)
    (hstandby : s.seq.standbyRequired = false ∨ s.seq.standby = true) (hroom : TableHasRoom s) :
    goRefusal l expected s = none := by
  rw [goRefusal_passed h hpassed, hplayhead]
  dsimp only
  rw [if_neg (by rcases hexpected with rfl | rfl <;> simp), if_neg (by rcases hstandby with h | h <;> simp [h])]
  exact if_pos ((hasRoom_iff s).mpr hroom)

/-- No refusal of GO is the result ACCEPTED. -/
theorem goRefusal_ne_accepted {r : Reply} (h : goRefusal l expected s = some r) : r.result ≠ .accepted := by
  have refuses : ∀ why, storeRefusal s = some why → why ≠ .accepted := by
    intro why hwhy
    unfold storeRefusal at hwhy
    split at hwhy <;> simp only [Option.some.injEq, reduceCtorEq] at hwhy <;> rw [← hwhy] <;> decide
  have stops : ∀ why, showRefusal s = some why → why ≠ .accepted := by
    intro why hwhy
    unfold showRefusal at hwhy
    split at hwhy
    · next hstore => exact Option.some.inj hwhy ▸ refuses _ hstore
    · split at hwhy <;> simp only [Option.some.injEq, reduceCtorEq] at hwhy
      rw [← hwhy]
      decide
  unfold goRefusal at h
  split at h
  · simp [← Option.some.inj h]
  split at h
  · next why hwhy => exact Option.some.inj h ▸ stops why hwhy
  split at h
  · simp [← Option.some.inj h]
  split at h
  · simp [← Option.some.inj h]
  split at h
  · simp [← Option.some.inj h]
  split at h
  · simp [← Option.some.inj h]
  split at h
  · cases h
  · simp [← Option.some.inj h]

/-- A GO that no check refuses fires the playhead cue (R42). -/
theorem goBody_accepts (h : goRefusal l expected s = none) (hplayhead : s.seq.playhead = some p)
    (hc : cueOf p s = some c) : goBody l expected s =
      acceptWith (cueField (some c.num) ++ u8 (takeInstId (makeRoom s)) ++ cueField (acceptGo l c s).seq.playhead)
        (acceptGo l c s) := by
  have hcue : s.seq.playhead.bind (cueOf · s) = some c := by rw [hplayhead]; exact hc
  rw [goBody, h]
  dsimp only
  rw [hcue]

theorem fired_within (cause : Cause) (c : Cue) (s : State) : Within 2 s (fireCue cause c (makeRoom s)) :=
  ((Within.refl 2 s).makeRoom).fireCue

/-- An accepted GO adds to its fire the guard stamp and the moved playhead (R42). -/
theorem acceptGo_eq (l : Role) (c : Cue) (s : State) : acceptGo l c s =
    raise (playheadEvent (nextGo c.num s) 0)
      { fireCue (.go l) c (makeRoom s) with seq := { (fireCue (.go l) c (makeRoom s)).seq with
          stamp := some { time := s.timing.showClock, cue := c.num }, playhead := nextGo c.num s, standby := false } } := by
  have fired := fired_within (.go l) c s
  have next : nextGo c.num (fireCue (.go l) c (makeRoom s)) = nextGo c.num s := by
    rw [nextGo, nextGo, fired.store]
  rw [← next, ← fired.timing]
  rfl

/-- An accepted GO leaves the guard time, and its stamp is the show clock with the cue it fired (R42). -/
theorem acceptGo_guard (l : Role) (c : Cue) (s : State) : (acceptGo l c s).timing = s.timing ∧
    (acceptGo l c s).seq.guardMs = s.seq.guardMs ∧
    (acceptGo l c s).seq.stamp = some { time := s.timing.showClock, cue := c.num } := by
  have fired := fired_within (.go l) c s
  rw [acceptGo_eq]
  exact ⟨fired.timing, (congrArg Sequencer.guardMs fired.seq :), rfl⟩

/-- A GO that is answered ACCEPTED fired the playhead cue. -/
theorem goBody_accepted {u : State} {r : Reply} (h : goBody l expected s = (u, r)) (hr : r.result = .accepted)
    (hplayhead : s.seq.playhead = some p) : ∃ c, c.num = p ∧ u = acceptGo l c s := by
  unfold goBody at h
  split at h
  · next hrefused =>
    obtain ⟨-, rfl⟩ := Prod.mk.inj h
    exact absurd hr (goRefusal_ne_accepted hrefused)
  · split at h
    · obtain ⟨-, rfl⟩ := Prod.mk.inj h
      cases hr
    · next c hc =>
      rw [hplayhead] at hc
      exact ⟨c, cueOf_num hc, (Prod.mk.inj h).1.symm⟩

end Go

/-! ### Retirement (R48) -/

section Retirement

variable {s : State} {before after : List CueInstance} {old : CueInstance}

/-- A full table retires its oldest-fired instance that is RUNNING with no pending follow. -/
theorem makeRoom_retires (hfull : s.seq.instances.length = 24) (hsplit : s.seq.instances = before ++ old :: after)
    (hbefore : ∀ i ∈ before, i.phase = .running → i.follow ≠ none) (hrunning : old.phase = .running)
    (hfollow : old.follow = none) :
    makeRoom s = raise (instEvent .cueRetired old) (orphanVoices old.id (removeInst old.id s)) := by
  have chosen : retiree s = some old := by
    have passed_over : before.find? (fun i => i.phase == .running && i.follow == none) = none := by
      rw [List.find?_eq_none]
      intro i hi
      simpa using hbefore i hi
    rw [retiree, hsplit, List.find?_append, passed_over, Option.none_or]
    exact List.find?_cons_of_pos (by simp [hrunning, hfollow])
  unfold makeRoom
  rw [if_neg (by rw [hfull]; decide), chosen]

/-- What remains of the table is everything but the retired instance. -/
theorem removeInst_split (hnodup : (s.seq.instances.map (·.id)).Nodup)
    (hsplit : s.seq.instances = before ++ old :: after) :
    (removeInst old.id s).seq.instances = before ++ after := by
  rw [hsplit, List.map_append, List.map_cons, List.nodup_append, List.nodup_cons] at hnodup
  obtain ⟨-, ⟨hafter, -⟩, hdisjoint⟩ := hnodup
  have keep_before : before.filter (fun i => i.id != old.id) = before := by
    rw [List.filter_eq_self]
    intro i hi
    simpa using hdisjoint i.id (List.mem_map_of_mem hi) old.id (List.mem_cons_self ..)
  have keep_after : after.filter (fun i => i.id != old.id) = after := by
    rw [List.filter_eq_self]
    intro i hi
    simpa using fun hid => hafter (List.mem_map.mpr ⟨i, hi, hid⟩)
  show s.seq.instances.filter (fun i => i.id != old.id) = _
  rw [hsplit, List.filter_append, List.filter_cons_of_neg (by simp), keep_before, keep_after]

theorem voice_orphanVoices (id : Nat) (s : State) (v : VoiceNo) : (orphanVoices id s).voice v =
    if (s.voice v).ownedByInst id then { s.voice v with owner := .orphan } else s.voice v :=
  getElem_mapVec ..

/-- The id that a fire takes is free, and in 1..255 (R46). -/
theorem takeInstId_spec (h : s.seq.instances.length < 24) (h1 : 1 ≤ s.seq.nextId) (h2 : s.seq.nextId ≤ 255) :
    (∀ i ∈ s.seq.instances, i.id ≠ takeInstId s) ∧ 1 ≤ takeInstId s ∧ takeInstId s ≤ 255 := by
  have used : (s.seq.instances.map (·.id)).length < 255 := by
    rw [List.length_map]
    omega
  obtain ⟨hfree, hlo, hhi⟩ := Evolves.freshId_spec used h1 h2
  exact ⟨fun i hi hid => hfree (List.mem_map.mpr ⟨i, hi, hid⟩), hlo, hhi⟩

theorem makeRoom_nextId (s : State) : (makeRoom s).seq.nextId = s.seq.nextId := by
  unfold makeRoom
  split
  · rfl
  · split <;> rfl

end Retirement

end Sys2Proof.Machine
end

section
/-! The settling of the obligations of the Cue Sequencer's fires. -/

namespace Sys2Proof.Proofs
open Sys2Proof.Machine

/-- Settles O37: the first GO, being accepted, left the stamp that refuses the second. -/
theorem secondGoRefused : Obligations.SecondGoRefused := by
  intro l l' tag tag' expected expected' s t u r p age hs hexec hslot haccepted hplayhead hstamp hguard hage hleft hs' hgo
  have hexec : Host.Outcome.next (serve l 0x20 tag (goBody l expected) s) = .next t := hexec
  rw [next_serve_of_serves hs tag (body := goBody l expected) rfl] at hexec
  obtain rfl := Host.Outcome.next.inj hexec
  rw [link_respond_self, Option.some.injEq] at hslot
  subst hslot
  obtain ⟨c, rfl, hfired⟩ := goBody_accepted (p := p) rfl haccepted (by rw [reloadPresence_seq]; exact hplayhead)
  obtain ⟨htiming, hguardMs, hstamped⟩ := acceptGo_guard l c (reloadPresence l s)
  rw [hfired, respond_seq] at hstamp hguard
  rw [hfired, respond_timing] at hage
  rw [reloadPresence_timing] at htiming hstamped
  have stamp : u.seq.stamp = some { time := s.timing.showClock, cue := c.num } := hstamp.trans hstamped
  have left : guardLeft u = s.seq.guardMs - age := by
    rw [htiming] at hage
    rw [guardLeft_stamp stamp, hguard, hguardMs, reloadPresence_seq, hage]
  rw [exec_go_refused hs' tag' (goRefusal_guard hgo (by rw [left]; omega)), left, stamp]
  rfl

/-- Settles O36: the fire is in room that was made for it, and the stamp and the playhead follow it. -/
theorem goAccepted : Obligations.GoAccepted := by
  intro l tag expected s p c hs htable hgo hpassed hplayhead hc hexpected hstandby hroom
  obtain rfl := cueOf_num hc
  have passes : goRefusal l expected (reloadPresence l s) = none := by
    rw [goRefusal_reloadPresence]
    exact goRefusal_none hgo hpassed hplayhead hexpected hstandby hroom
  have seqEq : (reloadPresence l s).seq = s.seq := reloadPresence_seq l s
  have fired := fired_within (.go l) c (reloadPresence l s)
  have tableOk : TableOk (reloadPresence l s) := by rw [TableOk, seqEq]; exact htable
  have room : (makeRoom (reloadPresence l s)).seq.instances.length < 24 :=
    (Evolves.refl [] _).makeRoom_lt (by rw [hasRoom_reloadPresence]; exact (hasRoom_iff s).mpr hroom) tableOk
  obtain ⟨-, hnodup, -, hlo, hhi⟩ := htable
  obtain ⟨free, idLo, idHi⟩ := takeInstId_spec room (by rw [makeRoom_nextId, seqEq]; exact hlo)
    (by rw [makeRoom_nextId, seqEq]; exact hhi)
  have nextCue : nextGo c.num (reloadPresence l s) = nextGo c.num s := by rw [nextGo, nextGo, reloadPresence_store]
  refine ⟨acceptGo l c (reloadPresence l s), takeInstId (makeRoom (reloadPresence l s)),
    next_serve_of_serves hs tag (goBody_accepts passes (by rw [seqEq]; exact hplayhead)
      ((cueOf_reloadPresence ..).trans hc)), idLo, idHi, ?_⟩
  rw [acceptGo_eq, nextCue, reloadPresence_timing]
  refine ⟨rfl, rfl, rfl, newest_raise _ _, ?_, ?_, ?_, fun hlen => ?_, fun before old after hlen hsplit hbefore hrun hno => ?_⟩
  · exact fired.store.trans (reloadPresence_store l s)
  · exact fired.smi.trans (reloadPresence_smi l s)
  · exact fired.timing.trans (reloadPresence_timing l s)
  · have kept : makeRoom (reloadPresence l s) = reloadPresence l s := makeRoom_eq_self (by rw [seqEq]; exact hlen)
    rw [kept, seqEq] at free
    rw [kept]
    refine ⟨free, fun hunused => ?_, fun hwait => ?_⟩
    · rw [takeInstId_eq (by rw [seqEq]; exact hunused), seqEq]
    · rw [kept] at idHi
      rw [fireCue_waiting hwait, createInst_eq, nextId_eq idHi, reloadPresence_timing]
      simp
  · have retired := makeRoom_retires (s := reloadPresence l s) (by rw [seqEq]; exact hlen)
      (by rw [seqEq]; exact hsplit) hbefore hrun hno
    have rest : (makeRoom (reloadPresence l s)).seq.instances = before ++ after := by
      rw [retired]
      exact removeInst_split (by rw [seqEq]; exact hnodup) (by rw [seqEq]; exact hsplit)
    rw [rest] at free
    refine ⟨free, fun hwait => ?_⟩
    rw [fireCue_waiting hwait, createInst_eq]
    refine ⟨?_, fun v => ?_⟩
    · rw [((Within.refl 2 _).makeRoom (s := reloadPresence l s)).timing]
      simp [rest]
    · rw [retired]
      exact (voice_orphanVoices old.id _ v).trans (by rw [show (removeInst old.id (reloadPresence l s)).voice v = s.voice v from voice_reloadPresence l s v])

end Sys2Proof.Proofs
end

section
/-! The settling of the obligations of FIRE and of the timers of an instance. -/

namespace Sys2Proof.Machine

section Fires

variable {s : State} {c : Cue} {cause : Cause}

/-- A fire of a cue with nothing to do adds its instance, which runs and ends at once (R47, R51, R58). -/
theorem fireCue_ends (hc : cueOf c.num s = some c) (hwait : c.preWait = 0) (hactions : c.actions = [])
    (hfree : ∀ j ∈ s.seq.instances, j.id ≠ s.seq.nextId) (hvoices : ∀ v, (s.voice v).ownedByInst s.seq.nextId = false)
    (hnext : ∀ d, s.store.cues.find? (fun d => decide (c.num.toNat < d.num.toNat)) = some d → d.trigger ≠ .follow) :
    fireCue cause c s =
      raise { kind := .cueEnded, inst := .ofNat 8 s.seq.nextId, cue := c.num }
        (raise { kind := .cueRunning, inst := .ofNat 8 s.seq.nextId, cue := c.num }
          (raise { kind := .cueFired, inst := .ofNat 8 s.seq.nextId, cue := c.num, reason := .ofNat 8 cause.code,
                   aux1 := .ofNat 16 cause.roleByte }
            { s with seq := { s.seq with nextId := nextId s.seq.nextId } })) := by
  have created := createInst_eq c cause s
  rw [takeInstId_eq hfree] at created
  obtain ⟨i, hi⟩ : ∃ i, i = waitingInst s.seq.nextId c cause s.timing.showClock := ⟨_, rfl⟩
  rw [← hi] at created
  have idEq : i.id = s.seq.nextId := by rw [hi]; rfl
  have numEq : i.cue = c.num := by rw [hi]; rfl
  have ongoing : i.stopped = false := by rw [hi]; rfl
  have others : s.seq.instances.filter (fun j => j.id == i.id) = [] := by
    rw [List.filter_eq_nil_iff, idEq]
    intro j hj
    simpa using hfree j hj
  have found : instOf i.id (createInst c cause s) = some i := by
    show (createInst c cause s).seq.instances.find? _ = _
    rw [created]
    show (s.seq.instances ++ [i]).find? (fun j => j.id == i.id) = some i
    rw [← List.head?_filter, List.filter_append, others]
    simp
  have idle : actionsOf i.cue (createInst c cause s) = [] := by
    rw [actionsOf, numEq, show cueOf c.num (createInst c cause s) = some c by rw [created]; exact hc]
    exact hactions
  obtain ⟨undelayed, ends⟩ := runs_and_ends found idle
    (by rw [numEq]; exact capturedFollow_none (by rw [created]; exact hnext))
    (by rw [created, idEq]; exact hvoices)
  have rest : (s.seq.instances ++ [i]).filter (fun j => j.id != i.id) = s.seq.instances := by
    rw [List.filter_append, List.filter_cons_of_neg (by simp), List.filter_nil, List.append_nil, List.filter_eq_self]
    intro j hj
    simpa [idEq] using hfree j hj
  have chain : fireCue cause c s = checkEnd i.id (enterRunning i.id (createInst c cause s)) := by
    unfold fireCue fireChain
    dsimp only
    rw [if_pos hwait, takeInstId_eq hfree, ← idEq, if_neg (by rw [undelayed]; decide)]
  rw [chain, ends, created, ongoing, ← numEq, ← idEq]
  show raise _ (raise _ (raise _ { s with seq := { s.seq with instances := List.filter _ (_ ++ _), nextId := _ } })) = _
  rw [rest]
  rfl

/-- A FIRE that finds room in the table fires the cue there (R44). -/
theorem fireBody_room {l : Role} {n : CueNum} (hshow : showRefusal s = none) (hc : cueOf n s = some c)
    (hlen : s.seq.instances.length < 24) (hfree : ∀ j ∈ s.seq.instances, j.id ≠ s.seq.nextId) :
    fireBody l n s = acceptWith (u8 s.seq.nextId) (fireCue (.fire l) c s) := by
  rw [fireBody, hshow]
  dsimp only
  rw [hc]
  dsimp only
  rw [if_pos (hasRoom_of_lt hlen), makeRoom_eq_self hlen, takeInstId_eq hfree]

/-- The expiry of a follow from an instance that stays in the table: the follow goes, and its cue is fired there where it
is still triggered by FOLLOW (R55). -/
theorem expireFollow_stays {fire : Cue → State → State} {id : Nat} {i : CueInstance} {f : Follow}
    (hi : instOf id s = some i) (hf : i.follow = some f) (hstays : ∃ v, (s.voice v).ownedByInst id = true) :
    expireFollow fire id s = match cueOf f.cue s with
      | some c =>
        if c.trigger = .follow then
          if hasRoom (modifyInst id (fun j => { j with follow := none }) s) then
            fire c (makeRoom (modifyInst id (fun j => { j with follow := none }) s))
          else tableFull c.num .follow (modifyInst id (fun j => { j with follow := none }) s)
        else raise (followDropped i f.cue) (modifyInst id (fun j => { j with follow := none }) s)
      | none => raise (followDropped i f.cue) (modifyInst id (fun j => { j with follow := none }) s) := by
  obtain ⟨v, hv⟩ := hstays
  unfold expireFollow
  rw [hi]
  dsimp only
  rw [hf]
  dsimp only
  rw [checkEnd_owns (s := modifyInst id (fun j => { j with follow := none }) s) (v := v) hv]
  rfl

theorem followDelay_eq {id : Nat} {i : CueInstance} (hi : instOf id s = some i) :
    followDelay id s = i.follow.map (·.delay) := by
  rw [followDelay, hi]

end Fires

end Sys2Proof.Machine

namespace Sys2Proof.Proofs
open Sys2Proof.Machine

/-- Settles O39: the checks are those of the body, and the accepted fires are `createInst` and `fireCue_ends`. -/
theorem fireTaken : Obligations.FireTaken := by
  intro tag n s hs
  have refused : ∀ {r}, showRefusal s = some r →
      exec (.fire .console tag n) s = answered .console 0x22 tag r [] (reloadPresence .console s) := fun h =>
    next_serve_of_serves hs tag (by rw [fireBody, showRefusal_reloadPresence, h]; rfl)
  refine ⟨fun h => refused (showRefusal_store (storeRefusal_noShow h)),
    fun h => refused (showRefusal_store (storeRefusal_loading h)), fun h hstop => refused (showRefusal_stopped h hstop),
    fun h hstop => ?_⟩
  have passes : showRefusal (reloadPresence .console s) = none := by
    rw [showRefusal_reloadPresence]
    exact showRefusal_none h hstop
  refine ⟨fun hc => next_serve_of_serves hs tag ?_, fun c hc => ⟨fun hroom => next_serve_of_serves hs tag ?_,
    fun i hlen htable hfree hi => ?_⟩⟩
  · rw [fireBody, passes]
    dsimp only
    rw [cueOf_reloadPresence, hc]
    rfl
  · rw [fireBody, passes]
    dsimp only
    rw [cueOf_reloadPresence, hc]
    exact if_neg (by rw [hasRoom_reloadPresence, hasRoom_iff]; exact hroom)
  · obtain rfl := cueOf_num hc
    obtain ⟨-, -, -, hlo, hhi⟩ := htable
    have idEq : i.id = s.seq.nextId := by rw [hi]; rfl
    have seqEq : (reloadPresence .console s).seq = s.seq := reloadPresence_seq _ s
    have hfree' : ∀ j ∈ (reloadPresence .console s).seq.instances, j.id ≠ (reloadPresence .console s).seq.nextId := by
      rw [seqEq]
      exact hfree
    have body := fireBody_room (l := .console) passes ((cueOf_reloadPresence ..).trans hc) (by rw [seqEq]; exact hlen)
      hfree'
    have created : waitingInst s.seq.nextId c (.fire .console) (reloadPresence .console s).timing.showClock = i := by
      rw [reloadPresence_timing, hi]
    refine ⟨fun hwait => next_serve_of_serves hs tag ?_, fun hwait hactions hvoices hnext =>
      next_serve_of_serves hs tag ?_⟩
    · rw [body, fireCue_waiting hwait, createInst_eq, takeInstId_eq hfree', seqEq, created, idEq, nextId_eq hhi]
      rfl
    · rw [body, fireCue_ends ((cueOf_reloadPresence ..).trans hc) hwait hactions hfree'
        (by rw [seqEq, ← idEq]; exact fun v => (congrArg (Voice.ownedByInst · i.id) (voice_reloadPresence ..)).trans (hvoices v))
        (by rw [reloadPresence_store]; exact hnext), seqEq, nextId_eq hhi, idEq]
      rfl

/-- Settles O41: the instance of the id runs and ends, or captures a follow; an expired follow is taken off first. -/
theorem instanceTimers : Obligations.InstanceTimers := by
  intro id s i hrun htable hi hid
  obtain ⟨-, hnodup, hids, hlo, hhi⟩ := htable
  have found : instOf id.toNat s = some i := hid ▸ instOf_eq hnodup hi
  have byteId : BitVec.ofNat 8 i.id = id := by rw [hid, BitVec.ofNat_toNat, BitVec.setWidth_eq]
  have prewaits : exec (.prewaitEnd id) s = .next (endPrewait id.toNat s) :=
    congrArg Host.Outcome.next (occur_running _ s hrun)
  have follows : exec (.followExpiry id) s = .next (endFollow id.toNat s) :=
    congrArg Host.Outcome.next (occur_running _ s hrun)
  rw [prewaits, follows]
  refine ⟨fun hphase => ⟨fun hwaits => ?_, fun c hwait hc hactions => ?_⟩, fun hf => ?_, fun f hphase hf hdelay hvoice => ?_⟩
  · rw [endPrewait, found]
    exact congrArg Host.Outcome.next (if_neg fun h => by omega)
  · have idle : actionsOf i.cue s = [] := by
      rw [actionsOf, hc]
      exact hactions
    have ends : endPrewait id.toNat s = runInst id.toNat s := by
      rw [endPrewait, found]
      exact if_pos ⟨hphase, hwait⟩
    rw [ends]
    refine ⟨fun hvoices hnext => ?_, fun d hd htrigger hdelay => ?_⟩
    · obtain ⟨undelayed, gone⟩ := runs_and_ends found idle (capturedFollow_none hnext) (hid ▸ hvoices)
      rw [runInst, if_neg (by rw [undelayed]; decide), gone]
      unfold instEvent
      rw [byteId, removeInst, hid]
      split <;> rfl
    · have runs := enterRunning_noActions found idle
      rw [capturedFollow_some hc hd htrigger] at runs
      have here := instOf_modifyInst found (f := fun j => { j with
        phase := .running, preWait := 0, follow := some { cue := d.num, delay := c.followDelay } }) fun _ => rfl
      have now : instOf id.toNat (enterRunning id.toNat s) = some { i with
          phase := .running, preWait := 0, follow := some { cue := d.num, delay := c.followDelay } } := by
        rw [runs]
        exact here
      rw [runInst, followDelay_eq now, if_neg (by simpa using hdelay.ne'), checkEnd_follow now (by simp), runs, ← hid,
        modifyInst_eq hnodup hi, instEvent, byteId, ← hwait]
  · rw [endFollow, followDelay_eq found]
    refine congrArg Host.Outcome.next (if_neg ?_)
    rcases hf with hf | ⟨f, hf, hpos⟩ <;> rw [hf]
    · simp
    · simpa using hpos.ne'
  · intro t ht
    have taken : modifyInst id.toNat (fun j => { j with follow := none }) s = t := by
      rw [ht, ← hid]
      exact modifyInst_eq hnodup hi _
    have expires : endFollow id.toNat s = expireFollow (fireCue .follow) id.toNat s := by
      rw [endFollow, followDelay_eq found, hf]
      exact if_pos (congrArg some hdelay)
    rw [expires, expireFollow_stays found hf (hid ▸ hvoice), taken]
    refine ⟨fun hgone => ?_, fun c hc htrigger hlen hfree hwait => ?_⟩
    · have dropped : followDropped i f.cue =
          { kind := .followDropped, inst := id, cue := i.cue,
            aux1 := .ofNat 16 (major f.cue), aux2 := .ofNat 16 (point f.cue) } := by
        rw [followDropped, instEvent, byteId]
      cases hc : cueOf f.cue s with
      | none => exact congrArg (fun e => Host.Outcome.next (raise e t)) dropped
      | some c =>
        dsimp only
        rw [if_neg (hgone c hc), dropped]
    · have lenEq : t.seq.instances.length < 24 := by
        rw [ht]
        exact (List.length_map ..).trans_lt hlen
      have nextEq : t.seq.nextId = s.seq.nextId := by rw [ht]
      have unused : ∀ j ∈ t.seq.instances, j.id ≠ t.seq.nextId := by
        rw [nextEq, ht]
        intro j hj
        obtain ⟨k, hk, rfl⟩ := List.mem_map.mp hj
        split
        · exact hfree i hi
        · exact hfree k hk
      rw [hc]
      dsimp only
      rw [if_pos htrigger, if_pos (hasRoom_of_lt lenEq), makeRoom_eq_self lenEq, fireCue_waiting hwait, createInst_eq,
        takeInstId_eq unused, nextEq, nextId_eq hhi, cueOf_num hc, show t.timing = s.timing by rw [ht]]
      rfl

end Sys2Proof.Proofs
end

section
/-! SUPPORT. The fade list after a post, target by target; the room that posts to a set of targets leave; and the zones
after their ducks were posted (R91 to R93, R144). -/

namespace Sys2Proof.Machine

/-! ### The fade list after a post (R92, R93) -/

section FadeList

variable {s t : State} {p : Post} {T U : FadeTarget}

/-- What stands for a target depends on the fade list alone. -/
theorem fadeFor_congr (h : t.fades = s.fades) : fadeFor T t = fadeFor T s := by
  rw [fadeFor, fadeFor, h]

theorem fadeFor_filter_ne (h : t.fades = s.fades.filter fun e => e.target != U) (hT : T ≠ U) :
    fadeFor T t = fadeFor T s := by
  rw [fadeFor, fadeFor, h, List.find?_filter]
  congr 1
  funext e
  by_cases he : e.target = T
  · simp [he, hT]
  · simp [he]

theorem fadeFor_removeFade_ne (hT : T ≠ U) : fadeFor T (removeFade U s) = fadeFor T s :=
  fadeFor_filter_ne rfl hT

@[simp] theorem setLevel_fades (T : FadeTarget) (l : Level) (s : State) : (setLevel T l s).fades = s.fades := by
  cases T <;> rfl

@[simp] theorem startRamp_fades (v : VoiceNo) (s : State) : (startRamp v s).fades = s.fades := by
  unfold startRamp
  split <;> rfl

@[simp] theorem completeAtOnce_fades (p : Post) (s : State) : (completeAtOnce p s).fades = s.fades := by
  unfold completeAtOnce
  split
  · rfl
  · rfl
  · rfl
  · exact startRamp_fades ..
  · rfl

@[simp] theorem reportTarget_fades (T : FadeTarget) (s : State) : (reportTarget T s).fades = s.fades := by
  unfold reportTarget
  split
  · unfold stopMuteReport
    split <;> rfl
  · rfl

@[simp] theorem snapFade_fades (p : Post) (s : State) : (snapFade p s).fades = s.fades := by
  unfold snapFade
  split <;> simp

/-- The fade list after a post. -/
theorem post_fades (p : Post) (s : State) : (post p s).fades =
    if p.time = 0 then s.fades.filter fun e => e.target != p.target
    else if (fadeFor p.target s).isSome then s.fades.map fun e => if e.target == p.target then p.entry s else e
    else if s.fades.length < 256 then s.fades ++ [p.entry s] else s.fades := by
  unfold post postFade
  split
  · simp [removeFade]
  · split
    · rfl
    · split
      · next h => rw [if_pos (show _ < 256 from h)]
      · next h => rw [if_neg (show ¬ _ < 256 from h), snapFade_fades]

/-- A post changes what stands for its own target alone. -/
theorem fadeFor_post_ne (hT : T ≠ p.target) : fadeFor T (post p s) = fadeFor T s := by
  have other : ∀ e : FadeEntry, ((if e.target == p.target then p.entry s else e).target == T) = (e.target == T) := by
    intro e
    split
    · next he =>
      rw [beq_iff_eq] at he
      have : (p.entry s).target = e.target := he.symm
      rw [this]
    · rfl
  have fades := post_fades p s
  split at fades
  · exact fadeFor_filter_ne fades hT
  split at fades
  · rw [fadeFor, fades, List.find?_map, fadeFor]
    rw [show ((fun e : FadeEntry => e.target == T) ∘ fun e => if e.target == p.target then p.entry s else e) =
      fun e => e.target == T from funext other]
    cases hfind : s.fades.find? (fun e => e.target == T) with
    | none => rfl
    | some e =>
      have he : e.target = T := by simpa using List.find?_some hfind
      simp [he, hT]
  split at fades
  · rw [fadeFor, fades, List.find?_append, fadeFor]
    have : List.find? (fun e => e.target == T) [p.entry s] = none := by
      simpa [Post.entry] using Ne.symm hT
    rw [this, Option.or_none]
  · exact fadeFor_congr fades

theorem fadeFor_post_atOnce (h : p.time = 0) : fadeFor p.target (post p s) = none := by
  rw [fadeFor, post_fades, if_pos h, List.find?_filter, List.find?_eq_none]
  simp

/-- A post over time stands in the list where an entry stood for its target or there was room. -/
theorem fadeFor_post_entry (h : 0 < p.time) (hroom : (fadeFor p.target s).isSome = true ∨ s.fades.length < 256) :
    fadeFor p.target (post p s) = some (p.entry s) := by
  have own : (p.entry s).target = p.target := rfl
  rw [fadeFor, post_fades, if_neg h.ne']
  by_cases hsome : (fadeFor p.target s).isSome = true
  · rw [if_pos hsome, List.find?_map]
    obtain ⟨e, he⟩ := Option.isSome_iff_exists.mp hsome
    have test : ((fun e : FadeEntry => e.target == p.target) ∘ fun e => if e.target == p.target then p.entry s else e) =
        fun e => e.target == p.target := by
      funext f
      by_cases hf : f.target = p.target <;> simp [hf, own]
    rw [test, show s.fades.find? (fun e => e.target == p.target) = some e from he]
    simp [(fadeFor_some he).2]
  · have absent : s.fades.find? (fun e => e.target == p.target) = none := by
      simpa [fadeFor] using hsome
    rw [if_neg hsome, if_pos (hroom.resolve_left hsome), List.find?_append, absent]
    simp [own]

/-- A post over time that finds no room leaves its target without an entry. -/
theorem fadeFor_post_full (h : 0 < p.time) (hnone : fadeFor p.target s = none) (hfull : ¬ s.fades.length < 256) :
    fadeFor p.target (post p s) = none := by
  rw [fadeFor_congr (s := s), hnone]
  rw [post_fades, if_neg h.ne', if_neg (by simp [hnone]), if_neg hfull]

/-- An entry of another target stands after a post. -/
theorem mem_fades_post {e : FadeEntry} (he : e ∈ s.fades) (hT : e.target ≠ p.target) : e ∈ (post p s).fades := by
  rw [post_fades]
  split
  · exact List.mem_filter.mpr ⟨he, by simpa using hT⟩
  split
  · exact List.mem_map.mpr ⟨e, he, by simp [hT]⟩
  split
  · exact List.mem_append_left _ he
  · exact he

end FadeList

/-! ### The room for fades of a set of targets -/

/-- The length that the fade list may reach by posts to some targets alone. -/
def fadeLoad (Ts : List FadeTarget) (s : State) : Nat := s.fades.length + Ts.countP fun T => (fadeFor T s).isNone

section FadeLoad

variable {s t : State} {p : Post} {T : FadeTarget} {Ts : List FadeTarget}

theorem fadeLoad_le (Ts : List FadeTarget) (s : State) : fadeLoad Ts s ≤ s.fades.length + Ts.length :=
  Nat.add_le_add_left List.countP_le_length _

theorem fadeLoad_congr (h : t.fades = s.fades) : fadeLoad Ts t = fadeLoad Ts s := by
  have same : ∀ T, fadeFor T t = fadeFor T s := fun T => fadeFor_congr h
  simp only [fadeLoad, same, h]

/-- Within the load of 256 there is room for every one of the targets. -/
theorem room_of_fadeLoad (h : fadeLoad Ts s ≤ 256) (hT : T ∈ Ts) :
    (fadeFor T s).isSome = true ∨ s.fades.length < 256 := by
  by_cases hsome : (fadeFor T s).isSome = true
  · exact .inl hsome
  · have counted : 0 < Ts.countP fun T => (fadeFor T s).isNone :=
      List.countP_pos_iff.mpr ⟨T, hT, by simpa using hsome⟩
    unfold fadeLoad at h
    exact .inr (by omega)

/-- Two tests that differ at one element at most count alike but for it. -/
theorem countP_differ {α : Type} [DecidableEq α] {as : List α} {a : α} {f g : α → Bool} (hnodup : as.Nodup)
    (h : ∀ b ∈ as, b ≠ a → f b = g b) :
    as.countP f + (if a ∈ as ∧ g a = true then 1 else 0) = as.countP g + (if a ∈ as ∧ f a = true then 1 else 0) := by
  induction as with
  | nil => simp
  | cons b as ih =>
    obtain ⟨hb, hnodup⟩ := List.nodup_cons.mp hnodup
    have rest := ih hnodup fun c hc => h c (List.mem_cons_of_mem b hc)
    rw [List.countP_cons, List.countP_cons]
    by_cases hab : b = a
    · subst hab
      simp only [hb, false_and, if_false, Nat.add_zero] at rest
      simp only [List.mem_cons_self, true_and, rest]
      omega
    · have same := h b List.mem_cons_self hab
      simp only [List.mem_cons, Ne.symm hab, false_or, same]
      omega

/-- Taking the entries of a target off does not raise the load. -/
theorem fadeLoad_filter_le (hnodup : Ts.Nodup) (h : t.fades = s.fades.filter fun e => e.target != T) :
    fadeLoad Ts t ≤ fadeLoad Ts s := by
  have differ := countP_differ (a := T) (f := fun T => (fadeFor T t).isNone) (g := fun T => (fadeFor T s).isNone) hnodup
    fun U _ hU => by rw [fadeFor_filter_ne h hU]
  have shorter : t.fades.length ≤ s.fades.length := by
    rw [h]
    exact List.length_filter_le ..
  have gone : fadeFor T t = none := by
    rw [fadeFor, h, List.find?_filter, List.find?_eq_none]
    simp
  simp only [gone, Option.isNone_none, and_true] at differ
  unfold fadeLoad
  cases hfind : fadeFor T s with
  | none =>
    simp only [hfind, Option.isNone_none, and_true] at differ
    omega
  | some e =>
    have strictly : t.fades.length < s.fades.length := by
      obtain ⟨hmem, htarget⟩ := fadeFor_some hfind
      rw [h]
      exact List.length_filter_lt_length_iff_exists.mpr ⟨e, hmem, by simpa using htarget⟩
    split at differ <;> split at differ <;> omega

theorem fadeLoad_removeFade_le (hnodup : Ts.Nodup) (T : FadeTarget) (s : State) :
    fadeLoad Ts (removeFade T s) ≤ fadeLoad Ts s :=
  fadeLoad_filter_le hnodup rfl

/-- A post to one of the targets does not raise the load. -/
theorem fadeLoad_post_le (hnodup : Ts.Nodup) (hp : p.target ∈ Ts) : fadeLoad Ts (post p s) ≤ fadeLoad Ts s := by
  have fades := post_fades p s
  split at fades
  · exact fadeLoad_filter_le hnodup fades
  next htime =>
  have differ := countP_differ (a := p.target) (f := fun T => (fadeFor T (post p s)).isNone)
    (g := fun T => (fadeFor T s).isNone) hnodup fun U _ hU => by rw [fadeFor_post_ne hU]
  split at fades
  · next hsome =>
    have stands := fadeFor_post_entry (p := p) (s := s) (Nat.pos_of_ne_zero htime) (.inl hsome)
    have alike : (post p s).fades.length = s.fades.length := by rw [fades, List.length_map]
    have before : (fadeFor p.target s).isNone = false := by
      cases h : fadeFor p.target s with
      | none => simp [h] at hsome
      | some _ => rfl
    simp only [stands, before, Option.isNone_some, and_false, Bool.false_eq_true, if_false] at differ
    unfold fadeLoad
    omega
  · next hnone =>
    have hnone : fadeFor p.target s = none := by simpa using hnone
    split at fades
    · next hroom =>
      have stands := fadeFor_post_entry (p := p) (s := s) (Nat.pos_of_ne_zero htime) (.inr hroom)
      have longer : (post p s).fades.length = s.fades.length + 1 := by rw [fades]; simp
      simp only [stands, hnone, hp, Option.isNone_some, Option.isNone_none, and_self, and_false, Bool.false_eq_true,
        if_false, if_true] at differ
      unfold fadeLoad
      omega
    · exact (fadeLoad_congr fades).le

end FadeLoad

/-- The duck targets of the zones. -/
def duckTargets : List FadeTarget := (List.finRange 16).map .duck

/-- The level targets of the voices. -/
def voiceTargets : List FadeTarget := voiceNos.map .voice

theorem duckTargets_nodup : duckTargets.Nodup :=
  (List.nodup_finRange 16).map fun _ _ h => FadeTarget.duck.inj h

theorem mem_duckTargets (z : ZoneNo) : .duck z ∈ duckTargets := List.mem_map_of_mem (List.mem_finRange z)

theorem voiceTargets_nodup : voiceTargets.Nodup :=
  (List.nodup_finRange 32).map fun _ _ h => FadeTarget.voice.inj h

theorem mem_voiceTargets (v : VoiceNo) : .voice v ∈ voiceTargets := List.mem_map_of_mem (mem_voiceNos v)

end Sys2Proof.Machine
end

section
/-! SUPPORT. The zones, the fade list and the records after ducks were posted: one zone, a set of zones, and zones that
are released or attacked more than once (R144, R150, R152). -/

namespace Sys2Proof.Machine

/-! ### Zone records -/

section Zones

variable {s t u : State} {y z : ZoneNo}

theorem zone?_modifyZone_self (s : State) (z : ZoneNo) (f : Zone → Zone) :
    (s.modifyZone z f).zone? z = (s.zone? z).map f := by
  simp [State.zone?, State.modifyZone]

theorem zone?_modifyZone_ne (h : y ≠ z) (s : State) (f : Zone → Zone) : (s.modifyZone z f).zone? y = s.zone? y := by
  simp [State.zone?, State.modifyZone, Fin.val_ne_of_ne h.symm]

theorem zone?_congr (h : t.relay.zones = s.relay.zones) : t.zone? z = s.zone? z := by
  rw [State.zone?, State.zone?, h]

/-- A zone whose duck is taken to a level at once: a release is complete in RELEASING (R144). -/
def Zone.duckedTo (action : Completion) (g : Int) (zn : Zone) : Zone :=
  match action, zn.phase with
  | .duckReleased, .releasing => { zn with duck := g, phase := .clear, peak := 0 }
  | _, _ => { zn with duck := g }

theorem Zone.duckedTo_keeps (action : Completion) (g : Int) (zn : Zone) :
    (zn.duckedTo action g).output = zn.output ∧ (zn.duckedTo action g).carried = zn.carried ∧
      (zn.duckedTo action g).leveler = zn.leveler ∧ (zn.duckedTo action g).duck = g := by
  unfold Zone.duckedTo
  split <;> exact ⟨rfl, rfl, rfl, rfl⟩

/-- A duck set at once, with its completion, is a write of its zone (R92, R144). -/
theorem duckSet_eq (z : ZoneNo) (g : Int) (n : Nat) {action : Completion} (h : action ≠ .stopVoice) (s : State) :
    completeAtOnce (duckPost z g n action) (s.modifyZone z fun zn => { zn with duck := g }) =
      s.modifyZone z (Zone.duckedTo action g) := by
  cases action with
  | nothing => rfl
  | stopVoice => exact absurd rfl h
  | duckReleased =>
    have twice : ∀ zs : List Zone, (zs.modify z.val fun zn => { zn with duck := g }).modify z.val
        (fun zn => match zn.phase with
          | .releasing => { zn with phase := .clear, peak := 0 }
          | _ => zn) = zs.modify z.val (Zone.duckedTo .duckReleased g) := by
      intro zs
      rw [List.modify_modify_eq]
      congr 1
      funext zn
      cases hphase : zn.phase <;> simp [Zone.duckedTo, hphase]
    exact congrArg (fun zs => { s with relay := { s.relay with zones := zs } }) (twice _)

end Zones

/-! ### What ducks move -/

/-- `t` came of `s` by posts to ducks and writes of zones: zones, the ducks' fades, and overflow records. -/
structure DucksMove (s t : State) : Prop where
  same : t = { s with fades := t.fades, relay := { s.relay with zones := t.relay.zones }, links := t.links }
  events : ∃ es : List Event, (∀ e ∈ es, e.kind = .fadeOverflow) ∧ (fadeLoad duckTargets s ≤ 256 → es = []) ∧
    ∀ r, t.link r = (s.link r).receives s.timing.showClock es
  load : fadeLoad duckTargets t ≤ fadeLoad duckTargets s
  others : ∀ T, (∀ z, T ≠ .duck z) → fadeFor T t = fadeFor T s
  stands : ∀ e ∈ s.fades, (∀ z, e.target ≠ .duck z) → e ∈ t.fades

namespace DucksMove

variable {s t u : State}

theorem refl (s : State) : DucksMove s s where
  same := rfl
  events := ⟨[], fun _ h => absurd h List.not_mem_nil, fun _ => rfl, fun _ => rfl⟩
  load := Nat.le_refl _
  others _ _ := rfl
  stands _ he _ := he

theorem timing (h : DucksMove s t) : t.timing = s.timing := by rw [h.same]
theorem stream (h : DucksMove s t) : t.stream = s.stream := by rw [h.same]
theorem relay (h : DucksMove s t) : t.relay = { s.relay with zones := t.relay.zones } := by rw [h.same]

theorem voice (h : DucksMove s t) (v : VoiceNo) : t.voice v = s.voice v := by
  rw [State.voice, State.voice, h.stream]

theorem trans (h : DucksMove s t) (g : DucksMove t u) : DucksMove s u where
  same := g.same.trans (by rw [h.same])
  events := by
    obtain ⟨es, hes, hnone, hs⟩ := h.events
    obtain ⟨fs, hfs, hnone', ht⟩ := g.events
    refine ⟨es ++ fs, fun e he => (List.mem_append.mp he).elim (hes e) (hfs e), fun hload => ?_, fun r => ?_⟩
    · rw [hnone hload, hnone' (h.load.trans hload), List.nil_append]
    · rw [ht, hs, h.timing, Link.receives, Link.receives, Link.receives, List.foldl_append]
  load := g.load.trans h.load
  others T hT := (g.others T hT).trans (h.others T hT)
  stands e he hT := g.stands e (h.stands e he hT) hT

theorem foldl {α : Type} {f : State → α → State} (hf : ∀ u a, DucksMove u (f u a)) (as : List α) (s : State) :
    DucksMove s (as.foldl f s) := by
  induction as generalizing s with
  | nil => exact refl s
  | cons a as ih => exact (hf s a).trans (ih _)

theorem modifyZone (s : State) (z : ZoneNo) (f : Zone → Zone) : DucksMove s (s.modifyZone z f) where
  same := rfl
  events := (refl s).events
  load := Nat.le_refl _
  others _ _ := rfl
  stands _ he _ := he

end DucksMove

section DuckPost

variable {s : State} {z : ZoneNo} {g : Int} {n : Nat} {action : Completion}

/-- A post to a duck sets it at once, or stands in the list, or finds no room and snaps it (R92, R93). -/
theorem post_duck_cases (haction : action ≠ .stopVoice) :
    (n = 0 ∧ post (duckPost z g n action) s =
      { s.modifyZone z (Zone.duckedTo action g) with fades := s.fades.filter fun e => e.target != .duck z }) ∨
    (0 < n ∧ ((fadeFor (.duck z) s).isSome = true ∨ s.fades.length < 256) ∧
      post (duckPost z g n action) s = { s with fades := (post (duckPost z g n action) s).fades }) ∨
    (0 < n ∧ fadeFor (.duck z) s = none ∧ ¬ s.fades.length < 256 ∧ post (duckPost z g n action) s =
      (raise (duckPost z g n action).overflow s).modifyZone z (Zone.duckedTo action g)) := by
  rcases postFade_cases (duckPost z g n action) s with ⟨hn, h⟩ | ⟨hn, hsome, h⟩ | ⟨hn, -, hroom, h⟩ | ⟨hn, hnone, hfull, h⟩
  · refine .inl ⟨hn, ?_⟩
    rw [post, h]
    exact duckSet_eq z g n haction (removeFade (.duck z) s)
  · refine .inr (.inl ⟨Nat.pos_of_ne_zero hn, .inl hsome, ?_⟩)
    rw [post, h]
  · refine .inr (.inl ⟨Nat.pos_of_ne_zero hn, .inr hroom, ?_⟩)
    rw [post, h]
  · refine .inr (.inr ⟨Nat.pos_of_ne_zero hn, hnone, Nat.not_lt.mpr hfull, ?_⟩)
    rw [post, h]
    show snapFade (duckPost z g n action) s = _
    rw [snapFade, if_neg fun h => haction h.1]
    exact duckSet_eq z g n haction (raise (duckPost z g n action).overflow s)

theorem DucksMove.postDuck (s : State) (z : ZoneNo) (g : Int) (n : Nat) (haction : action ≠ .stopVoice) :
    DucksMove s (post (duckPost z g n action) s) where
  same := by
    rcases post_duck_cases (s := s) (z := z) (g := g) (n := n) haction with ⟨-, h⟩ | ⟨-, -, h⟩ | ⟨-, -, -, h⟩ <;>
      rw [h] <;> rfl
  events := by
    rcases post_duck_cases (s := s) (z := z) (g := g) (n := n) haction with
      ⟨-, h⟩ | ⟨-, -, h⟩ | ⟨-, hnone, hfull, h⟩
    · rw [h]
      exact (DucksMove.refl s).events
    · rw [h]
      exact (DucksMove.refl s).events
    · refine ⟨[(duckPost z g n action).overflow], fun e he => ?_, fun hload => ?_, fun r => ?_⟩
      · rw [List.mem_singleton.mp he]
        rfl
      · rcases room_of_fadeLoad hload (mem_duckTargets z) with hsome | hroom
        · rw [hnone] at hsome
          cases hsome
        · exact absurd hroom hfull
      · rw [h]
        exact link_raise _ s r
  load := fadeLoad_post_le duckTargets_nodup (mem_duckTargets z)
  others T hT := fadeFor_post_ne (hT z)
  stands e he hT := mem_fades_post he (hT z)

end DuckPost

/-! ### Zones that stand, are released, are attacked -/

/-- A zone and its duck's fade stand as they were. -/
def ZoneStands (z : ZoneNo) (s t : State) : Prop :=
  t.zone? z = s.zone? z ∧ fadeFor (.duck z) t = fadeFor (.duck z) s

theorem ZoneStands.trans {z : ZoneNo} {s t u : State} (h : ZoneStands z s t) (g : ZoneStands z t u) : ZoneStands z s u :=
  ⟨g.1.trans h.1, g.2.trans h.2⟩

/-- `Released`, with the room that a series of posts to ducks leaves. -/
def ReleasedAt (z : ZoneNo) (s t : State) : Prop :=
  ∀ a, s.zone? z = some a → ∃ b, t.zone? z = some b ∧ b.carried = none ∧ b.output = a.output ∧
    b.leveler = a.leveler ∧ (b.phase = .releasing ∨ (b.phase = .clear ∧ b.duck = 0 ∧ b.peak = 0)) ∧
    (s.relay.release = 0 → b.phase = .clear) ∧
    (0 < s.relay.release → fadeLoad duckTargets s ≤ 256 ∨ (fadeFor (.duck z) s).isSome = true →
      b = { a with carried := none, phase := .releasing } ∧
        ∃ e, fadeFor (.duck z) t = some e ∧ e.goal = .db 0 ∧ e.n = s.relay.release ∧ e.k = 0 ∧
          e.start = .db a.duck ∧ e.action = .duckReleased)

/-- `Attacked`, with the room that a series of posts to ducks leaves, where the zone is present. -/
def AttackedAt (id depth : Nat) (z : ZoneNo) (s t : State) : Prop :=
  ∀ a, s.zone? z = some a → ∃ b, t.zone? z = some b ∧ b.output = a.output ∧ b.carried = some id ∧ b.phase = .ducked ∧
    (s.relay.attack = 0 → b.duck = -depth) ∧
    (0 < s.relay.attack → fadeLoad duckTargets s ≤ 256 → b.duck = a.duck ∧
      ∃ e, fadeFor (.duck z) t = some e ∧ e.goal = .db (-depth) ∧ e.n = s.relay.attack ∧ e.k = 0 ∧
        e.start = .db a.duck)

section Released

variable {s t u : State} {z : ZoneNo} {id depth : Nat}

theorem ReleasedAt.released (h : ReleasedAt z s t) : Released z s t := by
  intro a ha
  obtain ⟨b, hb, hcarried, hout, hlev, hphase, hzero, hfade⟩ := h a ha
  refine ⟨b, hb, hcarried, hout, hlev, hphase, hzero, fun hpos hroom => hfade hpos (hroom.imp_left fun hlen => ?_)⟩
  exact (fadeLoad_le duckTargets s).trans hlen

theorem AttackedAt.attacked (h : AttackedAt id depth z s t) {a : Zone} (ha : s.zone? z = some a) :
    Attacked id depth s z t := by
  obtain ⟨b, hb, hout, hcarried, hphase, hzero, hfade⟩ := h a ha
  exact ⟨a, b, ha, hb, hout, hcarried, hphase, hzero,
    fun hpos hlen => hfade hpos ((fadeLoad_le duckTargets s).trans hlen)⟩

theorem ReleasedAt.stands (h : ReleasedAt z s t) (g : ZoneStands z t u) : ReleasedAt z s u := by
  intro a ha
  rw [g.1, g.2]
  exact h a ha

theorem AttackedAt.stands (h : AttackedAt id depth z s t) (g : ZoneStands z t u) : AttackedAt id depth z s u := by
  intro a ha
  rw [g.1, g.2]
  exact h a ha

theorem ReleasedAt.of_stands (g : ZoneStands z s t) (hrelease : t.relay.release = s.relay.release)
    (hload : fadeLoad duckTargets t ≤ fadeLoad duckTargets s) (h : ReleasedAt z t u) : ReleasedAt z s u := by
  intro a ha
  obtain ⟨b, hb, hcarried, hout, hlev, hphase, hzero, hfade⟩ := h a (g.1.trans ha)
  rw [hrelease] at hzero hfade
  rw [g.2] at hfade
  exact ⟨b, hb, hcarried, hout, hlev, hphase, hzero, fun hpos hroom => hfade hpos (hroom.imp_left hload.trans)⟩

theorem AttackedAt.of_stands (g : ZoneStands z s t) (hattack : t.relay.attack = s.relay.attack)
    (hload : fadeLoad duckTargets t ≤ fadeLoad duckTargets s) (h : AttackedAt id depth z t u) :
    AttackedAt id depth z s u := by
  intro a ha
  obtain ⟨b, hb, hout, hcarried, hphase, hzero, hfade⟩ := h a (g.1.trans ha)
  rw [hattack] at hzero hfade
  exact ⟨b, hb, hout, hcarried, hphase, hzero, fun hpos hroom => hfade hpos (hload.trans hroom)⟩

/-- A zone that is released again is released. -/
theorem ReleasedAt.again (h : ReleasedAt z s t) (hrelease : t.relay.release = s.relay.release)
    (g : ReleasedAt z t u) : ReleasedAt z s u := by
  intro a ha
  obtain ⟨b, hb, -, hout, hlev, -, -, hfade⟩ := h a ha
  obtain ⟨c, hc, hcarried, hout', hlev', hphase, hzero, hfade'⟩ := g b hb
  rw [hrelease] at hzero hfade'
  refine ⟨c, hc, hcarried, hout'.trans hout, hlev'.trans hlev, hphase, hzero, fun hpos hroom => ?_⟩
  obtain ⟨rfl, e, he, -⟩ := hfade hpos hroom
  exact hfade' hpos (.inr (by rw [he]; rfl))

/-- The release of a zone (R144, R152). -/
theorem releasedAt_releaseZone (z : ZoneNo) (s : State) : ReleasedAt z s (releaseZone z s) := by
  intro a ha
  obtain ⟨x, hx⟩ : ∃ x, x = s.modifyZone z fun zn => { zn with carried := none, phase := .releasing } := ⟨_, rfl⟩
  have here : x.zone? z = some { a with carried := none, phase := .releasing } := by
    rw [hx, zone?_modifyZone_self, ha]
    rfl
  have start : getLevel (.duck z) x = .db a.duck := by
    rw [getLevel, here]
  have fades : x.fades = s.fades := by rw [hx]; rfl
  have posted : releaseZone z s = post (duckPost z 0 s.relay.release .duckReleased) x := by rw [hx]; rfl
  rw [posted]
  rcases post_duck_cases (s := x) (z := z) (g := 0) (n := s.relay.release) (action := .duckReleased) (by decide) with
    ⟨hn, h⟩ | ⟨hn, hroom, h⟩ | ⟨hn, hnone, hfull, h⟩
  · refine ⟨Zone.duckedTo .duckReleased 0 { a with carried := none, phase := .releasing },
      by rw [h]; exact (zone?_modifyZone_self x z _).trans (congrArg (Option.map _) here), rfl, rfl, rfl, .inr ⟨rfl, rfl, rfl⟩,
      fun _ => rfl, fun hpos => by omega⟩
  · refine ⟨{ a with carried := none, phase := .releasing }, by rw [h]; exact here, rfl, rfl, rfl, .inl rfl, fun hzero => by omega, fun _ _ => ⟨rfl, _,
      fadeFor_post_entry (p := duckPost z 0 s.relay.release .duckReleased) hn hroom, rfl, rfl, rfl, start, rfl⟩⟩
  · refine ⟨Zone.duckedTo .duckReleased 0 { a with carried := none, phase := .releasing },
      by rw [h]; exact (zone?_modifyZone_self (raise _ x) z _).trans (congrArg (Option.map _) here), rfl, rfl, rfl,
      .inr ⟨rfl, rfl, rfl⟩, fun _ => rfl, fun _ hroom => ?_⟩
    have room : (fadeFor (.duck z) x).isSome = true ∨ x.fades.length < 256 := by
      rcases hroom with hload | hsome
      · exact room_of_fadeLoad (by rw [fadeLoad_congr fades]; exact hload) (mem_duckTargets z)
      · exact .inl (by rw [fadeFor_congr fades]; exact hsome)
    rw [hnone] at room
    exact absurd (room.resolve_left (by simp)) hfull

/-- The attack of a zone (R144, R150). -/
theorem attackedAt_attackZone (id depth : Nat) (z : ZoneNo) (s : State) : AttackedAt id depth z s (attackZone id depth z s) := by
  intro a ha
  obtain ⟨x, hx⟩ : ∃ x, x = s.modifyZone z fun zn => { zn with carried := some id, phase := .ducked } := ⟨_, rfl⟩
  have here : x.zone? z = some { a with carried := some id, phase := .ducked } := by
    rw [hx, zone?_modifyZone_self, ha]
    rfl
  have start : getLevel (.duck z) x = .db a.duck := by
    rw [getLevel, here]
  have fades : x.fades = s.fades := by rw [hx]; rfl
  have posted : attackZone id depth z s = post (duckPost z (-depth) s.relay.attack .nothing) x := by rw [hx]; rfl
  rw [posted]
  rcases post_duck_cases (s := x) (z := z) (g := -depth) (n := s.relay.attack) (action := .nothing) (by decide) with
    ⟨hn, h⟩ | ⟨hn, hroom, h⟩ | ⟨hn, hnone, hfull, h⟩
  · exact ⟨Zone.duckedTo .nothing (-depth) { a with carried := some id, phase := .ducked },
      by rw [h]; exact (zone?_modifyZone_self x z _).trans (congrArg (Option.map _) here), rfl, rfl, rfl, fun _ => rfl,
      fun hpos => by omega⟩
  · exact ⟨{ a with carried := some id, phase := .ducked }, by rw [h]; exact here, rfl, rfl, rfl, fun hzero => by omega, fun _ _ => ⟨rfl, _,
      fadeFor_post_entry (p := duckPost z (-depth) s.relay.attack .nothing) hn hroom, rfl, rfl, rfl, start⟩⟩
  · refine ⟨Zone.duckedTo .nothing (-depth) { a with carried := some id, phase := .ducked },
      by rw [h]; exact (zone?_modifyZone_self (raise _ x) z _).trans (congrArg (Option.map _) here), rfl, rfl, rfl,
      fun hzero => by omega, fun _ hload => ?_⟩
    have room := room_of_fadeLoad (s := x) (by rw [fadeLoad_congr fades]; exact hload) (mem_duckTargets z)
    rw [hnone] at room
    exact absurd (room.resolve_left (by simp)) hfull

theorem ducksMove_releaseZone (z : ZoneNo) (s : State) : DucksMove s (releaseZone z s) :=
  (DucksMove.modifyZone s z _).trans (DucksMove.postDuck _ z _ _ (by decide))

theorem ducksMove_attackZone (id depth : Nat) (z : ZoneNo) (s : State) : DucksMove s (attackZone id depth z s) :=
  (DucksMove.modifyZone s z _).trans (DucksMove.postDuck _ z _ _ (by decide))

/-- A post to the duck of another zone, and a write of it, leave a zone as it was. -/
theorem zoneStands_post {y : ZoneNo} (h : z ≠ y) (f : Zone → Zone) (g : Int) (n : Nat) {action : Completion}
    (haction : action ≠ .stopVoice) (s : State) : ZoneStands z s (post (duckPost y g n action) (s.modifyZone y f)) := by
  refine ⟨?_, fadeFor_post_ne (fun heq => h (FadeTarget.duck.inj heq))⟩
  rcases post_duck_cases (s := s.modifyZone y f) (z := y) (g := g) (n := n) haction with ⟨-, e⟩ | ⟨-, -, e⟩ | ⟨-, -, -, e⟩
  · rw [e]
    exact (zone?_modifyZone_ne h (s.modifyZone y f) _).trans (zone?_modifyZone_ne h s f)
  · rw [e]
    exact zone?_modifyZone_ne h s f
  · rw [e]
    exact (zone?_modifyZone_ne h (raise _ (s.modifyZone y f)) _).trans (zone?_modifyZone_ne h s f)

theorem zoneStands_releaseZone {y : ZoneNo} (h : z ≠ y) (s : State) : ZoneStands z s (releaseZone y s) :=
  zoneStands_post h _ _ _ (by decide) s

theorem zoneStands_attackZone {y : ZoneNo} (h : z ≠ y) (id depth : Nat) (s : State) :
    ZoneStands z s (attackZone id depth y s) :=
  zoneStands_post h _ _ _ (by decide) s

end Released

/-! ### Sets of zones -/

theorem mem_members {n : Nat} {set : BitVec n} {i : Fin n} : i ∈ members set ↔ set.getLsbD i.val = true := by
  simp [members]

theorem nodup_members {n : Nat} (set : BitVec n) : (members set).Nodup := (List.nodup_finRange n).filter _

section Sets

variable {s : State} {z : ZoneNo}

theorem ducksMove_releaseZones (zones : BitVec 16) (s : State) : DucksMove s (releaseZones zones s) :=
  DucksMove.foldl (fun u z => ducksMove_releaseZone z u) _ s

theorem ducksMove_attackZones (id depth : Nat) (zones : BitVec 16) (s : State) :
    DucksMove s (attackZones id depth zones s) :=
  DucksMove.foldl (fun u z => ducksMove_attackZone id depth z u) _ s

theorem zoneStands_foldl {f : State → ZoneNo → State} (hf : ∀ u y, z ≠ y → ZoneStands z u (f u y)) {zs : List ZoneNo}
    (h : z ∉ zs) (s : State) : ZoneStands z s (zs.foldl f s) := by
  induction zs generalizing s with
  | nil => exact ⟨rfl, rfl⟩
  | cons y zs ih =>
    rw [List.mem_cons, not_or] at h
    exact (hf s y h.1).trans (ih h.2 _)

theorem zoneStands_releaseZones {zones : BitVec 16} (h : zones.getLsbD z = false) (s : State) :
    ZoneStands z s (releaseZones zones s) :=
  zoneStands_foldl (fun u _ hne => zoneStands_releaseZone hne u) (by rw [mem_members, h]; decide) s

theorem zoneStands_attackZones {zones : BitVec 16} (h : zones.getLsbD z = false) (id depth : Nat) (s : State) :
    ZoneStands z s (attackZones id depth zones s) :=
  zoneStands_foldl (fun u _ hne => zoneStands_attackZone hne id depth u) (by rw [mem_members, h]; decide) s

/-- The release of zones in turn releases each of them. -/
theorem releasedAt_foldl {zs : List ZoneNo} (h : z ∈ zs) (s : State) :
    ReleasedAt z s (zs.foldl (fun u y => releaseZone y u) s) := by
  induction zs generalizing s with
  | nil => cases h
  | cons y zs ih =>
    have moved := ducksMove_releaseZone y s
    have setting : (releaseZone y s).relay.release = s.relay.release := by rw [moved.relay]
    by_cases hzs : z ∈ zs
    · by_cases hy : z = y
      · subst hy
        exact (releasedAt_releaseZone z s).again setting (ih hzs _)
      · exact (ih hzs _).of_stands (zoneStands_releaseZone hy s) setting moved.load
    · obtain rfl := (List.mem_cons.mp h).resolve_right hzs
      exact (releasedAt_releaseZone z s).stands
        (zoneStands_foldl (fun u _ hne => zoneStands_releaseZone hne u) hzs _)

theorem releasedAt_releaseZones {zones : BitVec 16} (h : zones.getLsbD z = true) (s : State) :
    ReleasedAt z s (releaseZones zones s) :=
  releasedAt_foldl (mem_members.mpr h) s

/-- The attack of zones in turn attacks each of them. -/
theorem attackedAt_foldl (id depth : Nat) {zs : List ZoneNo} (hnodup : zs.Nodup) (h : z ∈ zs) (s : State) :
    AttackedAt id depth z s (zs.foldl (fun u y => attackZone id depth y u) s) := by
  induction zs generalizing s with
  | nil => cases h
  | cons y zs ih =>
    obtain ⟨hy, hnodup⟩ := List.nodup_cons.mp hnodup
    have moved := ducksMove_attackZone id depth y s
    have setting : (attackZone id depth y s).relay.attack = s.relay.attack := by rw [moved.relay]
    rcases List.mem_cons.mp h with rfl | hzs
    · exact (attackedAt_attackZone id depth z s).stands
        (zoneStands_foldl (fun u _ hne => zoneStands_attackZone hne id depth u) hy _)
    · have hne : z ≠ y := fun heq => hy (heq ▸ hzs)
      exact (ih hnodup hzs _).of_stands (zoneStands_attackZone hne id depth s) setting moved.load

theorem attackedAt_attackZones {zones : BitVec 16} (h : zones.getLsbD z = true) (id depth : Nat) (s : State) :
    AttackedAt id depth z s (attackZones id depth zones s) :=
  attackedAt_foldl id depth (nodup_members zones) (mem_members.mpr h) s

end Sets

end Sys2Proof.Machine
end

section
/-! SUPPORT. What a stop makes of its own voice, by the voice's state, and what it leaves of the others (R83). -/

namespace Sys2Proof.Machine

/-- A voice and its level's fade stand as they were. -/
def VoiceStands (v : VoiceNo) (s t : State) : Prop :=
  t.voice v = s.voice v ∧ fadeFor (.voice v) t = fadeFor (.voice v) s

section Stop

variable {s t u : State} {v w : VoiceNo} {n : Nat} {room : Prop}

theorem VoiceStands.refl (v : VoiceNo) (s : State) : VoiceStands v s s := ⟨rfl, rfl⟩

theorem VoiceStands.trans (h : VoiceStands v s t) (g : VoiceStands v t u) : VoiceStands v s u :=
  ⟨g.1.trans h.1, g.2.trans h.2⟩

/-- A stop is about its own voice and that voice's fade alone. -/
theorem StoppedVoice.of_stands (g : VoiceStands v s t) (h : StoppedVoice n room v t u) : StoppedVoice n room v s u := by
  simp only [StoppedVoice, StopFading, g.1, g.2] at h
  exact h

theorem StoppedVoice.stands (h : StoppedVoice n room v s t) (g : VoiceStands v t u) : StoppedVoice n room v s u := by
  simp only [StoppedVoice, StopFading, g.1, g.2]
  exact h

theorem StoppedVoice.mono {room' : Prop} (hroom : room' → room) (h : StoppedVoice n room v s t) :
    StoppedVoice n room' v s t := by
  unfold StoppedVoice at h ⊢
  dsimp only at h ⊢
  split
  · next e => simpa [e] using h
  · next e => simpa [e] using h
  · next e =>
    simp only [e] at h
    exact ⟨h.1, fun hn => ⟨(h.2 hn).1, fun hr => (h.2 hn).2 (hr.imp_left hroom)⟩⟩
  · next e =>
    simp only [e] at h
    exact ⟨h.1, fun hn => ⟨(h.2 hn).1, fun hr => (h.2 hn).2 (hr.imp_left hroom)⟩⟩
  · next e =>
    simp only [e] at h
    exact ⟨h.1, fun hn => ⟨(h.2 hn).1, fun hr => (h.2 hn).2 (hr.imp_left hroom)⟩⟩
  · next e => simpa [e] using h
  · next e => simpa [e] using h

/-! ### Parts of a stop -/

theorem checkEnd_same (id : Nat) (s : State) : checkEnd id s =
    { s with seq := { s.seq with instances := (checkEnd id s).seq.instances }, links := (checkEnd id s).links } := by
  unfold checkEnd
  split
  · split <;> rfl
  · rfl

theorem checkOwner_same (o : Owner) (s : State) : checkOwner o s =
    { s with seq := { s.seq with instances := (checkOwner o s).seq.instances }, links := (checkOwner o s).links } := by
  unfold checkOwner
  split
  · exact checkEnd_same ..
  · rfl

theorem startRamp_same (v : VoiceNo) (s : State) : startRamp v s =
    { s with stream := { s.stream with voices := (startRamp v s).stream.voices } } := by
  unfold startRamp
  split <;> rfl

theorem startRamp_relay (v : VoiceNo) (s : State) : (startRamp v s).relay = s.relay := by
  unfold startRamp
  split <;> rfl

theorem voice_startRamp_ne (h : w ≠ v) (s : State) : (startRamp v s).voice w = s.voice w := by
  unfold startRamp
  split
  · rfl
  · exact State.voice_setVoice_ne s v w _ h

/-- A ramp starts from any state but a ramp (R83). -/
theorem voice_startRamp (h : ∀ p, (s.voice v).state ≠ .stoppingRamp p) : (startRamp v s).voice v = (s.voice v).ramping := by
  unfold startRamp
  split
  · next p hp => exact absurd hp (h p)
  · exact State.voice_setVoice_self ..

theorem voice_freeVoice_self (v : VoiceNo) (s : State) : (freeVoice v s).voice v = Voice.freeRecord :=
  State.voice_setVoice_self (removeFade (.voice v) s) v _

theorem voice_freeVoice_ne (h : w ≠ v) (s : State) : (freeVoice v s).voice w = s.voice w :=
  State.voice_setVoice_ne (removeFade (.voice v) s) v w _ h

theorem freeVoice_fades (v : VoiceNo) (s : State) : (freeVoice v s).fades = s.fades.filter fun e => e.target != .voice v :=
  rfl

/-- A stop fade stands in the list and its voice is STOPPING, or finds no room and the voice ramps (R83, R93). -/
theorem postStopFade_cases (hn : 0 < n) (v : VoiceNo) (s : State) :
    (((fadeFor (.voice v) s).isSome = true ∨ s.fades.length < 256) ∧ postStopFade (stopFade v n) v s =
      { s with fades := (post (stopFade v n) s).fades }.setVoice v { s.voice v with state := .stoppingFade }) ∨
    (fadeFor (.voice v) s = none ∧ ¬ s.fades.length < 256 ∧ postStopFade (stopFade v n) v s =
      startRamp v (raise (stopFade v n).overflow s)) := by
  rcases postFade_cases (stopFade v n) s with ⟨h0, -⟩ | ⟨-, hsome, h⟩ | ⟨-, -, hroom, h⟩ | ⟨-, hnone, hfull, h⟩
  · exact absurd h0 hn.ne'
  · refine .inl ⟨.inl hsome, ?_⟩
    rw [postStopFade, post, h]
    rfl
  · refine .inl ⟨.inr hroom, ?_⟩
    rw [postStopFade, post, h]
    rfl
  · refine .inr ⟨hnone, Nat.not_lt.mpr hfull, ?_⟩
    rw [postStopFade, h]
    show snapFade (stopFade v n) s = _
    rw [snapFade, if_pos ⟨rfl, rfl⟩]
    rfl

/-! ### What a stop leaves -/

/-- The fade list after a stop: as it was, without the voice's entry, or with the stop fade. -/
theorem stopVoice_fades_cases (v : VoiceNo) (n : Nat) (s : State) :
    (stopVoice v n s).fades = s.fades ∨ (stopVoice v n s).fades = s.fades.filter (fun e => e.target != .voice v) ∨
      (0 < n ∧ (stopVoice v n s).fades = (post (stopFade v n) s).fades) := by
  have fading : 0 < n → (postStopFade (stopFade v n) v s).fades = (post (stopFade v n) s).fades := by
    intro hn
    rcases postStopFade_cases hn v s with ⟨-, h⟩ | ⟨hnone, hfull, h⟩
    · rw [h]
      rfl
    · rw [h, startRamp_fades, post_fades, if_neg (show ¬ (stopFade v n).time = 0 from hn.ne'),
        if_neg (by simp [stopFade, hnone]), if_neg hfull]
      rfl
  unfold stopVoice
  split
  · exact .inl rfl
  · refine .inr (.inl ?_)
    rw [freeAndCheck, checkOwner_same]
    rfl
  · split
    · exact .inl (startRamp_fades ..)
    · next hn => exact .inr (.inr ⟨Nat.pos_of_ne_zero hn, fading (Nat.pos_of_ne_zero hn)⟩)
  · split
    · exact .inl (startRamp_fades ..)
    · next hn => exact .inr (.inr ⟨Nat.pos_of_ne_zero hn, fading (Nat.pos_of_ne_zero hn)⟩)
  · split
    · exact .inr (.inl (startRamp_fades ..))
    · next hn => exact .inr (.inr ⟨Nat.pos_of_ne_zero hn, fading (Nat.pos_of_ne_zero hn)⟩)
  · exact .inl rfl
  · exact .inl rfl

theorem fadeFor_stopVoice_ne {T : FadeTarget} (hT : T ≠ .voice v) (n : Nat) (s : State) :
    fadeFor T (stopVoice v n s) = fadeFor T s := by
  rcases stopVoice_fades_cases v n s with h | h | ⟨-, h⟩
  · exact fadeFor_congr h
  · exact fadeFor_filter_ne h hT
  · exact (fadeFor_congr h).trans (fadeFor_post_ne hT)

theorem mem_fades_stopVoice {e : FadeEntry} (he : e ∈ s.fades) (hT : e.target ≠ .voice v) (n : Nat) :
    e ∈ (stopVoice v n s).fades := by
  rcases stopVoice_fades_cases v n s with h | h | ⟨-, h⟩ <;> rw [h]
  · exact he
  · exact List.mem_filter.mpr ⟨he, by simpa using hT⟩
  · exact mem_fades_post he hT

/-- A stop raises no load of which its voice is a target; a stop at once raises none. -/
theorem fadeLoad_stopVoice_le {Ts : List FadeTarget} (hnodup : Ts.Nodup) (hv : .voice v ∈ Ts ∨ n = 0) (s : State) :
    fadeLoad Ts (stopVoice v n s) ≤ fadeLoad Ts s := by
  rcases stopVoice_fades_cases v n s with h | h | ⟨hn, h⟩
  · exact (fadeLoad_congr h).le
  · exact fadeLoad_filter_le hnodup h
  · rw [fadeLoad_congr h]
    exact fadeLoad_post_le hnodup (hv.resolve_right hn.ne')

theorem voice_stopVoice_ne (h : w ≠ v) (n : Nat) (s : State) : (stopVoice v n s).voice w = s.voice w := by
  have fading : 0 < n → (postStopFade (stopFade v n) v s).voice w = s.voice w := by
    intro hn
    rcases postStopFade_cases hn v s with ⟨-, e⟩ | ⟨-, -, e⟩ <;> rw [e]
    · exact State.voice_setVoice_ne _ v w _ h
    · exact voice_startRamp_ne h _
  unfold stopVoice
  split
  · rfl
  · rw [freeAndCheck, checkOwner_same]
    exact voice_freeVoice_ne h s
  · split
    · exact voice_startRamp_ne h s
    · next hn => exact fading (Nat.pos_of_ne_zero hn)
  · split
    · exact voice_startRamp_ne h s
    · next hn => exact fading (Nat.pos_of_ne_zero hn)
  · split
    · exact voice_startRamp_ne h _
    · next hn => exact fading (Nat.pos_of_ne_zero hn)
  · rfl
  · exact State.voice_setVoice_ne s v w _ h

theorem voiceStands_stopVoice (h : w ≠ v) (n : Nat) (s : State) : VoiceStands w s (stopVoice v n s) :=
  ⟨voice_stopVoice_ne h n s, fadeFor_stopVoice_ne (fun e => h (FadeTarget.voice.inj e)) n s⟩

/-! ### What a stop makes of its voice -/

/-- A sounding voice, stopped over a time: it takes the fade wherever there is room for it. -/
theorem stopFading_postStopFade (hn : 0 < n) (h : ∀ p, (s.voice v).state ≠ .stoppingRamp p) :
    (StopFading v .off n s (postStopFade (stopFade v n) v s) ∨
        (postStopFade (stopFade v n) v s).voice v = (s.voice v).ramping) ∧
      ((fadeFor (.voice v) s).isSome = true ∨ s.fades.length < 256 →
        StopFading v .off n s (postStopFade (stopFade v n) v s)) := by
  rcases postStopFade_cases hn v s with ⟨hroom, e⟩ | ⟨hnone, hfull, e⟩
  · have fading : StopFading v .off n s (postStopFade (stopFade v n) v s) := by
      rw [e]
      exact ⟨State.voice_setVoice_self .., _, fadeFor_post_entry (p := stopFade v n) hn hroom, rfl, rfl, rfl, rfl, rfl⟩
    exact ⟨.inl fading, fun _ => fading⟩
  · refine ⟨.inr ?_, fun hroom => ?_⟩
    · rw [e]
      exact voice_startRamp (s := raise _ s) h
    · rw [hnone] at hroom
      exact absurd (hroom.resolve_left (by simp)) hfull

/-- A stop with a fade time takes its voice as its state says (R83). -/
theorem stoppedVoice_stopVoice (hroom : room → (fadeFor (.voice v) s).isSome = true ∨ s.fades.length < 256) :
    StoppedVoice n room v s (stopVoice v n s) := by
  have orRoom : room ∨ (fadeFor (.voice v) s).isSome = true →
      (fadeFor (.voice v) s).isSome = true ∨ s.fades.length < 256 := fun h => h.elim hroom .inl
  have steady : ∀ {st : VoiceState}, (s.voice v).state = st → (∀ p, st ≠ .stoppingRamp p) →
      ∀ p, (s.voice v).state ≠ .stoppingRamp p := fun h hne p => h ▸ hne p
  have fades : (∀ p, (s.voice v).state ≠ .stoppingRamp p) → 0 < n → _ := fun hsteady hn =>
    let h := stopFading_postStopFade (s := s) hn hsteady
    And.intro h.1 fun hr => h.2 (orRoom hr)
  cases hstate : (s.voice v).state with
  | free => simp only [StoppedVoice, stopVoice, hstate]
  | starting f =>
    simp only [StoppedVoice, stopVoice, hstate]
    rw [freeAndCheck, checkOwner_same]
    exact ⟨voice_freeVoice_self v s, fadeFor_removeFade_self (.voice v) s⟩
  | playing =>
    have hsteady := steady hstate fun p => by simp
    simp only [StoppedVoice, stopVoice, hstate]
    refine ⟨fun hn => ?_, fun hn => ?_⟩
    · rw [if_pos hn]
      exact voice_startRamp hsteady
    · rw [if_neg hn.ne']
      exact fades hsteady hn
  | starved =>
    have hsteady := steady hstate fun p => by simp
    simp only [StoppedVoice, stopVoice, hstate]
    refine ⟨fun hn => ?_, fun hn => ?_⟩
    · rw [if_pos hn]
      exact voice_startRamp hsteady
    · rw [if_neg hn.ne']
      exact fades hsteady hn
  | stoppingFade =>
    have hsteady := steady hstate fun p => by simp
    simp only [StoppedVoice, stopVoice, hstate]
    refine ⟨fun hn => ?_, fun hn => ?_⟩
    · rw [if_pos hn]
      exact ⟨voice_startRamp (s := removeFade (.voice v) s) hsteady,
        (fadeFor_congr (startRamp_fades ..)).trans (fadeFor_removeFade_self ..)⟩
    · rw [if_neg hn.ne']
      exact fades hsteady hn
  | stoppingRamp p => simp only [StoppedVoice, stopVoice, hstate]
  | reclaiming p d l c =>
    simp only [StoppedVoice, stopVoice, hstate]
    exact State.voice_setVoice_self ..

/-- A stop at once of an orphan moves that voice, its fade and its tail alone. -/
theorem stopVoice_now_same (horphan : (s.voice v).owner = .orphan) : stopVoice v 0 s =
    { s with
      stream := { s.stream with voices := (stopVoice v 0 s).stream.voices }, fades := (stopVoice v 0 s).fades,
      relay := { s.relay with tails := (stopVoice v 0 s).relay.tails } } := by
  unfold stopVoice
  split
  · rfl
  · rw [freeAndCheck, horphan]
    rfl
  · rw [if_pos rfl]
    exact (startRamp_same v s).trans (by rw [startRamp_fades, startRamp_relay])
  · rw [if_pos rfl]
    exact (startRamp_same v s).trans (by rw [startRamp_fades, startRamp_relay])
  · rw [if_pos rfl]
    exact (startRamp_same v _).trans (by rw [startRamp_fades, startRamp_relay]; rfl)
  · rfl
  · rfl

end Stop

end Sys2Proof.Machine
end

section
/-! SUPPORT. What the end of a call leaves: its list, its zones, its voice, and its record (R151, R152); and the scan of a
queue with at most one call (R149, R150). -/

namespace Sys2Proof.Machine

/-! ### A voice leaves its call (R151, R152) -/

/-- Whether a voice sounds, so that the end of its call gives it a tail (R151). -/
def Voice.sounds (x : Voice) : Bool :=
  match x.state with
  | .playing => true
  | .starved => true
  | .stoppingFade => true
  | .stoppingRamp _ => true
  | _ => false

/-- A voice as it stands once its call has left it, before it is stopped. -/
def orphaned (v : VoiceNo) (s : State) : State := s.setVoice v { s.voice v with owner := .orphan }

section Leave

variable {s : State} {c : Call} {v w : VoiceNo} {z : ZoneNo}

/-- The state in which the leaving voice is stopped. -/
def leaving (c : Call) (v : VoiceNo) (s : State) : State :=
  { orphaned v s with relay := { s.relay with tails :=
      if (s.voice v).sounds then s.relay.tails ++ [{ voice := v, zones := c.zones, page := c.page }] else s.relay.tails } }

theorem leaveCall_eq (c : Call) (v : VoiceNo) (s : State) : leaveCall c v s = stopVoice v 0 (leaving c v s) := by
  unfold leaveCall leaving Voice.sounds
  cases (s.voice v).state <;> rfl

theorem voice_leaving_self : (leaving c v s).voice v = { s.voice v with owner := .orphan } :=
  State.voice_setVoice_self ..

theorem voice_leaving_ne (h : w ≠ v) : (leaving c v s).voice w = s.voice w :=
  State.voice_setVoice_ne s v w _ h

/-- A leaving voice moves itself, its fade and the tails alone. -/
theorem leaveCall_same (c : Call) (v : VoiceNo) (s : State) : leaveCall c v s =
    { s with
      stream := { s.stream with voices := (leaveCall c v s).stream.voices }, fades := (leaveCall c v s).fades,
      relay := { s.relay with tails := (leaveCall c v s).relay.tails } } := by
  rw [leaveCall_eq]
  exact stopVoice_now_same (s := leaving c v s) (congrArg Voice.owner voice_leaving_self)

theorem voiceStands_leaveCall (h : w ≠ v) (c : Call) (s : State) : VoiceStands w s (leaveCall c v s) := by
  rw [leaveCall_eq]
  exact VoiceStands.trans ⟨voice_leaving_ne h, rfl⟩ (voiceStands_stopVoice h 0 _)

theorem zoneStands_leaveCall (z : ZoneNo) (c : Call) (v : VoiceNo) (s : State) : ZoneStands z s (leaveCall c v s) := by
  refine ⟨zone?_congr (by rw [leaveCall_same]), ?_⟩
  rw [leaveCall_eq]
  exact fadeFor_stopVoice_ne (by simp) 0 _

theorem fadeLoad_leaveCall_le {Ts : List FadeTarget} (hnodup : Ts.Nodup) (c : Call) (v : VoiceNo) (s : State) :
    fadeLoad Ts (leaveCall c v s) ≤ fadeLoad Ts s := by
  rw [leaveCall_eq]
  exact fadeLoad_stopVoice_le hnodup (.inr rfl) (leaving c v s)

/-- The leaving voice is stopped as an orphan (R152). -/
theorem stoppedVoice_leaveCall (room : Prop) (c : Call) (v : VoiceNo) (s : State) :
    StoppedVoice 0 room v (orphaned v s) (leaveCall c v s) := by
  have stopped : StoppedVoice 0 False v (leaving c v s) (leaveCall c v s) := by
    rw [leaveCall_eq]
    exact stoppedVoice_stopVoice False.elim
  have here : StoppedVoice 0 False v (orphaned v s) (leaveCall c v s) := stopped.of_stands ⟨rfl, rfl⟩
  unfold StoppedVoice at here ⊢
  dsimp only at here ⊢
  split at here
  · next e => simpa [e] using here
  · next e => simpa [e] using here
  · next e => exact ⟨here.1, fun h => absurd h (Nat.lt_irrefl 0)⟩
  · next e => exact ⟨here.1, fun h => absurd h (Nat.lt_irrefl 0)⟩
  · next e => exact ⟨here.1, fun h => absurd h (Nat.lt_irrefl 0)⟩
  · next e => simpa [e] using here
  · next e => simpa [e] using here

theorem owner_leaveCall (c : Call) (v : VoiceNo) (s : State) : ((leaveCall c v s).voice v).owner = .orphan := by
  have stopped := stoppedVoice_leaveCall True c v s
  have owner : ((orphaned v s).voice v).owner = .orphan := congrArg Voice.owner (State.voice_setVoice_self ..)
  unfold StoppedVoice at stopped
  dsimp only at stopped
  split at stopped
  · rw [stopped, owner]
  · rw [stopped.1]
    rfl
  · rw [stopped.1 rfl]
    exact owner
  · rw [stopped.1 rfl]
    exact owner
  · rw [(stopped.1 rfl).1]
    exact owner
  · rw [stopped, owner]
  · rw [stopped]
    exact owner

theorem stopVoice_now_tails (h : ∀ f, (s.voice v).state ≠ .starting f) : (stopVoice v 0 s).relay = s.relay := by
  unfold stopVoice
  split
  · rfl
  · next f hf => exact absurd hf (h f)
  · exact (congrArg State.relay (if_pos rfl)).trans (startRamp_relay v s)
  · exact (congrArg State.relay (if_pos rfl)).trans (startRamp_relay v s)
  · exact (congrArg State.relay (if_pos rfl)).trans (startRamp_relay v _)
  · rfl
  · rfl

/-- A sounding voice leaves a tail of its call (R151). -/
theorem tail_leaveCall (h : (s.voice v).sounds = true) :
    { voice := v, zones := c.zones, page := c.page } ∈ (leaveCall c v s).relay.tails := by
  have unstarted : ∀ f, ((leaving c v s).voice v).state ≠ .starting f := by
    intro f hf
    rw [voice_leaving_self] at hf
    have hf : (s.voice v).state = .starting f := hf
    rw [Voice.sounds, hf] at h
    cases h
  rw [leaveCall_eq, stopVoice_now_tails unstarted]
  show _ ∈ (if (s.voice v).sounds then _ else _)
  rw [if_pos h]
  exact List.mem_append_right _ (List.mem_singleton_self _)

end Leave

/-! ### The end of a call (R152) -/

/-- What the end of a call leaves. -/
structure CallLeaves (id : Nat) (c : Call) (reason : CallEnd) (s t : State) : Prop where
  same : t = { s with
    stream := { s.stream with voices := t.stream.voices }, fades := t.fades,
    relay := { s.relay with
      zones := t.relay.zones, waiting := s.relay.waiting.filter (fun d => d.id != id),
      playing := s.relay.playing.filter (fun d => d.id != id), tails := t.relay.tails },
    links := t.links }
  events : ∃ es : List Event, (∀ e ∈ es, e.kind = .fadeOverflow) ∧ (fadeLoad duckTargets s ≤ 256 → es = []) ∧
    ∀ r, t.link r = (s.link r).receives s.timing.showClock (es ++ [callEndedEvent c reason])
  newest : Newest (callEndedEvent c reason) t
  load : fadeLoad duckTargets t ≤ fadeLoad duckTargets s
  released : isPlaying id s = true → ∀ z : ZoneNo, c.zones.getLsbD z = true → ReleasedAt z s t
  stands : ∀ z : ZoneNo, isPlaying id s = false ∨ c.zones.getLsbD z = false → ZoneStands z s t
  others : ∀ v, voiceOfCall s id ≠ some v → VoiceStands v s t
  left : ∀ v, voiceOfCall s id = some v → StoppedVoice 0 True v (orphaned v s) t ∧ (t.voice v).owner = .orphan ∧
    ((s.voice v).sounds = true → { voice := v, zones := c.zones, page := c.page } ∈ t.relay.tails)
  fades : ∀ e ∈ s.fades, (∀ v, e.target ≠ .voice v) → (∀ z, e.target ≠ .duck z) → e ∈ t.fades
  entries : ∀ T, (∀ v, T ≠ .voice v) → (∀ z, T ≠ .duck z) → fadeFor T t = fadeFor T s

section EndOfCall

variable {s : State} {id : Nat} {c : Call}

theorem Link.receives_append (now : BitVec 32) (es fs : List Event) (k : Link) :
    Link.receives now (es ++ fs) k = Link.receives now fs (Link.receives now es k) := by
  rw [Link.receives, Link.receives, Link.receives, List.foldl_append]

theorem callOf_mem (h : callOf id s = some c) : (c ∈ s.relay.playing ∨ c ∈ s.relay.waiting) ∧ c.id = id := by
  have found : (s.relay.playing ++ s.relay.waiting).find? (fun d => d.id == id) = some c := h
  exact ⟨List.mem_append.mp (List.mem_of_find?_eq_some found), by simpa using List.find?_some found⟩

/-- The state of a call's end before its voice leaves: the call is off its list, and its zones are released. -/
def callRemoved (id : Nat) (c : Call) (s : State) : State :=
  if isPlaying id s then releaseZones c.zones (removeCall id s) else removeCall id s

theorem ducksMove_callRemoved (id : Nat) (c : Call) (s : State) : DucksMove (removeCall id s) (callRemoved id c s) := by
  unfold callRemoved
  split
  · exact ducksMove_releaseZones ..
  · exact DucksMove.refl _

/-- The end of a call (R152). -/
theorem callLeaves_endCallCore (hc : callOf id s = some c) (reason : CallEnd) :
    CallLeaves id c reason s (endCallCore id reason s) := by
  have moved := ducksMove_callRemoved id c s
  obtain ⟨es, hes, hnone, hlinks⟩ := moved.events
  have ended : endCallCore id reason s = raise (callEndedEvent c reason)
      (match voiceOfCall s id with
        | some v => leaveCall c v (callRemoved id c s)
        | none => callRemoved id c s) := by
    unfold endCallCore
    rw [hc]
    rfl
  have removedReleases : isPlaying id s = true → ∀ z : ZoneNo, c.zones.getLsbD z = true →
      ReleasedAt z s (callRemoved id c s) := by
    intro hplaying z hz
    rw [callRemoved, if_pos hplaying]
    exact ReleasedAt.of_stands (t := removeCall id s) ⟨rfl, rfl⟩ rfl (Nat.le_refl _) (releasedAt_releaseZones hz _)
  have removedStands : ∀ z : ZoneNo, isPlaying id s = false ∨ c.zones.getLsbD z = false →
      ZoneStands z s (callRemoved id c s) := by
    intro z hz
    rw [callRemoved]
    split
    · next hplaying =>
      exact zoneStands_releaseZones (hz.resolve_left (by simp [hplaying])) (removeCall id s)
    · exact ⟨rfl, rfl⟩
  cases hv : voiceOfCall s id with
  | none =>
    rw [hv] at ended
    have ended : endCallCore id reason s = raise (callEndedEvent c reason) (callRemoved id c s) := ended
    rw [ended]
    exact {
      same := by rw [moved.same]; rfl
      events := ⟨es, hes, hnone, fun r => by
        rw [link_raise, hlinks, Link.receives_append, moved.timing]
        rfl⟩
      newest := newest_raise _ _
      load := moved.load
      released := removedReleases
      stands := removedStands
      others := fun v _ => ⟨moved.voice v, moved.others _ (by simp)⟩
      left := fun v h => by rw [hv] at h; cases h
      fades := fun e he _ hz => moved.stands e he hz
      entries := fun T _ hz => moved.others T hz }
  | some v =>
    rw [hv] at ended
    have ended : endCallCore id reason s = raise (callEndedEvent c reason) (leaveCall c v (callRemoved id c s)) := ended
    have left := leaveCall_same c v (callRemoved id c s)
    have links : ∀ r, (leaveCall c v (callRemoved id c s)).link r = (callRemoved id c s).link r := fun r => by
      rw [left]
      rfl
    have clock : (leaveCall c v (callRemoved id c s)).timing = s.timing := by
      rw [left]
      exact moved.timing
    have voiceSame : ∀ w, (callRemoved id c s).voice w = s.voice w := moved.voice
    rw [ended]
    exact {
      same := by rw [left, moved.same]; rfl
      events := ⟨es, hes, hnone, fun r => by
        rw [link_raise, links, hlinks, Link.receives_append, clock]
        rfl⟩
      newest := newest_raise _ _
      load := (fadeLoad_leaveCall_le duckTargets_nodup c v _).trans moved.load
      released := fun hp z hz => (removedReleases hp z hz).stands (zoneStands_leaveCall z c v _)
      stands := fun z hz => (removedStands z hz).trans (zoneStands_leaveCall z c v _)
      others := fun w hw => by
        have hne : w ≠ v := fun h => hw (h ▸ hv)
        exact VoiceStands.trans (t := callRemoved id c s) ⟨voiceSame w, moved.others _ (by simp)⟩
          (voiceStands_leaveCall hne c _)
      left := fun w hw => by
        obtain rfl := Option.some.inj (hv.symm.trans hw)
        have here : VoiceStands v (orphaned v s) (orphaned v (callRemoved id c s)) := by
          refine ⟨?_, moved.others _ (by simp)⟩
          unfold orphaned
          rw [State.voice_setVoice_self, State.voice_setVoice_self, voiceSame]
        exact ⟨(stoppedVoice_leaveCall True c v _).of_stands here, owner_leaveCall ..,
          fun hsounds => tail_leaveCall (by rw [voiceSame]; exact hsounds)⟩
      fades := fun e he hvoice hz => by
        show e ∈ (leaveCall c v (callRemoved id c s)).fades
        rw [leaveCall_eq]
        exact mem_fades_stopVoice (s := leaving c v (callRemoved id c s)) (moved.stands e he hz) (hvoice v) 0
      entries := fun T hvoice hz => by
        show fadeFor T (leaveCall c v (callRemoved id c s)) = _
        rw [leaveCall_eq]
        exact (fadeFor_stopVoice_ne (hvoice v) 0 (leaving c v (callRemoved id c s))).trans (moved.others T hz) }

end EndOfCall

/-! ### The scan of a queue (R149, R150) -/

section Scan

variable {s : State} {c : Call}

theorem scan_nil (h : s.relay.waiting = []) : scan s = s := by
  rw [scan, scanFuel, h]
  rfl

/-- A single waiting call that may not start stays. -/
theorem scan_waits (h : s.relay.waiting = [c]) (hbusy : mayStart c 0 s = false) : scan s = s := by
  have stays : scanOnce [c] 0 false s = (s, false) := by
    rw [scanOnce, hbusy]
    rfl
  rw [scan, scanFuel, h, stays]
  rfl

/-- A single waiting call that may start starts, and the scan is done where no call ended meanwhile. -/
theorem scan_starts (h : s.relay.waiting = [c]) (hfree : mayStart c 0 s = true)
    (hended : (startCall c s).callEnded = false) : scan s = (startCall c s).state := by
  have starts : scanOnce [c] 0 false s = ((startCall c s).state, false) := by
    rw [scanOnce, if_pos hfree]
    exact congrArg (fun b => ((startCall c s).state, b)) hended
  rw [scan, scanFuel, h, starts]
  rfl

/-- A call may start where none of its zones carries a call. -/
theorem mayStart_iff : mayStart c 0 s = true ↔
    ∀ (z : ZoneNo) (zn : Zone), c.zones.getLsbD z = true → s.zone? z = some zn → zn.carried = none := by
  have unclaimed : (c.zones &&& 0 == 0) = true := by simp
  unfold mayStart
  rw [unclaimed, Bool.true_and, List.all_eq_true]
  simp only [mem_members]
  refine ⟨fun h z zn hz hzn => ?_, fun h z hz => ?_⟩
  · have free := h z hz
    rw [zoneBusy, hzn] at free
    simpa using free
  · cases hzn : s.zone? z with
    | none => rw [zoneBusy, hzn]; rfl
    | some zn => simp [zoneBusy, hzn, h z zn hz hzn]

end Scan

end Sys2Proof.Machine
end

section
/-! The settling of the obligation of the ends of calls by request and by the gate. -/

namespace Sys2Proof.Machine

section Ends

variable {s t u : State} {id : Nat} {c : Call} {v : VoiceNo} {z : ZoneNo}

/-- The release of a zone is about the zones, the setting and the fade list alone. -/
theorem Released.of_eq (hrelay : u.relay = s.relay) (hfades : u.fades = s.fades) (h : Released z u t) :
    Released z s t := by
  intro a ha
  have same : u.zone? z = s.zone? z := zone?_congr (by rw [hrelay])
  rw [← same] at ha
  have released := h a ha
  rw [hrelay, hfades, fadeFor_congr hfades] at released
  exact released

theorem callOf_congr (h : t.relay = s.relay) (id : Nat) : callOf id t = callOf id s := by
  rw [callOf, callOf, h]

/-- A call of an id is PLAYING where the call of that id is one of the playing ones. -/
theorem isPlaying_iff (hc : callOf id s = some c) : isPlaying id s = true ↔ c ∈ s.relay.playing := by
  obtain ⟨-, hid⟩ := callOf_mem hc
  have found : (s.relay.playing ++ s.relay.waiting).find? (fun d => d.id == id) = some c := hc
  rw [List.find?_append] at found
  refine ⟨fun h => ?_, fun h => List.any_eq_true.mpr ⟨c, h, by simpa using hid⟩⟩
  obtain ⟨d, hd, hdid⟩ := List.any_eq_true.mp h
  have some : (s.relay.playing.find? fun d => d.id == id).isSome = true := List.find?_isSome.mpr ⟨d, hd, hdid⟩
  obtain ⟨e, he⟩ := Option.isSome_iff_exists.mp some
  rw [he, Option.some_or] at found
  exact Option.some.inj found ▸ List.mem_of_find?_eq_some he

theorem find?_playing (hc : callOf id s = some c) (hplaying : c ∈ s.relay.playing) :
    s.relay.playing.find? (fun d => d.id == id) = some c := by
  have found : (s.relay.playing ++ s.relay.waiting).find? (fun d => d.id == id) = some c := hc
  rw [List.find?_append] at found
  cases hfind : s.relay.playing.find? (fun d => d.id == id) with
  | none => exact absurd (List.find?_eq_none.mp hfind c hplaying) (by simpa using (callOf_mem hc).2)
  | some d => rwa [hfind, Option.some_or] at found

/-- The voice of a call is the only one that the call owns. -/
theorem voiceOfCall_eq (hv : (s.voice v).owner = .call id) (honly : ∀ w, w ≠ v → (s.voice w).owner ≠ .call id) :
    voiceOfCall s id = some v := by
  unfold voiceOfCall
  cases hfind : voiceNos.find? (fun v => (s.voice v).ownedByCall id) with
  | none => exact absurd (List.find?_eq_none.mp hfind v (mem_voiceNos v)) (by simp [Voice.ownedByCall, hv])
  | some w =>
    have hw : (s.voice w).owner = .call id := by simpa [Voice.ownedByCall] using List.find?_some hfind
    by_cases hne : w = v
    · rw [hne]
    · exact absurd hw (honly w hne)

theorem voice_orphaned (v : VoiceNo) (s : State) : (orphaned v s).voice v = { s.voice v with owner := .orphan } :=
  State.voice_setVoice_self ..

/-- With no other call waiting, the end of a call is its own effects alone (R152). -/
theorem endCall_eq (hc : callOf id s = some c) (hwaiting : ∀ d ∈ s.relay.waiting, d.id = id) (reason : CallEnd) :
    endCall id reason s = endCallCore id reason s ∧ (endCallCore id reason s).relay.waiting = [] := by
  have leaves := callLeaves_endCallCore hc reason
  have emptied : (endCallCore id reason s).relay.waiting = [] := by
    rw [leaves.same]
    exact List.filter_eq_nil_iff.mpr fun d hd => by simp [hwaiting d hd]
  refine ⟨?_, emptied⟩
  unfold endCall
  rw [hc]
  exact scan_nil emptied

/-- A voice at the end of its call: freed from STARTING, on the declick ramp from PLAYING (R151, R152). -/
theorem CallLeaves.voice_starting {reason : CallEnd} (h : CallLeaves id c reason s t) (hv : voiceOfCall s id = some v)
    {f : Option Nat} (hstate : (s.voice v).state = .starting f) : t.voice v = Voice.freeRecord := by
  obtain ⟨stopped, -, -⟩ := h.left v hv
  simp only [StoppedVoice, voice_orphaned, hstate] at stopped
  exact stopped.1

theorem CallLeaves.voice_playing {reason : CallEnd} (h : CallLeaves id c reason s t) (hv : voiceOfCall s id = some v)
    (hstate : (s.voice v).state = .playing) : t.voice v = { (s.voice v).ramping with owner := .orphan } ∧
      { voice := v, zones := c.zones, page := c.page } ∈ t.relay.tails := by
  obtain ⟨stopped, -, tail⟩ := h.left v hv
  simp only [StoppedVoice, voice_orphaned, hstate] at stopped
  exact ⟨stopped.1 trivial, tail (by rw [Voice.sounds, hstate])⟩

end Ends

end Sys2Proof.Machine

namespace Sys2Proof.Proofs
open Sys2Proof.Machine

/-- Settles O57: each of the three rows ends the call by `endCall`, whose effects `CallLeaves` says. -/
theorem callsEnd : Obligations.CallsEnd := by
  intro l tag id s hrun
  refine ⟨fun hs => ?_, fun hgate => ?_, fun c i reason done hc hwaiting how => ?_⟩
  · have hs' : Serves l 0x65 s := hs.of_permitted fun h => h
    have sameCall : callOf id.toNat (reloadPresence l s) = callOf id.toNat s :=
      callOf_congr (reloadPresence_relay l s) _
    refine ⟨fun hnone => ⟨next_serve_of_serves hs tag ?_, next_serve_of_serves hs' tag ?_⟩,
      fun c hc => ⟨fun hsource => ⟨next_serve_of_serves hs tag ?_, next_serve_of_serves hs' tag ?_⟩,
        fun r a b hsource => next_serve_of_serves hs tag ?_⟩⟩
    · rw [callEndBody, sameCall, hnone]
      rfl
    · rw [cancelCallBody, sameCall, hnone]
      rfl
    · rw [callEndBody, sameCall, hc]
      dsimp only
      rw [hsource]
      rfl
    · rw [cancelCallBody, sameCall, hc]
      dsimp only
      rw [hsource]
      rfl
    · rw [callEndBody, sameCall, hc]
      dsimp only
      rw [hsource]
      rfl
  · have stays : expireCall id.toNat s = s := by
      unfold expireCall
      split
      · next d hd =>
        split
        · next g hg => exact if_neg (hgate d g hd hg).ne'
        · rfl
      · rfl
    exact congrArg Host.Outcome.next ((occur_running _ s hrun).trans stays)
  · obtain ⟨u, hrelay, hfades, hstream, hlinks, hexec⟩ : ∃ u : State, u.relay = s.relay ∧ u.fades = s.fades ∧
        u.stream = s.stream ∧ u.timing = s.timing ∧ exec i s = done (endCall id.toNat reason u) := by
      rcases how with ⟨hs, ⟨n, hsource⟩, rfl, rfl, rfl⟩ | ⟨hs, hsource, rfl, rfl, rfl⟩ | ⟨hplaying, ⟨g, hg, hleft⟩, rfl, rfl, rfl⟩
      · refine ⟨reloadPresence l s, reloadPresence_relay .., reloadPresence_fades .., reloadPresence_stream ..,
          reloadPresence_timing .., next_serve_of_serves hs tag ?_⟩
        rw [callEndBody, callOf_congr (reloadPresence_relay l s), hc]
        dsimp only
        rw [hsource]
        rfl
      · refine ⟨reloadPresence l s, reloadPresence_relay .., reloadPresence_fades .., reloadPresence_stream ..,
          reloadPresence_timing .., next_serve_of_serves hs tag ?_⟩
        rw [cancelCallBody, callOf_congr (reloadPresence_relay l s), hc]
        dsimp only
        split
        · exact absurd ‹_› hsource
        · rfl
      · refine ⟨s, rfl, rfl, rfl, rfl, congrArg Host.Outcome.next ((occur_running _ s hrun).trans ?_)⟩
        rw [expireCall, find?_playing hc hplaying]
        dsimp only
        rw [hg]
        exact if_pos hleft
    have hcu : callOf id.toNat u = some c := (callOf_congr hrelay _).trans hc
    obtain ⟨ended, emptied⟩ := endCall_eq hcu (by rw [hrelay]; exact hwaiting) reason
    have leaves := callLeaves_endCallCore hcu reason
    have voiceSame : ∀ v, u.voice v = s.voice v := fun v => by rw [State.voice, State.voice, hstream]
    obtain ⟨-, hcid⟩ := callOf_mem hc
    have byteId : BitVec.ofNat 8 c.id = id := by rw [hcid, BitVec.ofNat_toNat, BitVec.setWidth_eq]
    rw [ended] at hexec
    refine ⟨_, hexec, emptied, ?_, ?_, fun z hplaying hz => ?_, fun z hz => ?_, fun v hv honly => ?_⟩
    · rw [leaves.same, hrelay]
    · have newest := leaves.newest
      rw [callEndedEvent, byteId] at newest
      exact newest
    · refine (leaves.released ?_ z hz).released.of_eq hrelay hfades
      rw [isPlaying_iff hcu, hrelay]
      exact hplaying
    · refine (leaves.stands z (hz.imp_left fun hnot => ?_)).1.trans (zone?_congr (by rw [hrelay]))
      rw [← Bool.not_eq_true, isPlaying_iff hcu, hrelay]
      exact hnot
    · rw [hcid] at hv honly
      have owned : voiceOfCall u id.toNat = some v :=
        voiceOfCall_eq (by rw [voiceSame]; exact hv) (fun w hw => by rw [voiceSame]; exact honly w hw)
      obtain ⟨-, howner, -⟩ := leaves.left v owned
      refine ⟨howner, fun ⟨f, hf⟩ => leaves.voice_starting owned (by rw [voiceSame]; exact hf), fun hplaying => ?_⟩
      have plays := leaves.voice_playing owned (by rw [voiceSame]; exact hplaying)
      rwa [voiceSame] at plays

end Sys2Proof.Proofs
end

section
/-! SUPPORT. The acceptance of a call into an empty queue, and the stop mute's posts. -/

namespace Sys2Proof.Machine

section Accept

variable {s : State} {c : Call}

/-- An id that the counter names and no call has is taken (R145). -/
theorem takeCallId_eq (hwaiting : s.relay.waiting = []) (hfree : ∀ d ∈ s.relay.playing, d.id ≠ s.relay.nextId) :
    takeCallId s = s.relay.nextId := by
  have unused : ((s.relay.waiting ++ s.relay.playing).map (·.id)).contains s.relay.nextId = false := by
    rw [hwaiting]
    simpa using hfree
  unfold takeCallId freshId
  rw [if_neg (by rw [unused]; decide)]

/-- The state in which the queue is scanned after a call was accepted into an empty queue. -/
def queued (c : Call) (s : State) : State :=
  { s with relay := { s.relay with
    waiting := [{ c with id := takeCallId s, arrival := s.relay.arrivals }], nextId := nextId (takeCallId s),
    arrivals := s.relay.arrivals + 1 } }

/-- A call that preempts none joins the empty queue, which is scanned (R146, R149). -/
theorem acceptCall_alone (hwaiting : s.relay.waiting = [])
    (hnone : ∀ d ∈ s.relay.playing, c.priority ≤ d.priority ∨ d.zones &&& c.zones = 0) :
    acceptCall c s = (scan (queued c s), takeCallId s) := by
  have none_preempted : s.relay.playing.filter
      (fun d => decide (d.priority < c.priority) && (d.zones &&& c.zones) != 0) = [] := by
    rw [List.filter_eq_nil_iff]
    intro d hd
    rcases hnone d hd with h | h
    · simp [Nat.not_lt.mpr h]
    · simp [h]
  unfold acceptCall preempted
  dsimp only
  rw [none_preempted, hwaiting]
  rfl

/-- What the start of the only waiting call makes of the state (R150). -/
theorem beginCall_eq (hwaiting : s.relay.waiting = [c]) (hfree : ∀ d ∈ s.relay.playing, d.id ≠ c.id)
    (v : Option VoiceNo) : beginCall c v s =
      raise (callStartedEvent c v) (attackZones c.id c.depth c.zones
        { s with relay := { s.relay with
          waiting := [], playing := s.relay.playing ++ [{ c with gate := startGate c s }] } }) := by
  have left : [c].filter (fun d => d.id != c.id) = [] := by simp
  have kept : s.relay.playing.filter (fun d => d.id != c.id) = s.relay.playing := by
    rw [List.filter_eq_self]
    intro d hd
    simpa using hfree d hd
  unfold beginCall removeCall
  dsimp only
  rw [hwaiting, left, kept]

/-- A call without a voice that may start is started by the scan (R150). -/
theorem scan_begins (hwaiting : s.relay.waiting = [c]) (hfree : mayStart c 0 s = true)
    (hsource : c.source.isRecorded = false) : scan s = beginCall c none s := by
  have starts : startCall c s = { state := beginCall c none s, started := true, callEnded := false } := by
    unfold startCall
    split
    · next h => rw [h] at hsource; cases hsource
    · rfl
  rw [scan_starts hwaiting hfree (by rw [starts]), starts]

end Accept

/-- Without an ATTACHED link an event goes nowhere (R174). -/
theorem raise_detached {s : State} (h : ∀ r, (s.link r).attached = false) (e : Event) : raise e s = s := by
  have same : ∀ r, Link.append { e with clock := s.timing.showClock } (s.link r) = s.link r := fun r => by
    unfold Link.append
    rw [if_neg (by rw [h r]; decide)]
  have links : s.links.map (Link.append { e with clock := s.timing.showClock }) = s.links := by
    have c := same .console
    have p := same .prompt
    have m := same .monitor
    unfold Links.map
    rw [show Link.append _ s.links.console = _ from c, show Link.append _ s.links.prompt = _ from p,
      show Link.append _ s.links.monitor = _ from m]
    rfl
  rw [raise, links]

/-! ### The stop mute (R161, R163) -/

section Mute

variable {s : State} {g : Level} {n : Nat}

/-- The stop mute over time, where there is room: its level stands, and the entry is in the list. -/
theorem post_mute_over (hn : 0 < n) (hroom : (fadeFor .stopMute s).isSome = true ∨ s.fades.length < 256) :
    post (mutePost g n) s = { s with fades := (post (mutePost g n) s).fades } ∧
      fadeFor .stopMute (post (mutePost g n) s) = some {
        target := .stopMute, start := s.showStop.mute, goal := g, n := n, k := 0, due := false, action := .nothing,
        poster := .showStop } := by
  refine ⟨?_, fadeFor_post_entry (p := mutePost g n) hn hroom⟩
  rcases postFade_cases (mutePost g n) s with ⟨h0, -⟩ | ⟨-, -, h⟩ | ⟨-, -, -, h⟩ | ⟨-, hnone, hfull, -⟩
  · exact absurd h0 hn.ne'
  · rw [post, h]
  · rw [post, h]
  · rw [show fadeFor .stopMute s = none from hnone] at hroom
    exact absurd (hroom.resolve_left (by simp)) (Nat.not_lt.mpr hfull)

/-- The stop mute at once (R92, R164). -/
theorem post_mute_now : post (mutePost g 0) s = stopMuteReport
    { s with showStop := { s.showStop with mute := g }, fades := s.fades.filter fun e => e.target != .stopMute } := by
  rw [post, postFade_atOnce rfl]
  rfl

end Mute

end Sys2Proof.Machine

namespace Sys2Proof.Proofs
open Sys2Proof.Machine

/-- Settles O60: the values after reset are those of `State.reset`; with the line asserted the show-stop call is
accepted into an empty queue, on no zone and with no link to tell. -/
theorem deviceReset : Obligations.DeviceReset := by
  refine fun s => ⟨rfl, ?_⟩
  rintro x k u rfl rfl rfl
  refine ⟨rfl, rfl, rfl, ?_⟩
  rintro w rfl
  obtain ⟨u, hu⟩ : ∃ u : State, u = { { State.reset with pending := s.pending } with showStop :=
      { { State.reset with pending := s.pending }.showStop with
        state := .stopped, mute := .off, line := .asserted, sampleNew := .asserted, sampleOld := .asserted } } := ⟨_, rfl⟩
  have relay : u.relay = State.reset.relay := by rw [hu]
  have links : ∀ r, (u.link r).attached = false := by
    rw [hu]
    intro r
    cases r <;> rfl
  have absent : zonesPresent u = 0 := by rw [zonesPresent, relay]; rfl
  have accepted := acceptCall_alone (c := showStopCall 0) (s := u) (by rw [relay]; rfl)
    (by rw [relay]; exact fun d hd => absurd hd List.not_mem_nil)
  have idOne : takeCallId u = 1 :=
    (takeCallId_eq (by rw [relay]; rfl) (by rw [relay]; exact fun d hd => absurd hd List.not_mem_nil)).trans
      (by rw [relay]; rfl)
  have created : createShowStopCall u = { u with relay := { u.relay with
      playing := [{ id := 1, priority := 4, source := .announce, zones := 0, page := 0, depth := 600,
                    origin := .showStop, arrival := 0, gate := none }],
      nextId := 2, arrivals := 1 } } := by
    have queue : (queued (showStopCall 0) u).relay.waiting =
        [{ showStopCall 0 with id := 1, arrival := u.relay.arrivals }] := by
      rw [queued, idOne]
    have unclaimed : ∀ (z : ZoneNo) (zn : Zone), (0 : BitVec 16).getLsbD z = true → u.zone? z = some zn →
        zn.carried = none := fun z zn hz => by simp at hz
    rw [createShowStopCall, absent, accepted, scan_begins queue (mayStart_iff.mpr unclaimed) rfl,
      beginCall_eq queue (by
        show ∀ d ∈ u.relay.playing, _
        rw [relay]
        exact fun d hd => absurd hd List.not_mem_nil)]
    have none_attacked : ∀ (d : Call) (t : State), d.zones = 0 → attackZones d.id d.depth d.zones t = t :=
      fun d t hd => by rw [hd]; rfl
    rw [none_attacked _ _ rfl]
    refine (raise_detached ?_ _).trans ?_
    · exact links
    · rw [queued, idOne, relay]
      rfl
  have released : ∀ mhreq, releaseReset .asserted mhreq s =
      if mhreq then requestHold (createShowStopCall u) else createShowStopCall u := fun mhreq => by rw [hu]; rfl
  refine ⟨congrArg Host.Outcome.next ((released false).trans ?_), congrArg Host.Outcome.next ((released true).trans ?_)⟩
  · rw [created, hu]
    rfl
  · rw [created, hu]
    rfl

end Sys2Proof.Proofs
end

section
/-! The settling of the obligation of RESUME, the settings of the Show Stop Controller and the line's release. -/

namespace Sys2Proof.Machine

section Resume

variable {s : State}

/-- What RESUME finds in the relay: no call waits, and the only playing call, if any, is the show-stop call. -/
def OnlyAnnounces (s : State) : Prop :=
  s.relay.waiting = [] ∧ (∀ d ∈ s.relay.playing, d.source = .announce) ∧ s.relay.playing.length ≤ 1

/-- The end of the show-stop call leaves no call, the show state, and room for the stop mute (R156, R163). -/
theorem endShowStopCall_spec (h : OnlyAnnounces s) :
    (endShowStopCall s).relay.playing = [] ∧ (endShowStopCall s).showStop = s.showStop ∧
      (∀ d ∈ s.relay.playing, ∀ z : ZoneNo, d.zones.getLsbD z = true → ReleasedAt z s (endShowStopCall s)) ∧
      fadeLoad duckTargets (endShowStopCall s) ≤ fadeLoad duckTargets s ∧
      fadeFor .stopMute (endShowStopCall s) = fadeFor .stopMute s := by
  obtain ⟨hwaiting, hannounce, hone⟩ := h
  match hplaying : s.relay.playing with
  | [] =>
    have gone : endShowStopCall s = s := by
      unfold endShowStopCall findShowStopCall
      rw [hplaying]
      rfl
    rw [gone]
    exact ⟨hplaying, rfl, fun d hd => absurd hd List.not_mem_nil, Nat.le_refl _, rfl⟩
  | [c] =>
    have source : c.source = .announce := hannounce c (hplaying ▸ List.mem_singleton_self c)
    have found : findShowStopCall s = some c := by
      unfold findShowStopCall
      rw [hplaying]
      exact List.find?_cons_of_pos (by simp [source])
    have hc : callOf c.id s = some c := by
      unfold callOf
      rw [hplaying]
      exact List.find?_cons_of_pos (by simp)
    have ended : endShowStopCall s = endCallCore c.id .resumed s := by
      unfold endShowStopCall
      rw [found]
      exact (endCall_eq hc (by rw [hwaiting]; exact fun d hd => absurd hd List.not_mem_nil) .resumed).1
    have leaves := callLeaves_endCallCore hc .resumed
    rw [ended]
    refine ⟨?_, by rw [leaves.same], fun d hd z hz => ?_, leaves.load, leaves.entries _ (by simp) (by simp)⟩
    · rw [leaves.same, hplaying]
      simp
    · obtain rfl := List.mem_singleton.mp hd
      exact leaves.released ((isPlaying_iff hc).mpr (hplaying ▸ List.mem_singleton_self d)) z hz
  | a :: b :: ds =>
    rw [hplaying] at hone
    simp at hone

/-- A post to the stop mute leaves every zone as it was. -/
theorem zoneStands_post_mute (z : ZoneNo) (g : Level) (n : Nat) (s : State) : ZoneStands z s (post (mutePost g n) s) := by
  refine ⟨?_, fadeFor_post_ne (p := mutePost g n) (by simp [mutePost])⟩
  have relay : (post (mutePost g n) s).relay = s.relay := by
    have reported : ∀ u, (reportTarget .stopMute u).relay = u.relay := fun u => by
      unfold reportTarget stopMuteReport
      dsimp only
      split <;> rfl
    rcases postFade_cases (mutePost g n) s with ⟨-, h⟩ | ⟨-, -, h⟩ | ⟨-, -, -, h⟩ | ⟨-, -, -, h⟩ <;> rw [post, h]
    · exact reported _
    · exact reported _
  exact zone?_congr (by rw [relay])

end Resume

end Sys2Proof.Machine

namespace Sys2Proof.Proofs
open Sys2Proof.Machine

/-- Settles O59: RESUME in STOPPED is the end of the show-stop call, its record, and the post of the stop mute. -/
theorem resumeAndStopSettings : Obligations.ResumeAndStopSettings := by
  refine ⟨fun l tag s hs => ⟨fun hline => next_serve_of_serves hs tag ?_, fun hline hstate =>
    next_serve_of_serves hs tag ?_, fun hline hstate hwaiting hannounce hone hroom => ?_⟩, fun l tag s hs =>
    ⟨fun stop resume a b ha hb => next_serve_of_serves hs tag ?_, fun input level hin hne =>
      next_serve_of_serves (c := 0x73) (hs.of_permitted fun h => h) tag ?_, fun input level i x hi hx =>
      next_serve_of_serves (c := 0x73) (hs.of_permitted fun h => h) tag ?_⟩, fun s hrun => ⟨fun hnot => ?_, fun hline hnew hold => ?_⟩⟩
  · rw [resumeBody, reloadPresence_showStop]
    exact if_pos hline
  · rw [resumeBody, reloadPresence_showStop, hline, if_neg (by decide), if_neg hstate, acceptShowState,
      reloadPresence_showStop]
    rfl
  · obtain ⟨u, hu⟩ : ∃ u, u = setShowState .resuming (reloadPresence l s) := ⟨_, rfl⟩
    have relay : u.relay = s.relay := by rw [hu]; exact reloadPresence_relay l s
    have fades : u.fades = s.fades := by rw [hu]; exact reloadPresence_fades l s
    have stopState : u.showStop = { s.showStop with state := .resuming } := by
      rw [hu, setShowState, reloadPresence_showStop]
    obtain ⟨ended, kept, released, load, mute⟩ :=
      endShowStopCall_spec (s := u) (by rw [OnlyAnnounces, relay]; exact ⟨hwaiting, hannounce, hone⟩)
    obtain ⟨e, he⟩ : ∃ e, e = raise { kind := .showResumed, reason := 0 } (endShowStopCall u) := ⟨_, rfl⟩
    have eStop : e.showStop = { s.showStop with state := .resuming } := by
      rw [he]
      exact kept.trans stopState
    have resumes : resumeShow (reloadPresence l s) = post (mutePost (.db 0) s.showStop.tResume) e := by
      rw [resumeShow, ← hu, ← he, eStop]
    have room : e.fades.length < 256 := by
      have bound := fadeLoad_le duckTargets u
      have targets : duckTargets.length = 16 := by simp [duckTargets]
      have own : e.fades.length ≤ fadeLoad duckTargets (endShowStopCall u) := by
        rw [he]
        exact Nat.le_add_right ..
      rw [fades] at bound
      omega
    refine ⟨post (mutePost (.db 0) s.showStop.tResume) e, next_serve_of_serves hs tag ?_, ?_, fun d hd z hz => ?_,
      fun hpos => ?_, fun hzero => ?_⟩
    · rw [resumeBody, reloadPresence_showStop, hline, if_neg (by decide), if_pos hstate, resumes]
      rfl
    · have playing : e.relay.playing = [] := by
        rw [he]
        exact ended
      rcases Nat.eq_zero_or_pos s.showStop.tResume with hzero | hpos
      · rw [hzero, post_mute_now]
        unfold stopMuteReport
        split <;> exact playing
      · rw [(post_mute_over hpos (.inr room)).1]
        exact playing
    · have here : ReleasedAt z u e := by
        rw [he]
        exact (released d (by rw [relay]; exact hd) z hz).stands ⟨rfl, rfl⟩
      exact (here.stands (zoneStands_post_mute z _ _ e)).released.of_eq relay fades
    · obtain ⟨same, entry⟩ := post_mute_over (g := .db 0) hpos (.inr room)
      refine ⟨?_, ?_, ?_⟩
      · rw [same]
        exact eStop
      · rw [same, he]
        exact newest_raise { kind := .showResumed, reason := 0 } (endShowStopCall u)
      · rw [entry, eStop]
    · have now : post (mutePost (.db 0) s.showStop.tResume) e =
          raise { kind := .showResumed, reason := 1 }
            { e with showStop := { s.showStop with state := .normal, mute := .db 0 },
                     fades := e.fades.filter fun f => f.target != .stopMute } := by
        rw [hzero, post_mute_now, stopMuteReport, eStop]
      rw [now]
      refine ⟨rfl, ?_, newest_raise _ _⟩
      exact fadeFor_removeFade_self .stopMute e
  · rw [clampNat_eq (by decide), clampNat_eq (by decide), Nat.zero_max, Nat.zero_max, Nat.min_comm, ← ha,
      Nat.min_comm, ← hb, reloadPresence_showStop]
    rfl
  · have unnamed : announceOf input = none := by
      rw [announceOf, if_neg (show ¬ input = 255#8 from hne), index?_of_le hin]
      rfl
    rw [setAnnounceBody, unnamed]
    rfl
  · have named : announceOf input = some i ∧ announceCode i = input.toNat := by
      rcases hi with ⟨rfl, rfl⟩ | ⟨n, hn, rfl⟩
      · exact ⟨rfl, rfl⟩
      · refine ⟨?_, hn⟩
        have other : input ≠ 255#8 := by
          intro h
          have := n.isLt
          rw [h] at hn
          simp at hn
          omega
        rw [announceOf, if_neg other, index?_of_val hn]
        rfl
    rw [setAnnounceBody, named.1]
    dsimp only
    rw [named.2, clampNumeric_levelOfBits (by decide) (by decide), ← hx, reloadPresence_showStop]
    rfl
  · have stays : lineChanges .deasserted s = false := by
      rcases hnot with h | h | h <;> simp [lineChanges, h]
    refine congrArg Host.Outcome.next ((occur_running _ s hrun).trans ?_)
    rw [deassertLine, stays]
    rfl
  · have changes : lineChanges .deasserted s = true := by simp [lineChanges, hline, hnew, hold]
    refine congrArg Host.Outcome.next ((occur_running _ s hrun).trans ?_)
    rw [deassertLine, if_pos changes]
    rfl

end Sys2Proof.Proofs
end

section
/-! SUPPORT. What calls leave of the fades that are neither a voice's nor a duck's, and that voices without a call keep
quiet while calls start and end (R152, R161). -/

namespace Sys2Proof.Machine

/-- A voice that no longer sounds of its own: FREE, STOPPING, or RECLAIMING with its start cancelled. -/
def VoiceState.quiet (st : VoiceState) : Prop :=
  st = .free ∨ st = .stoppingFade ∨ (∃ p, st = .stoppingRamp p) ∨ ∃ p d x, st = .reclaiming p d x true

/-- Every voice that no call owns is quiet. -/
def Quiet (s : State) : Prop := ∀ v, (s.voice v).ownedBySomeCall = false → (s.voice v).state.quiet

/-- A stopped voice is quiet. -/
theorem StoppedVoice.quiet {n : Nat} {room : Prop} {v : VoiceNo} {s t : State} (h : StoppedVoice n room v s t) :
    (t.voice v).state.quiet := by
  have faded : ∀ {x : Voice}, StopFading v .off n s t ∨ t.voice v = x.ramping → (t.voice v).state.quiet := by
    rintro x (⟨h, -⟩ | h)
    · rw [h]
      exact .inr (.inl rfl)
    · rw [h]
      exact .inr (.inr (.inl ⟨0, rfl⟩))
  unfold StoppedVoice at h
  dsimp only at h
  split at h
  · next e =>
    rw [h, e]
    exact .inl rfl
  · rw [h.1]
    exact .inl rfl
  · rcases Nat.eq_zero_or_pos n with hn | hn
    · exact faded (.inr (h.1 hn))
    · exact faded (h.2 hn).1
  · rcases Nat.eq_zero_or_pos n with hn | hn
    · exact faded (.inr (h.1 hn))
    · exact faded (h.2 hn).1
  · rcases Nat.eq_zero_or_pos n with hn | hn
    · exact faded (.inr (h.1 hn).1)
    · exact faded (h.2 hn).1
  · next p e =>
    rw [h, e]
    exact .inr (.inr (.inl ⟨p, rfl⟩))
  · next p d x c e =>
    rw [h]
    exact .inr (.inr (.inr ⟨p, d, x, rfl⟩))

/-- What operations of calls leave. -/
structure CallFrame (s t : State) : Prop where
  entries : ∀ T, (∀ v, T ≠ .voice v) → (∀ z, T ≠ .duck z) → fadeFor T t = fadeFor T s
  stands : ∀ e ∈ s.fades, (∀ v, e.target ≠ .voice v) → (∀ z, e.target ≠ .duck z) → e ∈ t.fades
  quiet : Quiet s → Quiet t

namespace CallFrame

variable {s t u : State}

theorem refl (s : State) : CallFrame s s where
  entries _ _ _ := rfl
  stands _ he _ _ := he
  quiet h := h

theorem trans (h : CallFrame s t) (g : CallFrame t u) : CallFrame s u where
  entries T hv hz := (g.entries T hv hz).trans (h.entries T hv hz)
  stands e he hv hz := g.stands e (h.stands e he hv hz) hv hz
  quiet hq := g.quiet (h.quiet hq)

theorem foldl {α : Type} {f : State → α → State} (hf : ∀ u a, CallFrame u (f u a)) (as : List α) (s : State) :
    CallFrame s (as.foldl f s) := by
  induction as generalizing s with
  | nil => exact refl s
  | cons a as ih => exact (hf s a).trans (ih _)

/-- A change of neither fades nor voices. -/
theorem of_eq (hfades : t.fades = s.fades) (hvoices : ∀ v, t.voice v = s.voice v) : CallFrame s t where
  entries _ _ _ := fadeFor_congr hfades
  stands _ he _ _ := hfades ▸ he
  quiet h v hv := by
    rw [hvoices] at hv ⊢
    exact h v hv

theorem writeRelay (h : CallFrame s t) {r : Relay} : CallFrame s { t with relay := r } :=
  h.trans (of_eq rfl fun _ => rfl)

theorem raise (h : CallFrame s t) {e : Event} : CallFrame s (Machine.raise e t) :=
  h.trans (of_eq rfl fun _ => rfl)

theorem ducks (h : DucksMove s t) : CallFrame s t where
  entries T _ hz := h.others T hz
  stands e he _ hz := h.stands e he hz
  quiet hq v hv := by
    rw [h.voice] at hv ⊢
    exact hq v hv

theorem endCallCore (id : Nat) (reason : CallEnd) (s : State) : CallFrame s (Machine.endCallCore id reason s) := by
  cases hc : callOf id s with
  | none =>
    have same : Machine.endCallCore id reason s = s := by
      unfold Machine.endCallCore
      rw [hc]
    rw [same]
    exact refl s
  | some c =>
    have leaves := callLeaves_endCallCore hc reason
    exact {
      entries := leaves.entries
      stands := leaves.fades
      quiet := fun hq v hv => by
        by_cases howned : voiceOfCall s id = some v
        · exact (leaves.left v howned).1.quiet
        · rw [(leaves.others v howned).1] at hv ⊢
          exact hq v hv }

/-- A voice that a call takes is no concern of the quiet ones. -/
theorem setVoice_call {v : VoiceNo} {x : Voice} (h : x.ownedBySomeCall = true) : CallFrame s (s.setVoice v x) where
  entries _ _ _ := rfl
  stands _ he _ _ := he
  quiet hq w hw := by
    by_cases hne : w = v
    · subst hne
      rw [State.voice_setVoice_self, h] at hw
      cases hw
    · rw [State.voice_setVoice_ne s v w x hne] at hw ⊢
      exact hq w hw

theorem removeFade_voice (v : VoiceNo) (s : State) : CallFrame s (removeFade (.voice v) s) where
  entries T hv _ := fadeFor_removeFade_ne (hv v)
  stands e he hv _ := List.mem_filter.mpr ⟨he, by simpa using hv v⟩
  quiet h := h

theorem postFetch (v : VoiceNo) (s : State) : CallFrame s (Machine.postFetch v s) where
  entries _ _ _ := fadeFor_congr (by unfold Machine.postFetch; split <;> rfl)
  stands e he _ _ := by
    unfold Machine.postFetch
    split <;> exact he
  quiet hq w hw := by
    unfold Machine.postFetch at hw ⊢
    split at hw
    · next h =>
      rw [if_pos h]
      by_cases hne : w = v
      · subst hne
        rw [State.voice_setVoice_self] at hw ⊢
        exact hq w hw
      · rw [State.voice_setVoice_ne s v w _ hne] at hw ⊢
        exact hq w hw
    · next h =>
      rw [if_neg h]
      exact hq w hw

theorem checkEnd (id : Nat) (s : State) : CallFrame s (Machine.checkEnd id s) :=
  of_eq (by rw [checkEnd_same]) fun v => by rw [checkEnd_same]; rfl

theorem tellVictim (x : Voice) (v : VoiceNo) (s : State) : CallFrame s (Machine.tellVictim x v s).1 := by
  unfold Machine.tellVictim
  split
  · exact refl s
  · exact checkEnd _ s
  · split
    · exact (refl s).writeRelay.trans (endCallCore ..)
    · exact refl s

/-- The allocation of a voice for a call (R66 to R68). -/
theorem allocate {id region inWord : Nat} {out : Option Nat} {a : Allocated}
    (h : Machine.allocate (callAlloc id region inWord out) s = some a) : CallFrame s a.state := by
  unfold Machine.allocate at h
  split at h
  · next v hv =>
    obtain rfl := Option.some.inj h
    exact (setVoice_call rfl).trans (postFetch ..)
  · split at h
    · next v hv =>
      obtain rfl := Option.some.inj h
      exact ((removeFade_voice v s).trans (setVoice_call rfl)).trans (tellVictim ..)
    · cases h

theorem beginCall (c : Call) (v : Option VoiceNo) (s : State) : CallFrame s (Machine.beginCall c v s) :=
  ((refl s).writeRelay.trans (ducks (ducksMove_attackZones ..))).raise

theorem startCall (c : Call) (s : State) : CallFrame s (Machine.startCall c s).state := by
  unfold Machine.startCall
  split
  · split
    · next ha => exact (allocate ha).trans (beginCall ..)
    · exact endCallCore ..
  · exact beginCall ..

theorem scanOnce (cs : List Call) (claimed : BitVec 16) (again : Bool) (s : State) :
    CallFrame s (Machine.scanOnce cs claimed again s).1 := by
  induction cs generalizing claimed again s with
  | nil => exact refl s
  | cons c cs ih =>
    unfold Machine.scanOnce
    split
    · exact (startCall c s).trans (ih _ _ _)
    · exact ih _ _ s

theorem scanFuel (n : Nat) (s : State) : CallFrame s (Machine.scanFuel n s) := by
  induction n generalizing s with
  | zero => exact refl s
  | succ n ih =>
    unfold Machine.scanFuel
    dsimp only
    split
    · exact (scanOnce ..).trans (ih _)
    · exact scanOnce ..

theorem scan (s : State) : CallFrame s (Machine.scan s) := scanFuel ..

theorem acceptCall (c : Call) (s : State) : CallFrame s (Machine.acceptCall c s).1 :=
  ((refl s).writeRelay.trans (foldl (fun u d => endCallCore d .preempted u) _ _)).writeRelay.trans (scan _)

theorem createShowStopCall (s : State) : CallFrame s (Machine.createShowStopCall s) := acceptCall ..

end CallFrame

end Sys2Proof.Machine
end

section
/-! SUPPORT. The steps of entry to show stop: the instances end, the voices that no call owns are stopped, and the stop
mute goes to OFF (R161). -/

namespace Sys2Proof.Machine

/-! ### Stopping voices one after another -/

section StopVoices

variable {s t : State} {v : VoiceNo} {vs : List VoiceNo} {n : Nat}

/-- A stop keeps its voice's owner, or frees the voice. -/
theorem StoppedVoice.owner {room : Prop} (h : StoppedVoice n room v s t) :
    (t.voice v).owner = (s.voice v).owner ∨ (t.voice v).owner = .orphan := by
  have faded : StopFading v .off n s t ∨ t.voice v = (s.voice v).ramping → (t.voice v).owner = (s.voice v).owner := by
    rintro (⟨h, -⟩ | h)
    · rw [h]
    · rw [h]
      rfl
  unfold StoppedVoice at h
  dsimp only at h
  split at h
  · exact .inl (congrArg Voice.owner h)
  · exact .inr (congrArg Voice.owner h.1)
  · rcases Nat.eq_zero_or_pos n with hn | hn
    · exact .inl (faded (.inr (h.1 hn)))
    · exact .inl (faded (h.2 hn).1)
  · rcases Nat.eq_zero_or_pos n with hn | hn
    · exact .inl (faded (.inr (h.1 hn)))
    · exact .inl (faded (h.2 hn).1)
  · rcases Nat.eq_zero_or_pos n with hn | hn
    · exact .inl (faded (.inr (h.1 hn).1))
    · exact .inl (faded (h.2 hn).1)
  · exact .inl (congrArg Voice.owner h)
  · exact .inl (by rw [h])

theorem voiceStands_stopVoices (h : v ∉ vs) (n : Nat) (s : State) : VoiceStands v s (stopVoices vs n s) := by
  induction vs generalizing s with
  | nil => exact VoiceStands.refl v s
  | cons w vs ih =>
    rw [List.mem_cons, not_or] at h
    exact (voiceStands_stopVoice h.1 n s).trans (ih h.2 _)

theorem fadeLoad_stopVoices_le (vs : List VoiceNo) (n : Nat) (s : State) :
    fadeLoad voiceTargets (stopVoices vs n s) ≤ fadeLoad voiceTargets s := by
  induction vs generalizing s with
  | nil => exact Nat.le_refl _
  | cons w vs ih => exact (ih _).trans (fadeLoad_stopVoice_le voiceTargets_nodup (.inl (mem_voiceTargets w)) s)

/-- Each of the voices is stopped by its state (R83). -/
theorem stoppedVoice_stopVoices (hnodup : vs.Nodup) (hv : v ∈ vs) (n : Nat) (s : State) :
    StoppedVoice n (fadeLoad voiceTargets s ≤ 256) v s (stopVoices vs n s) := by
  induction vs generalizing s with
  | nil => cases hv
  | cons w vs ih =>
    obtain ⟨hw, hnodup⟩ := List.nodup_cons.mp hnodup
    rcases List.mem_cons.mp hv with rfl | hvs
    · exact (stoppedVoice_stopVoice fun hload => room_of_fadeLoad hload (mem_voiceTargets v)).stands
        (voiceStands_stopVoices hw n _)
    · have hne : v ≠ w := fun h => hw (h ▸ hvs)
      exact ((ih hnodup hvs _).of_stands (voiceStands_stopVoice hne n s)).mono
        (fadeLoad_stopVoice_le voiceTargets_nodup (.inl (mem_voiceTargets w)) s).trans

theorem fadeFor_stopVoices {T : FadeTarget} (hT : ∀ w, T ≠ .voice w) (vs : List VoiceNo) (n : Nat) (s : State) :
    fadeFor T (stopVoices vs n s) = fadeFor T s := by
  induction vs generalizing s with
  | nil => rfl
  | cons w vs ih => exact (ih _).trans (fadeFor_stopVoice_ne (hT w) n s)

theorem mem_fades_stopVoices {e : FadeEntry} (he : e ∈ s.fades) (hT : ∀ w, e.target ≠ .voice w) (vs : List VoiceNo)
    (n : Nat) : e ∈ (stopVoices vs n s).fades := by
  induction vs generalizing s with
  | nil => exact he
  | cons w vs ih => exact ih (mem_fades_stopVoice he (hT w) n)

end StopVoices

/-! ### The end of every instance (R61) -/

/-- The CUE_ENDED record of an instance that show stop ends (R61). -/
def stoppedEvent (i : CueInstance) : Event :=
  { kind := .cueEnded, inst := .ofNat 8 i.id, cue := i.cue, reason := 2 }

/-- Instances ended in turn: each leaves the table, its voices are orphans, and its record stands in the order. -/
theorem endInsts_fold (is : List CueInstance) (s : State) :
    let t := is.foldl (fun t i => endInst i 2 (orphanVoices i.id t)) s
    t = { s with
      seq := { s.seq with instances := s.seq.instances.filter fun j => is.all fun i => j.id != i.id },
      stream := { s.stream with voices := t.stream.voices }, links := t.links } ∧
    (∀ v, t.voice v = { s.voice v with
      owner := if is.any (fun i => (s.voice v).ownedByInst i.id) then .orphan else (s.voice v).owner }) ∧
    ∀ r, t.link r = (s.link r).receives s.timing.showClock (is.map stoppedEvent) := by
  induction is generalizing s with
  | nil =>
    refine ⟨?_, fun v => rfl, fun r => rfl⟩
    have all : s.seq.instances.filter (fun j => ([] : List CueInstance).all fun i => j.id != i.id) = s.seq.instances := by
      simp
    rw [all]
    rfl
  | cons i is ih =>
    obtain ⟨same, voices, links⟩ := ih (endInst i 2 (orphanVoices i.id s))
    refine ⟨?_, fun v => ?_, fun r => ?_⟩
    · refine same.trans ?_
      have filters : (endInst i 2 (orphanVoices i.id s)).seq.instances.filter (fun j => is.all fun i => j.id != i.id) =
          s.seq.instances.filter fun j => (i :: is).all fun i => j.id != i.id := by
        show (s.seq.instances.filter _).filter _ = _
        rw [List.filter_filter]
        congr 1
        funext j
        rw [List.all_cons, Bool.and_comm]
      rw [filters]
      rfl
    · have first : (endInst i 2 (orphanVoices i.id s)).voice v =
          if (s.voice v).ownedByInst i.id then { s.voice v with owner := .orphan } else s.voice v :=
        voice_orphanVoices i.id s v
      refine (voices v).trans ?_
      rw [first, List.any_cons]
      by_cases hown : (s.voice v).ownedByInst i.id = true
      · simp [hown]
      · simp [hown]
    · refine (links r).trans ?_
      have first : (endInst i 2 (orphanVoices i.id s)).link r =
          Link.append { stoppedEvent i with clock := s.timing.showClock } (s.link r) := link_raise ..
      rw [first, List.map_cons]
      rfl

/-- The end of every instance (R61). -/
theorem endAllInsts_spec (s : State) :
    endAllInsts s = { s with
      seq := { s.seq with instances := [] }, stream := { s.stream with voices := (endAllInsts s).stream.voices },
      links := (endAllInsts s).links } ∧
    (∀ v, (endAllInsts s).voice v = { s.voice v with owner := ownerAtStop s v }) ∧
    ∀ r, (endAllInsts s).link r = (s.link r).receives s.timing.showClock (s.seq.instances.map stoppedEvent) := by
  obtain ⟨same, voices, links⟩ := endInsts_fold s.seq.instances s
  refine ⟨?_, voices, links⟩
  have gone : s.seq.instances.filter (fun j => s.seq.instances.all fun i => j.id != i.id) = [] := by
    rw [List.filter_eq_nil_iff]
    intro j hj hall
    simpa using List.all_eq_true.mp hall j hj
  rw [gone] at same
  exact same

/-! ### The voices that no call owns (R161) -/

section StopCues

variable {s : State} {v : VoiceNo}

theorem mem_voicesOfNoCall : v ∈ voicesOfNoCall s ↔ (s.voice v).state ≠ .free ∧ (s.voice v).ownedBySomeCall = false := by
  simp [voicesOfNoCall, Voice.busy]

theorem nodup_voicesOfNoCall (s : State) : (voicesOfNoCall s).Nodup := (List.nodup_finRange 32).filter _

/-- A voice that no call owns is stopped, whether it was FREE or not. -/
theorem stoppedVoice_voicesOfNoCall (hv : (s.voice v).ownedBySomeCall = false) (n : Nat) :
    StoppedVoice n (fadeLoad voiceTargets s ≤ 256) v s (stopVoices (voicesOfNoCall s) n s) := by
  by_cases hfree : (s.voice v).state = .free
  · have stands := voiceStands_stopVoices (v := v) (vs := voicesOfNoCall s) (fun h => (mem_voicesOfNoCall.mp h).1 hfree) n s
    simp only [StoppedVoice, hfree]
    exact stands.1
  · exact stoppedVoice_stopVoices (nodup_voicesOfNoCall s) (mem_voicesOfNoCall.mpr ⟨hfree, hv⟩) n s

theorem quiet_stopVoices (s : State) (n : Nat) : Quiet (stopVoices (voicesOfNoCall s) n s) := by
  intro v hv
  by_cases hcall : (s.voice v).ownedBySomeCall = true
  · have stands := voiceStands_stopVoices (v := v) (vs := voicesOfNoCall s)
      (fun h => by rw [(mem_voicesOfNoCall.mp h).2] at hcall; cases hcall) n s
    rw [stands.1, hcall] at hv
    cases hv
  · exact (stoppedVoice_voicesOfNoCall (by simpa using hcall) n).quiet

theorem not_ownedBySomeCall_of_owner {x y : Voice} (h : y.owner = x.owner ∨ y.owner = .orphan)
    (hx : x.ownedBySomeCall = false) : y.ownedBySomeCall = false := by
  unfold Voice.ownedBySomeCall at hx ⊢
  rcases h with h | h <;> rw [h]
  exact hx

end StopCues

/-! ### The stop mute goes to OFF (R161) -/

/-- The stop mute's post at the entry: nothing else moves, the level is OFF at once or on its way, or snapped where the
list has no room. -/
theorem post_mute_off {s : State} (hstopped : s.showStop.state = .stopped) (n : Nat) :
    let t := post (mutePost .off n) s
    t = { s with showStop := { s.showStop with mute := t.showStop.mute }, fades := t.fades, links := t.links } ∧
    (∃ es : List Event, (∀ e ∈ es, e.kind = .fadeOverflow) ∧ ∀ r, t.link r = (s.link r).receives s.timing.showClock es) ∧
    (n = 0 → t.showStop.mute = .off ∧ fadeFor .stopMute t = none) ∧
    (0 < n → (∃ e, fadeFor .stopMute t = some e ∧ e.goal = .off ∧ e.n = n ∧ e.k = 0 ∧ e.start = s.showStop.mute ∧
        t.showStop.mute = s.showStop.mute) ∨
      (t.showStop.mute = .off ∧ fadeFor .stopMute s = none ∧ 256 ≤ s.fades.length)) := by
  have unreported : ∀ u : State, u.showStop.state = .stopped → stopMuteReport u = u := fun u hu => by
    rw [stopMuteReport, hu]
  dsimp only
  rcases Nat.eq_zero_or_pos n with rfl | hn
  · have now : post (mutePost .off 0) s =
        { s with showStop := { s.showStop with mute := .off }, fades := s.fades.filter fun e => e.target != .stopMute } :=
      post_mute_now.trans (unreported _ hstopped)
    rw [now]
    exact ⟨rfl, ⟨[], fun e he => absurd he List.not_mem_nil, fun r => rfl⟩, fun _ => ⟨rfl, fadeFor_removeFade_self .stopMute s⟩,
      fun h => absurd h (Nat.lt_irrefl 0)⟩
  · by_cases hroom : (fadeFor .stopMute s).isSome = true ∨ s.fades.length < 256
    · obtain ⟨same, entry⟩ := post_mute_over (g := .off) hn hroom
      rw [same]
      refine ⟨rfl, ⟨[], fun e he => absurd he List.not_mem_nil, fun r => rfl⟩, fun h => absurd h hn.ne', fun _ => .inl ?_⟩
      rw [← same]
      exact ⟨_, entry, rfl, rfl, rfl, rfl, by rw [same]⟩
    · rw [not_or] at hroom
      obtain ⟨hnone, hfull⟩ := hroom
      have hnone : fadeFor .stopMute s = none := by simpa using hnone
      have snaps : post (mutePost .off n) s = raise (mutePost .off n).overflow
          { s with showStop := { s.showStop with mute := .off } } := by
        rw [post, postFade_snapped (p := mutePost .off n) hn.ne' hnone (Nat.not_lt.mp hfull)]
        show snapFade (mutePost .off n) s = _
        rw [snapFade, if_neg (by simp [mutePost])]
        exact unreported (raise _ { s with showStop := { s.showStop with mute := .off } }) hstopped
      rw [snaps]
      refine ⟨rfl, ⟨[(mutePost .off n).overflow], fun e he => ?_, fun r => link_raise _ _ r⟩,
        fun h => absurd h hn.ne', fun _ => .inr ⟨rfl, hnone, Nat.not_lt.mp hfull⟩⟩
      rw [List.mem_singleton.mp he]
      rfl

end Sys2Proof.Machine
end

section
/-! The settling of the obligation of the entry to show stop. -/

namespace Sys2Proof.Machine

section Enter

variable {s t : State} {v : VoiceNo}

theorem voiceStands_duckMove (h : DucksMove s t) (v : VoiceNo) : VoiceStands v s t :=
  ⟨h.voice v, h.others _ (by simp)⟩

/-- The end of a call that there is not has no effect. -/
theorem endCallCore_none {id : Nat} (hc : callOf id s = none) (reason : CallEnd) : endCallCore id reason s = s := by
  unfold endCallCore
  rw [hc]

/-- Ending calls in turn leaves a voice that no call owns. -/
theorem voiceStands_endCalls (ids : List Nat) (reason : CallEnd) (hv : (s.voice v).ownedBySomeCall = false) :
    VoiceStands v s (ids.foldl (fun u d => endCallCore d reason u) s) := by
  induction ids generalizing s with
  | nil => exact VoiceStands.refl v s
  | cons d ids ih =>
    have one : VoiceStands v s (endCallCore d reason s) := by
      cases hc : callOf d s with
      | none =>
        rw [endCallCore_none hc]
        exact VoiceStands.refl v s
      | some c =>
        refine (callLeaves_endCallCore hc reason).others v fun howned => ?_
        have hcall : (s.voice v).owner = .call d := by
          simpa [voiceOfCall, Voice.ownedByCall] using List.find?_some howned
        rw [Voice.ownedBySomeCall, hcall] at hv
        cases hv
    exact one.trans (ih (by rw [one.1]; exact hv))

/-- Ending calls leaves an empty queue empty. -/
theorem endCalls_waiting (ids : List Nat) (reason : CallEnd) (h : s.relay.waiting = []) :
    (ids.foldl (fun u d => endCallCore d reason u) s).relay.waiting = [] := by
  induction ids generalizing s with
  | nil => exact h
  | cons d ids ih =>
    refine ih ?_
    show (endCallCore d reason s).relay.waiting = []
    cases hc : callOf d s with
    | none =>
      rw [endCallCore_none hc]
      exact h
    | some c =>
      rw [(callLeaves_endCallCore hc reason).same, h]
      rfl

/-- With no call waiting, the show-stop call takes no voice that no call owns. -/
theorem voiceStands_createShowStopCall (hwaiting : s.relay.waiting = []) (hv : (s.voice v).ownedBySomeCall = false) :
    VoiceStands v s (createShowStopCall s) := by
  unfold createShowStopCall acceptCall
  dsimp only
  obtain ⟨c, hc, hsource⟩ : ∃ c : Call, c = { showStopCall (zonesPresent s) with
      id := takeCallId s, arrival := s.relay.arrivals } ∧ c.source = .announce := ⟨_, rfl, rfl⟩
  rw [← hc]
  obtain ⟨x, hx⟩ : ∃ x : State, x = { s with relay := { s.relay with
      nextId := nextId (takeCallId s), arrivals := s.relay.arrivals + 1 } } := ⟨_, rfl⟩
  rw [← hx]
  have first : VoiceStands v s x := by
    rw [hx]
    exact ⟨rfl, rfl⟩
  have ended := voiceStands_endCalls (preempted c x) .preempted (s := x) (v := v) (by rw [first.1]; exact hv)
  have empty := endCalls_waiting (preempted c x) .preempted (s := x) (by rw [hx]; exact hwaiting)
  obtain ⟨y, hy⟩ : ∃ y, y = (preempted c x).foldl (fun u d => endCallCore d .preempted u) x := ⟨_, rfl⟩
  rw [← hy] at ended empty ⊢
  have queue : ({ y with relay := { y.relay with waiting := insertCall c y.relay.waiting } } : State).relay.waiting = [c] := by
    rw [empty]
    rfl
  have last : VoiceStands v y (scan { y with relay := { y.relay with waiting := insertCall c y.relay.waiting } }) := by
    cases hmay : mayStart c 0 { y with relay := { y.relay with waiting := insertCall c y.relay.waiting } } with
    | false =>
      rw [scan_waits queue hmay]
      exact ⟨rfl, rfl⟩
    | true =>
      rw [scan_begins queue hmay (by rw [hsource]; rfl)]
      exact voiceStands_duckMove (s := { removeCall c.id y with relay := _ }) (ducksMove_attackZones c.id c.depth c.zones _) v
  exact (first.trans ended).trans last

/-- The end of talk writes its record alone (R136). -/
theorem endTalk_same (cause : TalkCause) (s : State) :
    endTalk cause s = { s with foldback := (endTalk cause s).foldback } := by
  unfold endTalk
  split <;> rfl

/-- The state at the line's entry stands as `s` does, but for the records that the links have received. -/
def SameButLinks (es : List Event) (s x : State) : Prop :=
  x = { s with links := x.links } ∧ ∀ r, x.link r = (s.link r).receives s.timing.showClock es

/-- What the first steps of the entry leave: every instance has ended, and the voices that no call owns are stopped
(R161). -/
structure CuesStopped (es : List Event) (s t : State) : Prop where
  seq : t.seq = { s.seq with instances := [] }
  showStop : t.showStop = { s.showStop with state := .stopped }
  relay : t.relay = { s.relay with tails := t.relay.tails }
  rest : t.store = s.store ∧ t.mix = s.mix ∧ t.smi = s.smi ∧ t.timing = s.timing ∧ t.foldback = s.foldback
  quiet : Quiet t
  mute : fadeFor .stopMute t = fadeFor .stopMute s
  room : t.fades.length ≤ s.fades.length + 32
  fades : ∀ e ∈ s.fades, (∀ v, e.target ≠ .voice v) → e ∈ t.fades
  stopped : ∀ v, (s.voice v).ownedBySomeCall = false → ∀ u : State, u.fades = s.fades →
    u.voice v = { s.voice v with owner := ownerAtStop s v } →
    StoppedVoice s.showStop.tStop (RoomForVoices s) v u t ∧ (t.voice v).ownedBySomeCall = false
  events : ∃ fs : List Event, (∀ e ∈ fs, e.kind.ofCalls) ∧ ∀ r, t.link r = (s.link r).receives s.timing.showClock
    (es ++ s.seq.instances.map stoppedEvent ++ fs)

theorem unowned_atStop (h : (s.voice v).ownedBySomeCall = false) :
    ({ s.voice v with owner := ownerAtStop s v } : Voice).ownedBySomeCall = false := by
  refine not_ownedBySomeCall_of_owner (x := s.voice v) ?_ h
  show ownerAtStop s v = _ ∨ ownerAtStop s v = _
  unfold ownerAtStop
  split
  · exact .inr rfl
  · exact .inl rfl

theorem stopCues_spec {x : State} {es : List Event} (hx : SameButLinks es s x) : CuesStopped es s (stopCues x) := by
  obtain ⟨hsame, hlinks⟩ := hx
  obtain ⟨y, hy⟩ : ∃ y, y = setShowState .stopped x := ⟨_, rfl⟩
  obtain ⟨same, voices, links⟩ := endAllInsts_spec y
  -- the state in which every instance has ended
  obtain ⟨w, hw⟩ : ∃ w, w = endAllInsts y := ⟨_, rfl⟩
  rw [← hw] at same voices links
  have fades : w.fades = s.fades := by rw [same, hy, hsame]; rfl
  have seq : w.seq = { s.seq with instances := [] } := by rw [same, hy, hsame]; rfl
  have showStop : w.showStop = { s.showStop with state := .stopped } := by rw [same, hy, hsame]; rfl
  have timing : w.timing = s.timing := by rw [same, hy, hsame]; rfl
  have voice : ∀ v, w.voice v = { s.voice v with owner := ownerAtStop s v } := fun v => by
    rw [voices v, hy, hsame]
    rfl
  obtain ⟨t, ht⟩ : ∃ t, t = stopVoices (voicesOfNoCall w) s.showStop.tStop w := ⟨_, rfl⟩
  have stopped : stopCues x = t := by rw [stopCues, ← hy, ← hw, ht, showStop]
  have within : Within 0 w t := by
    rw [ht]
    exact (Within.refl 0 w).stopVoices
  obtain ⟨mix, foldback, stop⟩ := within.levels (Nat.zero_le 1)
  have targets : voiceTargets.length = 32 := by simp [voiceTargets, voiceNos]
  have empty : w.seq.instances = [] := by rw [seq]
  rw [stopped]
  exact {
    seq := by rw [within.seq, within.ids (Nat.zero_le 1), within.ended (Nat.zero_le 1) empty, seq]
    showStop := stop.trans showStop
    relay := by
      rw [within.calls rfl, same, hy, hsame]
      rfl
    rest := ⟨within.store.trans (by rw [same, hy, hsame]; rfl), mix.trans (by rw [same, hy, hsame]; rfl),
      within.smi.trans (by rw [same, hy, hsame]; rfl), within.timing.trans timing,
      foldback.trans (by rw [same, hy, hsame]; rfl)⟩
    quiet := by
      rw [ht]
      exact quiet_stopVoices _ _
    mute := by
      rw [ht]
      exact (fadeFor_stopVoices (by simp) _ _ w).trans (fadeFor_congr fades)
    room := by
      have bound := (fadeLoad_stopVoices_le (voicesOfNoCall w) s.showStop.tStop w).trans (fadeLoad_le voiceTargets w)
      have own : t.fades.length ≤ fadeLoad voiceTargets t := Nat.le_add_right ..
      rw [← ht, fades] at bound
      omega
    fades := fun e he hvoice => by
      rw [ht]
      exact mem_fades_stopVoices (fades ▸ he) hvoice _ _
    stopped := fun v hv u hufades huvoice => by
      have unowned : (w.voice v).ownedBySomeCall = false := by rw [voice v]; exact unowned_atStop hv
      have stops := stoppedVoice_voicesOfNoCall unowned s.showStop.tStop
      rw [← ht] at stops
      have room : RoomForVoices s → fadeLoad voiceTargets w ≤ 256 := fun hroom => by
        have bound := fadeLoad_le voiceTargets w
        have hroom : s.fades.length + 32 ≤ 256 := hroom
        rw [fades] at bound
        omega
      exact ⟨(stops.mono room).of_stands ⟨(voice v).trans huvoice.symm, fadeFor_congr (fades.trans hufades.symm)⟩,
        not_ownedBySomeCall_of_owner stops.owner unowned⟩
    events := by
      obtain ⟨fs, kinds, received⟩ := within.events
      refine ⟨fs, kinds (Nat.zero_le 1) empty, fun r => ?_⟩
      have yLink : y.link r = x.link r := by rw [hy]; rfl
      have yClock : y.timing = s.timing := by rw [hy, hsame]; rfl
      have yInsts : y.seq.instances = s.seq.instances := by rw [hy, hsame]; rfl
      rw [received, links, yLink, hlinks, yClock, yInsts, timing, Link.receives_append, Link.receives_append] }

/-- Entry to show stop, step by step (R161). -/
theorem entersShowStop {x : State} (line : Bool)
    (hx : SameButLinks (if line then [{ kind := .lineChanged, reason := 1 }] else []) s x) :
    EntersShowStop line s (enterShowStop line x) := by
  obtain ⟨t2, ht2⟩ : ∃ t, t = stopCues x := ⟨_, rfl⟩
  have cues : CuesStopped _ s t2 := ht2 ▸ stopCues_spec hx
  obtain ⟨store2, mix2, smi2, timing2, foldback2⟩ := cues.rest
  have setting : t2.showStop.tStop = s.showStop.tStop := by rw [cues.showStop]
  have mute2 : t2.showStop.mute = s.showStop.mute := by rw [cues.showStop]
  -- the stop mute
  obtain ⟨t3, ht3⟩ : ∃ t, t = post (mutePost .off s.showStop.tStop) t2 := ⟨_, rfl⟩
  obtain ⟨same3, ⟨es3, kinds3, links3⟩, now3, over3⟩ :=
    post_mute_off (s := t2) (by rw [cues.showStop]) s.showStop.tStop
  rw [← ht3] at same3 links3 now3 over3
  -- talk and the show-stop call
  obtain ⟨t4, ht4⟩ : ∃ t, t = endTalk .showStop t3 := ⟨_, rfl⟩
  have same4 : t4 = { t3 with foldback := t4.foldback } := by
    rw [ht4]
    exact endTalk_same ..
  obtain ⟨t5, ht5⟩ : ∃ t, t = createShowStopCall t4 := ⟨_, rfl⟩
  have within5 : Within 1 t4 t5 := by
    rw [ht5]
    exact (Within.refl 1 t4).createShowStopCall (Nat.le_refl 1)
  have frame5 : CallFrame t4 t5 := by
    rw [ht5]
    exact CallFrame.createShowStopCall t4
  obtain ⟨mix5, foldback5, stop5⟩ := within5.levels (Nat.le_refl 1)
  have entered : enterShowStop line x = raise { kind := .showStopped, reason := if line then 1 else 0 } t5 := by
    rw [enterShowStop, ← ht2, setting, ← ht3, ← ht4, ← ht5]
  have stop45 : t5.showStop = t3.showStop := by rw [stop5, same4]
  have voices4 : ∀ v, VoiceStands v t2 t4 := fun v =>
    ⟨by rw [same4, same3]; rfl, by rw [same4, ht3]; exact fadeFor_post_ne (s := t2) (by simp [mutePost])⟩
  have mute4 : fadeFor .stopMute t5 = fadeFor .stopMute t3 :=
    (frame5.entries _ (by simp) (by simp)).trans (by rw [same4]; rfl)
  have seq4 : t4.seq = { s.seq with instances := [] } := by rw [same4, same3]; exact cues.seq
  have timing4 : t4.timing = s.timing := by rw [same4, same3]; exact timing2
  have empty4 : t4.seq.instances = [] := by rw [seq4]
  rw [entered]
  refine ⟨?_, ?_, fun v hv => ?_, fun hwaiting v hv u hufades huvoice => ?_, fun hzero => ?_, fun hpos => ?_, ?_,
    ?_, ?_, ?_, ?_, fun e he hvoice hduck hmute => ?_, ?_⟩
  · show t5.showStop = { s.showStop with state := .stopped, mute := t5.showStop.mute }
    rw [stop45, same3, cues.showStop]
  · show t5.seq = _
    rw [within5.seq, within5.ids (Nat.le_refl 1), within5.ended (Nat.le_refl 1) empty4, seq4]
  · have quiet4 : Quiet t4 := fun v hv => by
      rw [(voices4 v).1] at hv ⊢
      exact cues.quiet v hv
    rcases frame5.quiet quiet4 v hv with h | h | ⟨p, h⟩ | ⟨p, d, l, h⟩
    · exact .inl h
    · exact .inr (.inl (by show (t5.voice v).stopping = true; rw [Voice.stopping, h]))
    · exact .inr (.inl (by show (t5.voice v).stopping = true; rw [Voice.stopping, h]))
    · exact .inr (.inr ⟨p, d, l, h⟩)
  · obtain ⟨stopped, unowned⟩ := cues.stopped v hv u hufades huvoice
    have waiting4 : t4.relay.waiting = [] := by
      rw [same4, same3]
      show t2.relay.waiting = []
      rw [cues.relay]
      exact hwaiting
    have stands5 : VoiceStands v t4 t5 := by
      rw [ht5]
      exact voiceStands_createShowStopCall waiting4 (by rw [(voices4 v).1]; exact unowned)
    exact (stopped.stands ((voices4 v).trans stands5)).stands ⟨rfl, rfl⟩
  · obtain ⟨hoff, hnone⟩ := now3 hzero
    exact ⟨by show t5.showStop.mute = .off; rw [stop45]; exact hoff, mute4.trans hnone⟩
  · rcases over3 hpos with ⟨e, he, hgoal, hn, hk, hstart, hmute⟩ | ⟨hoff, hnone, hfull⟩
    · rw [mute2] at hstart hmute
      exact .inl ⟨e, mute4.trans he, hgoal, hn, hk, hstart, by show t5.showStop.mute = _; rw [stop45]; exact hmute⟩
    · exact .inr ⟨by show t5.showStop.mute = .off; rw [stop45]; exact hoff, cues.mute.symm.trans hnone,
        hfull.trans cues.room⟩
  · have foldback3 : t3.foldback = s.foldback := by rw [same3]; exact foldback2
    have timing3 : t3.timing = s.timing := by rw [same3]; exact timing2
    show t5.foldback = _
    rw [foldback5, ht4, endTalk, foldback3, timing3]
    cases s.foldback.talk with
    | none => exact foldback3
    | some k => rfl
  · show t5.store = _
    rw [within5.store, same4, same3]
    exact store2
  · show t5.mix = _
    rw [mix5, same4, same3]
    exact mix2
  · show t5.smi = _
    rw [within5.smi, same4, same3]
    exact smi2
  · exact within5.timing.trans timing4
  · refine frame5.stands e ?_ hvoice hduck
    rw [same4, ht3]
    exact mem_fades_post (s := t2) (cues.fades e he hvoice) hmute
  · obtain ⟨es2, kinds2, links2⟩ := cues.events
    obtain ⟨es5, kinds5, links5⟩ := within5.events
    refine ⟨es2 ++ es3 ++ es5, fun e he => ?_, fun r => ?_⟩
    · rcases List.mem_append.mp he with he | he
      · rcases List.mem_append.mp he with he | he
        · exact kinds2 e he
        · exact .inl (kinds3 e he)
      · exact kinds5 (Nat.le_refl 1) empty4 e he
    · have link4 : t4.link r = t3.link r := by rw [same4]; rfl
      have timing5 : t5.timing = s.timing := within5.timing.trans timing4
      rw [link_raise, links5, link4, links3, links2, timing2, timing4, timing5]
      simp only [Link.receives_append]
      rfl

/-- Every zone present is in the set of them. -/
theorem zonesPresent_of_zone? {z : ZoneNo} {zn : Zone} (h : s.zone? z = some zn) : (zonesPresent s).getLsbD z = true := by
  obtain ⟨hlt, -⟩ := List.getElem?_eq_some_iff.mp h
  rw [zonesPresent, BitVec.getLsbD_ofNat, Nat.testBit_two_pow_sub_one]
  simp [hlt, z.isLt]

/-- With no call in the relay and every zone clear of calls, the show-stop call starts on every zone (R156). -/
theorem createShowStopCall_alone (hplaying : s.relay.playing = []) (hwaiting : s.relay.waiting = [])
    (hzones : ∀ zn ∈ s.relay.zones, zn.carried = none) :
    (createShowStopCall s).relay.waiting = [] ∧
      (∃ c, (createShowStopCall s).relay.playing = [c] ∧ c.source = .announce ∧ c.priority = 4 ∧ c.depth = 600 ∧
        c.origin = .showStop ∧ c.id = s.relay.nextId) ∧
      ∀ z zn, (createShowStopCall s).zone? z = some zn → zn.carried = some s.relay.nextId ∧ zn.phase = .ducked := by
  have alone := acceptCall_alone (c := showStopCall (zonesPresent s)) hwaiting
    (by rw [hplaying]; exact fun d hd => absurd hd List.not_mem_nil)
  have idEq : takeCallId s = s.relay.nextId :=
    takeCallId_eq hwaiting (by rw [hplaying]; exact fun d hd => absurd hd List.not_mem_nil)
  obtain ⟨c, hc⟩ : ∃ c : Call, c = { showStopCall (zonesPresent s) with
      id := takeCallId s, arrival := s.relay.arrivals } := ⟨_, rfl⟩
  have queue : (queued (showStopCall (zonesPresent s)) s).relay.waiting = [c] := by rw [hc]; rfl
  have free : mayStart c 0 (queued (showStopCall (zonesPresent s)) s) = true :=
    mayStart_iff.mpr fun z zn _ hzn => hzones zn (List.mem_of_getElem? hzn)
  obtain ⟨u, hu⟩ : ∃ u : State, u = { queued (showStopCall (zonesPresent s)) s with
      relay := { (queued (showStopCall (zonesPresent s)) s).relay with
        waiting := [], playing := [{ c with gate := startGate c (queued (showStopCall (zonesPresent s)) s) }] } } := ⟨_, rfl⟩
  have created : createShowStopCall s =
      raise (callStartedEvent c none) (attackZones s.relay.nextId 600 (zonesPresent s) u) := by
    rw [createShowStopCall, alone, scan_begins queue free (by rw [hc]; rfl),
      beginCall_eq queue (by
        show ∀ d ∈ s.relay.playing, _
        rw [hplaying]
        exact fun d hd => absurd hd List.not_mem_nil)]
    have begun : (queued (showStopCall (zonesPresent s)) s).relay.playing ++
        [{ c with gate := startGate c (queued (showStopCall (zonesPresent s)) s) }] =
        [{ c with gate := startGate c (queued (showStopCall (zonesPresent s)) s) }] := by
      show s.relay.playing ++ _ = _
      rw [hplaying]
      rfl
    rw [begun, ← hu, ← idEq, hc]
    rfl
  have moved := ducksMove_attackZones s.relay.nextId 600 (zonesPresent s) u
  rw [created]
  refine ⟨?_, ⟨{ c with gate := startGate c (queued (showStopCall (zonesPresent s)) s) }, ?_, ?_⟩, fun z zn hzn => ?_⟩
  · show (attackZones s.relay.nextId 600 (zonesPresent s) u).relay.waiting = []
    rw [moved.relay, hu]
  · show (attackZones s.relay.nextId 600 (zonesPresent s) u).relay.playing = _
    rw [moved.relay, hu]
  · rw [← idEq, hc]
    exact ⟨rfl, rfl, rfl, rfl, rfl⟩
  · have hzn : (attackZones s.relay.nextId 600 (zonesPresent s) u).zone? z = some zn := hzn
    have zones : ∀ y, u.zone? y = s.zone? y := fun y => by rw [hu]; rfl
    cases hzone : s.zone? z with
    | none =>
      have same : (attackZones s.relay.nextId 600 (zonesPresent s) u).zone? z = u.zone? z := by
        by_cases hbit : (zonesPresent s).getLsbD z = true
        · have absent : z.val < s.relay.zones.length := by
            rw [zonesPresent, BitVec.getLsbD_ofNat, Nat.testBit_two_pow_sub_one] at hbit
            simpa using (Bool.and_eq_true_iff.mp hbit).2
          rw [State.zone?, List.getElem?_eq_getElem absent] at hzone
          cases hzone
        · exact (zoneStands_attackZones (by simpa using hbit) s.relay.nextId 600 u).1
      rw [same, zones, hzone] at hzn
      cases hzn
    | some a =>
      obtain ⟨b, hb, -, hcarried, hphase, -⟩ :=
        attackedAt_attackZones (zonesPresent_of_zone? hzone) s.relay.nextId 600 u a ((zones z).trans hzone)
      rw [hzn] at hb
      exact Option.some.inj hb ▸ ⟨hcarried, hphase⟩

/-- The show-stop call starts after the steps before it, where the relay was clear of calls (R156, R161). -/
theorem enterShowStop_starts (line : Bool) (hplaying : s.relay.playing = []) (hwaiting : s.relay.waiting = [])
    (hzones : ∀ zn ∈ s.relay.zones, zn.carried = none) :
    (enterShowStop line s).relay.waiting = [] ∧
      (∃ c, (enterShowStop line s).relay.playing = [c] ∧ c.source = .announce ∧ c.priority = 4 ∧ c.depth = 600 ∧
        c.origin = .showStop ∧ c.id = s.relay.nextId) ∧
      ∀ z zn, (enterShowStop line s).zone? z = some zn → zn.carried = some s.relay.nextId ∧ zn.phase = .ducked := by
  obtain ⟨x, hx⟩ : ∃ x, x = endTalk .showStop (post (mutePost .off (stopCues s).showStop.tStop) (stopCues s)) := ⟨_, rfl⟩
  have entered : enterShowStop line s = raise { kind := .showStopped, reason := if line then 1 else 0 }
      (createShowStopCall x) := by
    rw [enterShowStop, ← hx]
  have stops : Within 0 (endAllInsts (setShowState .stopped s)) (stopCues s) := (Within.refl 0 _).stopVoices
  have inStop : (stopCues s).showStop.state = .stopped := by
    rw [(stops.levels (Nat.zero_le 1)).2.2, (endAllInsts_spec _).1]
    rfl
  have relay : x.relay = { s.relay with tails := x.relay.tails } := by
    have mute := (post_mute_off inStop (stopCues s).showStop.tStop).1
    rw [hx, endTalk_same, mute]
    show (stopCues s).relay = { s.relay with tails := (stopCues s).relay.tails }
    have ended : (endAllInsts (setShowState .stopped s)).relay = s.relay := by
      rw [(endAllInsts_spec _).1]
      rfl
    rw [← ended]
    exact stops.calls rfl
  have next : x.relay.nextId = s.relay.nextId := by rw [relay]
  rw [entered, ← next]
  exact createShowStopCall_alone (by rw [relay]; exact hplaying) (by rw [relay]; exact hwaiting)
    (by rw [relay]; exact hzones)

end Enter

end Sys2Proof.Machine

namespace Sys2Proof.Proofs
open Sys2Proof.Machine

/-- Settles O58: both entries are `enterShowStop`, by the line after its own record. -/
theorem showStopEntered : Obligations.ShowStopEntered := by
  refine ⟨fun l tag s hs => ⟨fun hstopped => next_serve_of_serves hs tag ?_, fun hstate => ?_⟩, fun s hrun =>
    ⟨fun hnot => ?_, fun u hline hnew hold hu => ?_⟩⟩
  · rw [takeShowStop, reloadPresence_showStop, if_pos hstopped, acceptShowState, reloadPresence_showStop, hstopped]
    rfl
  · obtain ⟨u, hu⟩ : ∃ u, u = reloadPresence l s := ⟨_, rfl⟩
    have enters := entersShowStop (s := u) (x := u) false ⟨rfl, fun r => rfl⟩
    have stopped : (enterShowStop false u).showStop.state = .stopped := by rw [enters.1]
    refine ⟨enterShowStop false u, next_serve_of_serves hs tag ?_, hu ▸ enters, fun hplaying hwaiting hzones => ?_⟩
    · rw [takeShowStop, reloadPresence_showStop, if_neg hstate, ← hu, acceptShowState, stopped]
      rfl
    · have relay : u.relay = s.relay := hu ▸ reloadPresence_relay l s
      rw [← relay] at hplaying hwaiting hzones ⊢
      exact enterShowStop_starts false hplaying hwaiting hzones
  · have stays : lineChanges .asserted s = false := by
      rcases hnot with h | h | h <;> simp [lineChanges, h]
    refine congrArg Host.Outcome.next ((occur_running _ s hrun).trans ?_)
    rw [assertLine, stays]
    rfl
  · have changes : lineChanges .asserted s = true := by simp [lineChanges, hline, hnew, hold]
    have changed : changeLine .asserted s = raise { kind := .lineChanged, reason := 1 } u := by rw [hu]; rfl
    have taken : exec .showstopAsserted s = .next (takeShowStop true (raise { kind := .lineChanged, reason := 1 } u)) := by
      refine congrArg Host.Outcome.next ((occur_running _ s hrun).trans ?_)
      rw [assertLine, if_pos changes, changed]
    have state : (raise { kind := .lineChanged, reason := 1 } u).showStop.state = s.showStop.state := by rw [hu]; rfl
    rw [taken, takeShowStop, state]
    refine ⟨fun hstopped => by rw [if_pos hstopped], fun hstate => ⟨_, by rw [if_neg hstate], ?_⟩⟩
    exact entersShowStop true ⟨rfl, fun r => link_raise _ u r⟩

end Sys2Proof.Proofs
end

section
/-! SUPPORT. CALL: the request's fields, its refusals in order, and the start of an accepted call (R146, R148 to R150). -/

namespace Sys2Proof.Machine

/-! ### The fields of a request (R145, R146, R178) -/

section Request

variable {p : CallPayload}

theorem kind_eq_zero : p.kind = 0 ↔ p.kind.toNat = 0 := by
  rw [← BitVec.toNat_inj]
  rfl

theorem kind_eq_one : p.kind = 1 ↔ p.kind.toNat = 1 := by
  rw [← BitVec.toNat_inj]
  rfl

/-- What the fields of a request say of its call, apart from its source. -/
def CallFieldsOk (p : CallPayload) : Prop :=
  p.zones ≠ 0 ∧ 1 ≤ p.priority.toNat ∧ p.priority.toNat ≤ 3 ∧ -300 ≤ p.page.toInt ∧ p.page.toInt ≤ 60 ∧
    p.depth.toNat ≤ 600

/-- A request in range asks for its call. -/
theorem callRequest_some {src : CallSource} (hsrc : callSource p = some src) (h : CallFieldsOk p) :
    callRequest p = some (newCall p.priority.toNat src p.zones p.page.toInt p.depth.toNat .prompt) := by
  obtain ⟨hzones, hlo, hhi, hpageLo, hpageHi, hdepth⟩ := h
  have page : levelOfBits p.page = .db p.page.toInt := by
    unfold levelOfBits
    rw [if_neg]
    intro hoff
    rw [hoff] at hpageLo
    revert hpageLo
    decide
  unfold callRequest
  rw [hsrc]
  show (match levelOfBits p.page with
    | .off => none
    | .db page => check _ _) = _
  rw [page]
  have nonempty : ¬ p.zones = 0#16 := hzones
  simp [check, nonempty, hlo, hhi, hpageLo, hpageHi, hdepth]

/-- A request that is out of range in a field asks for none. -/
theorem callRequest_none (h : callSource p = none ∨ ¬ CallFieldsOk p) : callRequest p = none := by
  unfold callRequest
  cases hsrc : callSource p with
  | none => rfl
  | some src =>
    have hbad := h.resolve_left (by simp [hsrc])
    show (match levelOfBits p.page with
      | .off => none
      | .db page => check _ _) = _
    unfold levelOfBits
    split
    · next e =>
      split at e
      · rfl
      · cases e
    · next page e =>
      split at e
      · cases e
      · cases e
        refine if_neg fun hok => hbad ?_
        simp only [Bool.and_eq_true, bne_iff_ne, decide_eq_true_eq] at hok
        obtain ⟨⟨⟨hzones, hprio⟩, hpage⟩, hdepth⟩ := hok
        exact ⟨hzones, hprio.1, hprio.2, hpage.1, hpage.2, hdepth⟩

theorem callSource_live (hk : p.kind = 0) {i : LiveNo} (hi : i.val = p.input.toNat) : callSource p = some (.live i) := by
  unfold callSource
  rw [kind_eq_zero.mp hk]
  exact congrArg (Option.map CallSource.live) (index?_of_val hi)

/-- The source that a recorded request names. -/
def recordedOf (p : CallPayload) : CallSource :=
  .recorded p.region.toNat p.inWord.toNat (if p.outWord = 0 then none else some p.outWord.toNat)

theorem callSource_recorded (hk : p.kind = 1) (hregion : p.region.toNat < 1024) (hin : p.inWord.toNat < 16777216)
    (hout : p.outWord.toNat ≤ 16777216) : callSource p = some (recordedOf p) := by
  unfold callSource
  rw [kind_eq_one.mp hk]
  exact if_pos (by simp [Config.maxRegions, Config.memoryWords, hregion, hin, hout])

theorem callSource_none (h : 2 ≤ p.kind.toNat ∨ (p.kind = 0 ∧ 16 ≤ p.input.toNat) ∨
    (p.kind = 1 ∧ (1024 ≤ p.region.toNat ∨ 16777216 ≤ p.inWord.toNat ∨ 16777216 < p.outWord.toNat))) :
    callSource p = none := by
  unfold callSource
  rcases h with h | ⟨hk, hin⟩ | ⟨hk, hbad⟩
  · split
    · omega
    · omega
    · rfl
  · rw [kind_eq_zero.mp hk]
    exact congrArg (Option.map CallSource.live) (index?_of_le hin)
  · rw [kind_eq_one.mp hk]
    refine if_neg fun hok => ?_
    have hok : (decide (p.region.toNat < 1024) && decide (p.inWord.toNat < 16777216) &&
      decide (p.outWord.toNat ≤ 16777216)) = true := hok
    simp only [Bool.and_eq_true, decide_eq_true_eq] at hok
    omega

end Request

/-! ### The refusals (R146) -/

section Refusals

variable {s : State} {c : Call}

theorem callRefusal_loading (hrec : c.source.isRecorded = true) (h : s.store.state = .loading) :
    callRefusal c s = some { result := .loading, payload := [] } :=
  if_pos ⟨hrec, h⟩

/-- The checks that follow that of the store. -/
theorem callRefusal_stored (h : c.source.isRecorded = true → s.store.state ≠ .loading) : callRefusal c s =
    match absentZone c.zones s with
    | some z => some { result := .noSuchZone, payload := u8 z.val }
    | none =>
      match recordedRefusal c.source s with
      | some r => some { result := r, payload := [] }
      | none => if Config.maxWaiting ≤ waitingCount s then some { result := .queueFull, payload := [] } else none :=
  if_neg fun hl => h hl.1 hl.2

/-- The first zone of a set that is not present, and that there is none (R146). -/
theorem absentZone_some {zones : BitVec 16} {z : ZoneNo} (hz : zones.getLsbD z = true) (habsent : s.relay.zones.length ≤ z.val)
    (hfirst : ∀ y : ZoneNo, y < z → zones.getLsbD y = true → y.val < s.relay.zones.length) :
    absentZone zones s = some z :=
  find?_members hz (by simpa using habsent) fun y hy hbit => by simpa using hfirst y hy hbit

theorem absentZone_none {zones : BitVec 16} (h : ∀ z : ZoneNo, zones.getLsbD z = true → z.val < s.relay.zones.length) :
    absentZone zones s = none :=
  find?_members_none fun z hz => by simpa using h z hz

/-- A region that holds the words of a recorded call, or does not (R24, R146). -/
theorem wordsFit_iff {len inWord : Nat} {out : BitVec 32} :
    wordsFit len inWord (if out = 0 then none else some out.toNat) none = true ↔
      (out = 0 → inWord < len) ∧ (out ≠ 0 → out.toNat ≤ len ∧ inWord < out.toNat) := by
  unfold wordsFit
  by_cases h : out = 0
  · rw [if_pos h]
    simp [show out = 0#32 from h]
  · rw [if_neg h]
    simp [show ¬ out = 0#32 from h]

end Refusals

end Sys2Proof.Machine
end

section
/-! SUPPORT. Taking a FREE voice (R66, R74), and a call that begins (R150). -/

namespace Sys2Proof.Machine

/-! ### Taking a FREE voice -/

section Take

variable {s : State} {r : AllocReq} {v : VoiceNo}

/-- The lowest-numbered FREE voice (R66). -/
theorem freeVoiceNo_eq (hv : (s.voice v).state = .free) (hfirst : ∀ u, u < v → (s.voice u).state ≠ .free) :
    freeVoiceNo s = some v := by
  unfold freeVoiceNo
  cases hfind : voiceNos.find? (fun v => (s.voice v).state == .free) with
  | none => exact absurd (List.find?_eq_none.mp hfind v (mem_voiceNos v)) (by simp [hv])
  | some u =>
    have hu : (s.voice u).state = .free := by simpa using List.find?_some hfind
    by_cases hne : v = u
    · rw [hne]
    · have before : u < v := find?_first (List.pairwise_lt_finRange 32) hfind (mem_voiceNos v) (by simp [hv]) hne
      exact absurd hu (hfirst u before)

theorem freeVoiceNo_some (h : freeVoiceNo s = some v) :
    (s.voice v).state = .free ∧ ∀ u, u < v → (s.voice u).state ≠ .free := by
  have here : (s.voice v).state = .free := by simpa using List.find?_some (show List.find? _ _ = _ from h)
  refine ⟨here, fun u hu hfree => ?_⟩
  have before : v < u := find?_first (List.pairwise_lt_finRange 32) h (mem_voiceNos u) (by simp [hfree]) hu.ne
  exact absurd (hu.trans before) (lt_irrefl u)

theorem freeVoiceNo_isSome (h : ∃ v, (s.voice v).state = .free) : ∃ v, freeVoiceNo s = some v := by
  obtain ⟨v, hv⟩ := h
  exact Option.isSome_iff_exists.mp (List.find?_isSome.mpr ⟨v, mem_voiceNos v, by simp [hv]⟩)

theorem freeVoiceNo_none (h : ∀ v, (s.voice v).state ≠ .free) : freeVoiceNo s = none := by
  rw [freeVoiceNo, List.find?_eq_none]
  intro v _
  simpa using h v

theorem postFetch_same (v : VoiceNo) (s : State) :
    postFetch v s = { s with stream := { s.stream with voices := (postFetch v s).stream.voices } } := by
  unfold postFetch
  split <;> rfl

/-- A voice that wants a fetch posts it; another stands. -/
theorem voice_postFetch_wants (h : (s.voice v).wantsFetch = true) :
    (postFetch v s).voice v = { s.voice v with fetch := .waiting } := by
  rw [postFetch, if_pos h, State.voice_setVoice_self]

theorem voice_postFetch_ne {w : VoiceNo} (h : w ≠ v) (s : State) : (postFetch v s).voice w = s.voice w := by
  unfold postFetch
  split
  · exact State.voice_setVoice_ne s v w _ h
  · rfl

theorem takeFree_same (r : AllocReq) (v : VoiceNo) (s : State) :
    takeFree r v s = { s with stream := { s.stream with voices := (takeFree r v s).stream.voices } } := by
  unfold takeFree
  exact postFetch_same v (s.setVoice v (r.record s).started)

theorem voice_takeFree_ne {w : VoiceNo} (h : w ≠ v) (r : AllocReq) (s : State) :
    (takeFree r v s).voice w = s.voice w :=
  (voice_postFetch_ne h _).trans (State.voice_setVoice_ne s v w _ h)

/-- The record of a started voice is the request's, STARTING, at its start level or at OFF before a fade-in. -/
theorem started_eq (x : Voice) : x.started = { x with
    state := .starting (if x.fadeIn = 0 then none else some x.fadeIn),
    level := if x.fadeIn = 0 then x.startLevel else .off } := by
  unfold Voice.started
  split <;> rfl

/-- A taken voice starts as the request says, with its first fetch posted (R66, R74). -/
theorem voice_takeFree_self (h : r.inWord < r.out.getD (regionAt s r.region).len) :
    (takeFree r v s).voice v = { (r.record s).started with fetch := .waiting } := by
  have wants : ((s.setVoice v (r.record s).started).voice v).wantsFetch = true := by
    rw [State.voice_setVoice_self, started_eq]
    simp [Voice.wantsFetch, Voice.fetches, AllocReq.record, Voice.freeRecord, h]
  exact (voice_postFetch_wants wants).trans (by rw [State.voice_setVoice_self])

end Take

/-! ### A call that begins (R150) -/

/-- What the start of a call leaves: it is PLAYING, and its zones are attacked. -/
structure Begun (c : Call) (v : Option VoiceNo) (s t : State) : Prop where
  waiting : t.relay.waiting = []
  playing : t.relay.playing = s.relay.playing ++ [{ c with gate := startGate c s }]
  attacked : ∀ z : ZoneNo, c.zones.getLsbD z = true → AttackedAt c.id c.depth z s t
  stands : ∀ z : ZoneNo, c.zones.getLsbD z = false → ZoneStands z s t
  stream : t.stream = s.stream
  newest : Newest (callStartedEvent c v) t
  events : ∃ es : List Event, ∀ r, t.link r = (s.link r).receives s.timing.showClock es
  timing : t.timing = s.timing

section Begin

variable {s t : State} {c : Call} {v : Option VoiceNo}

theorem begun_beginCall (hwaiting : s.relay.waiting = [c]) (hfree : ∀ d ∈ s.relay.playing, d.id ≠ c.id)
    (v : Option VoiceNo) : Begun c v s (beginCall c v s) := by
  obtain ⟨u, hu⟩ : ∃ u : State, u = { s with relay := { s.relay with
      waiting := [], playing := s.relay.playing ++ [{ c with gate := startGate c s }] } } := ⟨_, rfl⟩
  have moved := ducksMove_attackZones c.id c.depth c.zones u
  obtain ⟨es, -, -, hlinks⟩ := moved.events
  rw [beginCall_eq hwaiting hfree, ← hu]
  exact {
    waiting := by
      show (attackZones c.id c.depth c.zones u).relay.waiting = _
      rw [moved.relay, hu]
    playing := by
      show (attackZones c.id c.depth c.zones u).relay.playing = _
      rw [moved.relay, hu]
    attacked := fun z hz => (attackedAt_attackZones hz c.id c.depth u).of_stands (s := s) (by rw [hu]; exact ⟨rfl, rfl⟩)
      (by rw [hu]) (by rw [hu]; exact Nat.le_refl _)
    stands := fun z hz => ZoneStands.trans (t := u) (by rw [hu]; exact ⟨rfl, rfl⟩)
      (zoneStands_attackZones hz c.id c.depth u)
    stream := moved.stream.trans (by rw [hu])
    newest := newest_raise _ _
    events := ⟨es ++ [callStartedEvent c v], fun r => by
      rw [link_raise, hlinks, Link.receives_append, moved.timing, hu]
      rfl⟩
    timing := moved.timing.trans (by rw [hu]) }

theorem Begun.isPlaying (h : Begun c v s t) : Machine.isPlaying c.id t = true := by
  rw [Machine.isPlaying, h.playing, List.any_append]
  simp

/-- A waiting live or announce call that may start begins in the scan. -/
theorem begun_scan (hwaiting : s.relay.waiting = [c]) (hfree : ∀ d ∈ s.relay.playing, d.id ≠ c.id)
    (hmay : mayStart c 0 s = true) (hsource : c.source.isRecorded = false) : Begun c none s (scan s) := by
  rw [scan_begins hwaiting hmay hsource]
  exact begun_beginCall hwaiting hfree none

/-- A waiting recorded call that may start takes a FREE voice and begins in the scan. -/
theorem begun_scan_recorded {region inWord : Nat} {out : Option Nat} {w : VoiceNo} (hwaiting : s.relay.waiting = [c])
    (hfree : ∀ d ∈ s.relay.playing, d.id ≠ c.id) (hmay : mayStart c 0 s = true)
    (hsource : c.source = .recorded region inWord out) (hvoice : freeVoiceNo s = some w) :
    Begun c (some w) (takeFree (callAlloc c.id region inWord out) w s) (scan s) := by
  have allocated : allocate (callAlloc c.id region inWord out) s = some
      { state := takeFree (callAlloc c.id region inWord out) w s, voice := w, callEnded := false } := by
    rw [allocate, hvoice]
  have starts : startCall c s = { state := beginCall c (some w) (takeFree (callAlloc c.id region inWord out) w s),
                                  started := true, callEnded := false } := by
    unfold startCall
    rw [hsource]
    dsimp only
    rw [allocated]
  rw [scan_starts hwaiting hmay (by rw [starts]), starts]
  refine begun_beginCall ?_ ?_ (some w)
  · rw [takeFree_same]
    exact hwaiting
  · rw [takeFree_same]
    exact hfree

/-- An event that was raised stays raised while others follow. -/
theorem Raised.receives {e : Event} (h : Raised e s) (htiming : t.timing = s.timing) {es : List Event}
    (hlinks : ∀ r, t.link r = (s.link r).receives s.timing.showClock es) : Raised e t := by
  have keeps : ∀ (es : List Event) (k : Link), (Link.receives s.timing.showClock es k).attached = k.attached ∧
      (({ e with clock := s.timing.showClock } ∈ k.queue ∨ k.lost = true) →
        { e with clock := s.timing.showClock } ∈ (Link.receives s.timing.showClock es k).queue ∨
          (Link.receives s.timing.showClock es k).lost = true) := by
    intro es
    induction es with
    | nil => exact fun k => ⟨rfl, fun h => h⟩
    | cons f es ih =>
      intro k
      obtain ⟨hatt, hkeep⟩ := ih (Link.append { f with clock := s.timing.showClock } k)
      refine ⟨hatt.trans (Link.append_attached ..), fun h => hkeep ?_⟩
      rcases Link.append_cases { f with clock := s.timing.showClock } k with ⟨-, -, e⟩ | ⟨-, -, e⟩ | ⟨-, e⟩ <;> rw [e]
      · exact h.imp_left (List.mem_append_left _)
      · exact .inr rfl
      · exact h
  intro r hatt
  obtain ⟨hsame, hkeep⟩ := keeps es (s.link r)
  rw [hlinks, htiming]
  rw [hlinks, hsame] at hatt
  exact hkeep (h r hatt)

/-- The newest record is among the raised ones. -/
theorem Newest.raised {e : Event} (h : Newest e s) : Raised e s := fun r hatt =>
  (h r hatt).imp_left List.mem_of_getLast?

end Begin

end Sys2Proof.Machine
end

section
/-! The settling of the obligation of CALL. -/

namespace Sys2Proof.Machine

section Accepted

variable {s : State} {c : Call} {p : CallPayload}

theorem Attacked.of_eq {id depth : Nat} {z : ZoneNo} {t u : State} (hrelay : u.relay = s.relay)
    (hfades : u.fades = s.fades) (h : Attacked id depth u z t) : Attacked id depth s z t := by
  obtain ⟨a, b, ha, hrest⟩ := h
  have same : u.zone? z = s.zone? z := zone?_congr (by rw [hrelay])
  rw [hrelay, hfades] at hrest
  exact ⟨a, b, same ▸ ha, hrest⟩

/-- Whether a source may be taken by the region table (checks 4 and 5 of R146). -/
theorem recordedRefusal_recordedOf (p : CallPayload) (s : State) : recordedRefusal (recordedOf p) s =
    match s.smi.regions[p.region.toNat]? with
    | none => some .badReference
    | some r => if wordsFit r.len p.inWord.toNat (if p.outWord = 0 then none else some p.outWord.toNat) none then none
      else some .badField := rfl

/-- A request that no check refuses is accepted with its id and its state after the scan (R146). -/
theorem callBody_accepts (hrequest : callRequest p = some c) (hpasses : callRefusal c s = none) : callBody p s =
    acceptWith (u8 (acceptCall c s).2 ++ [callStateByte (acceptCall c s).2 (acceptCall c s).1]) (acceptCall c s).1 := by
  rw [callBody, hrequest]
  dsimp only
  rw [hpasses]

theorem callStateByte_playing {id : Nat} (h : isPlaying id s = true) : callStateByte id s = 1 := by
  rw [callStateByte, if_pos h]

/-- The state after a call preempted the only playing call, before it joins the queue. -/
theorem acceptCall_preempting {d : Call} (hplaying : s.relay.playing = [d])
    (hprio : d.priority < c.priority) (hzones : d.zones &&& c.zones ≠ 0) :
    acceptCall c s = (scan (
      let y := endCallCore d.id .preempted { s with relay := { s.relay with
        nextId := nextId (takeCallId s), arrivals := s.relay.arrivals + 1 } }
      { y with relay := { y.relay with
        waiting := insertCall { c with id := takeCallId s, arrival := s.relay.arrivals } y.relay.waiting } }),
      takeCallId s) := by
  have chosen : [d].filter (fun d => decide (d.priority < c.priority) && (d.zones &&& c.zones) != 0) = [d] := by
    refine List.filter_cons_of_pos ?_
    simp only [hprio, decide_true, Bool.true_and, bne_iff_ne]
    exact hzones
  unfold acceptCall preempted
  dsimp only
  rw [hplaying, chosen]
  rfl

/-- The CALL_STARTED record of a live call of the prompt link (R176). -/
theorem callStartedEvent_live {i : LiveNo} (hsource : c.source = .live i) (horigin : c.origin = .prompt) :
    callStartedEvent c none = { kind := .callStarted, call := .ofNat 8 c.id, zones := c.zones,
                                aux1 := .ofNat 16 c.priority, aux2 := 0 } := by
  unfold callStartedEvent
  rw [hsource, horigin]
  rfl

/-- The CALL_STARTED record of a recorded call of the prompt link (R176). -/
theorem callStartedEvent_recorded (hsource : c.source = recordedOf p) (horigin : c.origin = .prompt) (v : VoiceNo) :
    callStartedEvent c (some v) = { kind := .callStarted, call := .ofNat 8 c.id, zones := c.zones,
                                    voice := .ofNat 8 v.val, aux1 := .ofNat 16 c.priority, aux2 := 256 } := by
  unfold callStartedEvent
  rw [hsource, horigin]
  rfl

end Accepted

/-! ### What a payload names -/

section Named

variable {p : CallPayload} {src : CallSource} {s : State}

/-- The source that a payload names, with every field of it in its range (R146, R178). -/
def Names (p : CallPayload) (src : CallSource) : Prop :=
  (p.kind = 0 ∧ ∃ i : LiveNo, i.val = p.input.toNat ∧ src = .live i) ∨
    (p.kind = 1 ∧ p.region.toNat < 1024 ∧ p.inWord.toNat < 16777216 ∧ p.outWord.toNat ≤ 16777216 ∧ src = recordedOf p)

theorem Names.callSource (h : Names p src) : callSource p = some src := by
  rcases h with ⟨hk, i, hi, rfl⟩ | ⟨hk, hregion, hin, hout, rfl⟩
  · exact callSource_live hk hi
  · exact callSource_recorded hk hregion hin hout

theorem Names.recorded (h : Names p src) (hk : p.kind = 1) : src = recordedOf p := by
  rcases h with ⟨hlive, -⟩ | ⟨-, -, -, -, e⟩
  · rw [hk] at hlive
    exact absurd hlive (by decide)
  · exact e

theorem Names.live (h : Names p src) (hk : p.kind = 0) : ∃ i, src = .live i := by
  rcases h with ⟨-, i, -, e⟩ | ⟨hrec, -⟩
  · exact ⟨i, e⟩
  · rw [hk] at hrec
    exact absurd hrec (by decide)

theorem Names.isRecorded_iff (h : Names p src) : src.isRecorded = true ↔ p.kind = 1 := by
  rcases h with ⟨hk, i, -, rfl⟩ | ⟨hk, -, -, -, rfl⟩
  · rw [hk]
    exact ⟨nofun, fun h => absurd h (by decide)⟩
  · exact ⟨fun _ => hk, fun _ => rfl⟩

/-- A field out of its range leaves no request (check 1 of R146). -/
theorem callRequest_badField (h : p.zones = 0 ∨ p.priority = 0 ∨ 3 < p.priority.toNat ∨ p.page.toInt < -300 ∨
    60 < p.page.toInt ∨ 600 < p.depth.toNat ∨ 2 ≤ p.kind.toNat ∨ (p.kind = 0 ∧ 16 ≤ p.input.toNat) ∨
    (p.kind = 1 ∧ (1024 ≤ p.region.toNat ∨ 16777216 ≤ p.inWord.toNat ∨ 16777216 < p.outWord.toNat))) :
    callRequest p = none := by
  refine callRequest_none ?_
  rcases h with h | h | h | h | h | h | h | h | h
  · exact .inr fun ok => ok.1 h
  · refine .inr fun ⟨_, hlo, _⟩ => ?_
    rw [h] at hlo
    exact absurd hlo (by decide)
  · exact .inr fun ⟨_, _, hhi, _⟩ => by omega
  · exact .inr fun ⟨_, _, _, hlo, _⟩ => by omega
  · exact .inr fun ⟨_, _, _, _, hhi, _⟩ => by omega
  · exact .inr fun ⟨_, _, _, _, _, hd⟩ => by omega
  · exact .inl (callSource_none (.inl h))
  · exact .inl (callSource_none (.inr (.inl h)))
  · exact .inl (callSource_none (.inr (.inr h)))

/-- A region of the table holds the words of a recorded request (check 5 of R146). -/
def HoldsWords (p : CallPayload) (s : State) : Prop :=
  ∃ reg, s.smi.regions[p.region.toNat]? = some reg ∧ (p.outWord = 0 → p.inWord.toNat < reg.len) ∧
    (p.outWord ≠ 0 → p.outWord.toNat ≤ reg.len ∧ p.inWord.toNat < p.outWord.toNat)

theorem HoldsWords.of_smi {t : State} (h : HoldsWords p s) (hsmi : t.smi = s.smi) : HoldsWords p t := by
  rw [HoldsWords, hsmi]
  exact h

theorem recordedRefusal_passes (hsrc : Names p src) (hfits : p.kind = 1 → HoldsWords p s) :
    recordedRefusal src s = none := by
  by_cases hk : p.kind = 1
  · obtain ⟨reg, hregion, hwhole, hpart⟩ := hfits hk
    rw [hsrc.recorded hk, recordedRefusal_recordedOf, hregion]
    exact if_pos (wordsFit_iff.mpr ⟨hwhole, hpart⟩)
  · cases src with
    | recorded r w o => exact absurd (hsrc.isRecorded_iff.mp rfl) hk
    | live i => rfl
    | announce => rfl

theorem recordedRefusal_unfit {reg : Region} (hregion : s.smi.regions[p.region.toNat]? = some reg)
    (hwords : p.outWord = 0 ∧ reg.len ≤ p.inWord.toNat ∨
      p.outWord ≠ 0 ∧ (reg.len < p.outWord.toNat ∨ p.outWord.toNat ≤ p.inWord.toNat)) :
    recordedRefusal (recordedOf p) s = some .badField := by
  rw [recordedRefusal_recordedOf, hregion]
  refine if_neg ?_
  rw [wordsFit_iff]
  rintro ⟨hwhole, hpart⟩
  rcases hwords with ⟨h0, hlen⟩ | ⟨h0, hbad⟩
  · exact absurd (hwhole h0) (Nat.not_lt.mpr hlen)
  · obtain ⟨hle, hlt⟩ := hpart h0
    omega

/-- A region that holds the words leaves a word to play from the first one on. -/
theorem HoldsWords.lt_last (h : HoldsWords p s) : p.inWord.toNat <
    (if p.outWord = 0 then none else some p.outWord.toNat).getD (regionAt s p.region.toNat).len := by
  obtain ⟨reg, hregion, hwhole, hpart⟩ := h
  have here : regionAt s p.region.toNat = reg := by
    show s.smi.regions.getD _ _ = _
    rw [List.getD_eq_getElem?_getD, hregion]
    rfl
  rw [here]
  split
  · next h0 => exact hwhole h0
  · next h0 => exact (hpart h0).2

end Named

/-! ### A call that joins the empty queue (R148 to R150) -/

/-- A requested call joins the empty queue as `c`, with an id that no playing call has. -/
structure Joins (c₀ : Call) (s : State) (c : Call) : Prop where
  waiting : s.relay.waiting = []
  unused : ∀ d ∈ s.relay.playing, d.id ≠ s.relay.nextId
  joined : { c₀ with id := takeCallId s, arrival := s.relay.arrivals } = c

namespace Joins

variable {c₀ c : Call} {s : State} (h : Joins c₀ s c)
include h

theorem id : takeCallId s = c.id := by rw [← h.joined]

theorem id_eq : c.id = s.relay.nextId := by rw [← h.id, takeCallId_eq h.waiting h.unused]

theorem priority : c₀.priority = c.priority := by rw [← h.joined]

theorem zones : c₀.zones = c.zones := by rw [← h.joined]

theorem relay : (queued c₀ s).relay = { s.relay with
    waiting := [c], nextId := nextId c.id, arrivals := s.relay.arrivals + 1 } := by
  rw [queued, h.joined, h.id]

theorem queue : (queued c₀ s).relay.waiting = [c] := by rw [h.relay]

theorem free : ∀ d ∈ (queued c₀ s).relay.playing, d.id ≠ c.id := by
  rw [h.relay, h.id_eq]
  exact h.unused

theorem accepted (hnone : ∀ d ∈ s.relay.playing, c.priority ≤ d.priority ∨ d.zones &&& c.zones = 0) :
    acceptCall c₀ s = (scan (queued c₀ s), c.id) := by
  rw [acceptCall_alone h.waiting (by rw [h.priority, h.zones]; exact hnone), h.id]

/-- A call that a carried zone keeps waiting (R149). -/
theorem waits (hbusy : ∃ z zn, c.zones.getLsbD z.val = true ∧ s.zone? z = some zn ∧ zn.carried ≠ none) :
    scan (queued c₀ s) = queued c₀ s ∧ callStateByte c.id (queued c₀ s) = 0 := by
  obtain ⟨z, zn, hz, hzn, hcarried⟩ := hbusy
  have idle : isPlaying c.id (queued c₀ s) = false := by
    rw [isPlaying, List.any_eq_false]
    exact fun d hd => by simpa using h.free d hd
  have stands : (callOf c.id (queued c₀ s)).isSome = true := by
    rw [callOf, List.find?_isSome, h.queue]
    exact ⟨c, List.mem_append_right _ (List.mem_singleton_self c), by simp⟩
  refine ⟨scan_waits h.queue ?_, ?_⟩
  · rw [← Bool.not_eq_true, mayStart_iff]
    exact fun hmay => hcarried (hmay z zn hz hzn)
  · rw [callStateByte, idle, if_neg (by decide), if_pos stands]

/-- What the start of the call leaves of the queue, the calls and the zones, told from the state before the request. -/
theorem started {v : Option VoiceNo} {y t : State} (hbegun : Begun c v y t) (hrelay : y.relay = (queued c₀ s).relay)
    (hfades : y.fades = s.fades) (hpresent : ∀ z : ZoneNo, c.zones.getLsbD z = true → z.val < s.relay.zones.length) :
    t.relay.waiting = [] ∧ t.relay.playing = s.relay.playing ++ [{ c with gate := startGate c y }] ∧
      (∀ z : ZoneNo, c.zones.getLsbD z = true → Attacked c.id c.depth s z t) ∧
      ∀ z : ZoneNo, c.zones.getLsbD z = false → t.zone? z = s.zone? z := by
  rw [h.relay] at hrelay
  have zones : ∀ z, y.zone? z = s.zone? z := fun z => zone?_congr (by rw [hrelay])
  refine ⟨hbegun.waiting, by rw [hbegun.playing, hrelay], fun z hz => ?_, fun z hz => (hbegun.stands z hz).1.trans (zones z)⟩
  obtain ⟨a, ha⟩ : ∃ a, s.zone? z = some a := ⟨_, List.getElem?_eq_getElem (hpresent z hz)⟩
  obtain ⟨b, hb, hout, hcarried, hphase, hnow, hover⟩ := hbegun.attacked z hz a ((zones z).trans ha)
  rw [hrelay] at hnow hover
  refine ⟨a, b, ha, hb, hout, hcarried, hphase, hnow, fun hpos hroom => hover hpos ?_⟩
  rw [fadeLoad_congr hfades]
  exact (fadeLoad_le duckTargets s).trans hroom

omit h in
theorem mayStart_clear (hclear : ∀ z zn, c.zones.getLsbD z.val = true → s.zone? z = some zn → zn.carried = none) :
    mayStart c 0 (queued c₀ s) = true :=
  mayStart_iff.mpr fun z zn hz hzn => hclear z zn hz hzn

/-- A live call whose zones are free starts. -/
theorem starts_live {i : LiveNo} (hclear : ∀ z zn, c.zones.getLsbD z.val = true → s.zone? z = some zn → zn.carried = none)
    (hsource : c.source = .live i) : Begun c none (queued c₀ s) (scan (queued c₀ s)) :=
  begun_scan h.queue h.free (mayStart_clear hclear) (by rw [hsource]; rfl)

/-- A recorded call whose zones are free starts with the lowest-numbered FREE voice (R66, R150). -/
theorem starts_recorded {p : CallPayload} {w : VoiceNo}
    (hclear : ∀ z zn, c.zones.getLsbD z.val = true → s.zone? z = some zn → zn.carried = none)
    (hsource : c.source = recordedOf p) (hw : freeVoiceNo s = some w) :
    Begun c (some w) (takeFree (callAlloc c.id p.region.toNat p.inWord.toNat
      (if p.outWord = 0 then none else some p.outWord.toNat)) w (queued c₀ s)) (scan (queued c₀ s)) :=
  begun_scan_recorded h.queue h.free (mayStart_clear hclear) hsource hw

/-- The state after the preempted call has ended and the new one has joined the queue, before its scan (R148). -/
theorem preempts {d : Call} (hplaying : s.relay.playing = [d]) (hprio : d.priority < c.priority)
    (hmeet : d.zones &&& c.zones ≠ 0) :
    ∃ q, acceptCall c₀ s = (scan q, c.id) ∧ q.relay.waiting = [c] ∧ q.relay.playing = [] ∧
      q.relay.zones.length = s.relay.zones.length ∧ Raised { kind := .callEnded, call := .ofNat 8 d.id, reason := 8 } q ∧
      (∀ z : ZoneNo, d.zones.getLsbD z = true → ReleasedAt z s q) ∧
      ∀ z : ZoneNo, d.zones.getLsbD z = false → q.zone? z = s.zone? z := by
  obtain ⟨x, hx⟩ : ∃ x : State, x = { s with relay := { s.relay with
      nextId := nextId (takeCallId s), arrivals := s.relay.arrivals + 1 } } := ⟨_, rfl⟩
  have accepted := acceptCall_preempting (c := c₀) hplaying (by rw [h.priority]; exact hprio) (by rw [h.zones]; exact hmeet)
  rw [← hx, h.joined, h.id] at accepted
  have xPlaying : x.relay.playing = [d] := by rw [hx]; exact hplaying
  have xStands : ∀ z, ZoneStands z s x := fun z => by rw [hx]; exact ⟨rfl, rfl⟩
  have found : callOf d.id x = some d := by
    rw [callOf, xPlaying]
    exact List.find?_cons_of_pos (by simp)
  have playingNow : isPlaying d.id x = true := (isPlaying_iff found).mpr (xPlaying ▸ List.mem_singleton_self d)
  have leaves := callLeaves_endCallCore found .preempted
  have outputs := ((Within.refl 1 x).endCallCore (Nat.le_refl 1) (id := d.id) (reason := .preempted)).outputs
  obtain ⟨y, hy⟩ : ∃ y, y = endCallCore d.id .preempted x := ⟨_, rfl⟩
  rw [← hy] at leaves accepted outputs
  have yWaiting : y.relay.waiting = [] := by
    rw [leaves.same, hx, h.waiting]
    rfl
  have yPlaying : y.relay.playing = [] := by
    rw [leaves.same, xPlaying]
    simp
  obtain ⟨q, hq⟩ : ∃ q : State, q = { y with relay := { y.relay with waiting := insertCall c y.relay.waiting } } := ⟨_, rfl⟩
  have qStands : ∀ z, ZoneStands z y q := fun z => by rw [hq]; exact ⟨rfl, rfl⟩
  refine ⟨q, by rw [hq]; exact accepted, by rw [hq, yWaiting]; rfl, by rw [hq]; exact yPlaying, ?_, ?_, fun z hz => ?_,
    fun z hz => ?_⟩
  · have lengths := congrArg List.length outputs
    rw [List.length_map, List.length_map] at lengths
    rw [hq, show y.relay.zones.length = _ from lengths, hx]
  · rw [hq]
    exact leaves.newest.raised
  · exact ((leaves.released playingNow z hz).of_stands (xStands z) (by rw [hx])
      (Nat.le_of_eq (fadeLoad_congr (by rw [hx])))).stands (qStands z)
  · exact (((xStands z).trans (leaves.stands z (.inr hz))).trans (qStands z)).1

/-- A call that preempts the only playing call starts on the zones that the other leaves (R148). -/
theorem preempts_starts {d : Call} {i : LiveNo} (hplaying : s.relay.playing = [d]) (hprio : d.priority < c.priority)
    (hmeet : d.zones &&& c.zones ≠ 0) (hsource : c.source = .live i)
    (hcarried : ∀ z zn, s.zone? z = some zn → zn.carried ≠ none → d.zones.getLsbD z.val = true)
    (hpresent : ∀ z : ZoneNo, c.zones.getLsbD z = true → z.val < s.relay.zones.length) :
    ∃ t, acceptCall c₀ s = (t, c.id) ∧ isPlaying c.id t = true ∧ t.relay.waiting = [] ∧
      (∃ e, t.relay.playing = [e] ∧ e.id = c.id) ∧ Raised { kind := .callEnded, call := .ofNat 8 d.id, reason := 8 } t ∧
      (∀ z zn, t.zone? z = some zn → c.zones.getLsbD z.val = true → zn.carried = some c.id ∧ zn.phase = .ducked) ∧
      ∀ z, c.zones.getLsbD z.val = false → d.zones.getLsbD z.val = true → Released z s t := by
  obtain ⟨q, accepted, queue, playing, lengths, raised, released, stands⟩ := h.preempts hplaying hprio hmeet
  have may : Machine.mayStart c 0 q = true := by
    refine mayStart_iff.mpr fun z zn hz hzn => ?_
    cases hbit : d.zones.getLsbD z with
    | true =>
      obtain ⟨a, ha⟩ : ∃ a, s.zone? z = some a := ⟨_, List.getElem?_eq_getElem (hpresent z hz)⟩
      obtain ⟨b, hb, hnone, -⟩ := released z hbit a ha
      rw [hzn] at hb
      exact Option.some.inj hb ▸ hnone
    | false =>
      by_contra hne
      have hit := hcarried z zn ((stands z hbit).symm.trans hzn) hne
      rw [show d.zones.getLsbD z.val = false from hbit] at hit
      cases hit
  have begun := begun_scan queue (by rw [playing]; exact fun d hd => absurd hd List.not_mem_nil) may (by rw [hsource]; rfl)
  obtain ⟨es, hes⟩ := begun.events
  refine ⟨scan q, accepted, begun.isPlaying, begun.waiting, ⟨{ c with gate := startGate c q }, ?_, rfl⟩,
    raised.receives begun.timing hes, fun z zn hzn hz => ?_, fun z hz hd => ?_⟩
  · rw [begun.playing, playing]
    rfl
  · obtain ⟨a, ha⟩ : ∃ a, q.zone? z = some a := ⟨_, List.getElem?_eq_getElem (by rw [lengths]; exact hpresent z hz)⟩
    obtain ⟨b, hb, -, hcarriedNow, hphase, -⟩ := begun.attacked z hz a ha
    rw [hzn] at hb
    exact Option.some.inj hb ▸ ⟨hcarriedNow, hphase⟩
  · exact ((released z hd).stands (begun.stands z hz)).released

end Joins

end Sys2Proof.Machine

namespace Sys2Proof.Proofs
open Sys2Proof.Machine

/-- Settles O56: the checks in order, and the three outcomes of the scan that an accepted call is given. -/
theorem callTaken : Obligations.CallTaken := by
  intro l tag p s hs
  refine ⟨fun hbad => next_serve_of_serves hs tag ?_, fun src hzones hprioLo hprioHi hpageLo hpageHi hdepth hsrc => ?_⟩
  · rw [callBody, callRequest_badField hbad]
    rfl
  have named : Names p src := hsrc
  obtain ⟨u, hu⟩ : ∃ u, u = reloadPresence l s := ⟨_, rfl⟩
  have relay : u.relay = s.relay := hu ▸ reloadPresence_relay l s
  have fades : u.fades = s.fades := hu ▸ reloadPresence_fades l s
  have store : u.store = s.store := hu ▸ reloadPresence_store l s
  have smi : u.smi = s.smi := hu ▸ reloadPresence_smi l s
  have stream : u.stream = s.stream := hu ▸ reloadPresence_stream l s
  obtain ⟨c₀, hc₀⟩ : ∃ c, c = newCall p.priority.toNat src p.zones p.page.toInt p.depth.toNat .prompt := ⟨_, rfl⟩
  have request : callRequest p = some c₀ :=
    hc₀ ▸ callRequest_some named.callSource ⟨hzones, hprioLo, hprioHi, hpageLo, hpageHi, hdepth⟩
  have c₀Source : c₀.source = src := by rw [hc₀]; rfl
  have c₀Zones : c₀.zones = p.zones := by rw [hc₀]; rfl
  have refused : ∀ {r : Result} {payload : List Byte}, callRefusal c₀ u = some { result := r, payload := payload } →
      exec (.call l tag p) s = answered l 0x63 tag r payload u := fun h =>
    next_serve_of_serves hs tag (by rw [← hu, callBody, request]; dsimp only; rw [h])
  rw [← hu]
  -- the checks of R146 in order
  refine ⟨fun hk hloading => refused (callRefusal_loading ?_ (store ▸ hloading)), fun hnotLoading => ?_⟩
  · rw [c₀Source]
    exact named.isRecorded_iff.mpr hk
  have stored := callRefusal_stored (c := c₀) (s := u) (by
    rw [c₀Source, named.isRecorded_iff, store]
    exact hnotLoading)
  rw [c₀Zones, c₀Source] at stored
  refine ⟨fun z hz habsent hfirst => refused ?_, fun hpresent => ?_⟩
  · rw [stored, absentZone_some hz (by rw [relay]; exact habsent) (by rw [relay]; exact hfirst)]
  rw [absentZone_none (by rw [relay]; exact hpresent)] at stored
  dsimp only at stored
  refine ⟨fun hk hregion => refused ?_, fun reg hk hregion hwords => refused ?_, fun hfits => ?_⟩
  · rw [stored, named.recorded hk, recordedRefusal_recordedOf, smi, List.getElem?_eq_none hregion]
  · rw [stored, named.recorded hk, recordedRefusal_unfit (by rw [smi]; exact hregion) hwords]
  have holds : p.kind = 1 → HoldsWords p u := fun hk => HoldsWords.of_smi (hfits hk) smi
  rw [recordedRefusal_passes named holds] at stored
  dsimp only at stored
  refine ⟨fun hfull => refused ?_, fun c hwaiting hfree hc => ?_⟩
  · rw [stored]
    refine if_pos ?_
    rw [waitingCount, relay]
    exact hfull
  -- an accepted call joins the queue
  have joins : Joins c₀ u c := by
    have waiting : u.relay.waiting = [] := relay ▸ hwaiting
    have unused : ∀ d ∈ u.relay.playing, d.id ≠ u.relay.nextId := by rw [relay]; exact hfree
    refine ⟨waiting, unused, ?_⟩
    rw [takeCallId_eq waiting unused, hc₀, hc, relay]
    rfl
  have passes : callRefusal c₀ u = none := by
    rw [stored]
    refine if_neg ?_
    rw [waitingCount, joins.waiting]
    decide
  have cSource : c.source = src := by rw [hc]
  have answers : ∀ {t : State}, acceptCall c₀ u = (t, c.id) → exec (.call l tag p) s =
      answered l 0x63 tag .accepted (u8 c.id ++ [callStateByte c.id t]) t := fun h =>
    next_serve_of_serves hs tag (by rw [← hu, callBody_accepts request passes, h]; rfl)
  have plays : ∀ {t : State}, acceptCall c₀ u = (t, c.id) → isPlaying c.id t = true → exec (.call l tag p) s =
      answered l 0x63 tag .accepted (u8 c.id ++ u8 1) t := fun h hplays => by
    rw [answers h, callStateByte_playing hplays]
    rfl
  have zones : ∀ z, u.zone? z = s.zone? z := fun z => zone?_congr (by rw [relay])
  have present : ∀ z : ZoneNo, c.zones.getLsbD z = true → z.val < u.relay.zones.length := by
    rw [relay, hc]
    exact hpresent
  refine ⟨fun hnone => ?_, fun d i hplaying hdSource hprio hmeet hk hvoiceless hcarried => ?_⟩
  · have accepted := joins.accepted (by rw [relay]; exact hnone)
    refine ⟨fun ⟨z, zn, hz, hzn, hbusy⟩ => ?_, fun hclear hfreeVoice => ?_⟩
    · obtain ⟨waits, state⟩ := joins.waits ⟨z, zn, hz, (zones z).trans hzn, hbusy⟩
      rw [waits] at accepted
      rw [answers accepted, state, queued, joins.joined, joins.id, relay]
      rfl
    have clear : ∀ z zn, c.zones.getLsbD z.val = true → u.zone? z = some zn → zn.carried = none := fun z zn hz hzn =>
      hclear z zn hz ((zones z).symm.trans hzn)
    have attacked : ∀ {z : ZoneNo} {t : State}, Attacked c.id c.depth u z t → Attacked c.id c.depth s z t :=
      Attacked.of_eq relay fades
    rcases hsrc with ⟨hk, i, -, hi⟩ | ⟨hk, -⟩
    · have other : p.kind ≠ 1 := by rw [hk]; decide
      have begun := joins.starts_live clear (cSource.trans hi)
      obtain ⟨waiting, playing, hattacked, hstands⟩ := joins.started begun rfl rfl present
      have newest := begun.newest
      rw [callStartedEvent_live (cSource.trans hi) (by rw [hc])] at newest
      refine ⟨scan (queued c₀ u), startGate c (queued c₀ u), plays accepted begun.isPlaying, waiting, relay ▸ playing,
        fun _ => ?_, fun h => absurd h other, fun z hz => attacked (hattacked z hz),
        fun z hz => (hstands z hz).trans (zones z), fun _ => ⟨begun.stream.trans stream, newest⟩,
        fun v h => absurd h other⟩
      unfold startGate
      rw [cSource, hi]
      dsimp only
      rw [if_pos (by rw [hc]; exact hprioHi), joins.relay, relay]
    · have other : p.kind ≠ 0 := by rw [hk]; decide
      have hrec := named.recorded hk
      have voices : ∀ v, u.voice v = s.voice v := fun v => by rw [State.voice, State.voice, stream]
      obtain ⟨w, hw⟩ := freeVoiceNo_isSome (s := u) (by
        obtain ⟨v, hv⟩ := hfreeVoice hk
        exact ⟨v, by rw [voices]; exact hv⟩)
      have begun := joins.starts_recorded clear (cSource.trans hrec) hw
      obtain ⟨waiting, playing, hattacked, hstands⟩ := joins.started begun (by rw [takeFree_same]) (by rw [takeFree_same]; rfl)
        present
      have newest := begun.newest
      rw [callStartedEvent_recorded (cSource.trans hrec) (by rw [hc])] at newest
      refine ⟨scan (queued c₀ u), startGate c _, plays accepted begun.isPlaying, waiting, relay ▸ playing,
        fun h => absurd h other, fun _ => ?_, fun z hz => attacked (hattacked z hz),
        fun z hz => (hstands z hz).trans (zones z), fun h => absurd h other, fun v _ hv hbelow => ?_⟩
      · unfold startGate
        rw [cSource, hrec]
        rfl
      · have chosen := freeVoiceNo_eq (s := u) (v := v) (by rw [voices]; exact hv)
          (fun x hx => by rw [voices]; exact hbelow x hx)
        obtain rfl := Option.some.inj (hw.symm.trans chosen)
        have voice : (scan (queued c₀ u)).voice w = { ((callAlloc c.id p.region.toNat p.inWord.toNat
            (if p.outWord = 0 then none else some p.outWord.toNat)).record (queued c₀ u)).started with
              fetch := .waiting } := by
          rw [State.voice, begun.stream]
          exact voice_takeFree_self ((holds hk).of_smi rfl).lt_last
        rw [voice]
        exact ⟨rfl, rfl, rfl, rfl, rfl, rfl, newest⟩
  · obtain ⟨j, hj⟩ := named.live hk
    obtain ⟨t, accepted, playing, waiting, alone, raised, taken, released⟩ :=
      joins.preempts_starts (relay ▸ hplaying) hprio hmeet (cSource.trans hj)
        (fun z zn hzn => hcarried z zn ((zones z).symm.trans hzn)) present
    refine ⟨t, plays accepted playing, waiting, alone, raised, taken, fun z hz hd a ha => ?_⟩
    have release := released z hz hd a ((zones z).trans ha)
    rw [relay, fades, fadeFor_congr fades] at release
    exact release

end Sys2Proof.Proofs
end

section
/-! SUPPORT. The end of an instance whose last voice is gone, and writes of one voice and one zone twice over; then the
obligations of the voice's own events and of the last step of a fade. -/

namespace Sys2Proof.Machine

section Voices

variable {s : State} {v : VoiceNo} {i : CueInstance}

theorem State.setVoice_setVoice (s : State) (v : VoiceNo) (x y : Voice) :
    (s.setVoice v x).setVoice v y = s.setVoice v y := by
  simp [State.setVoice]

theorem State.setVoice_voice (s : State) (v : VoiceNo) : s.setVoice v (s.voice v) = s := by
  simp [State.setVoice, State.voice]

/-- Becoming FREE is about nothing that a write of the voice or the removal of its fade has moved. -/
theorem freeVoice_removeFade_setVoice (v : VoiceNo) (x : Voice) (s : State) :
    freeVoice v (removeFade (.voice v) (s.setVoice v x)) = freeVoice v s := by
  simp [freeVoice, removeFade, State.setVoice, List.filter_filter]

theorem freeVoice_eq_voiceFreed (v : VoiceNo) (s : State) : freeVoice v s = voiceFreed v s := rfl

/-- An instance that is RUNNING with nothing pending and no voice ends with its record (R58). -/
theorem checkEnd_leaves (htable : TableOk s) (hi : i ∈ s.seq.instances) (hphase : i.phase = .running)
    (hfollow : i.follow = none) (hvoices : ∀ u, (s.voice u).ownedByInst i.id = false) :
    checkEnd i.id s =
      raise { kind := .cueEnded, inst := .ofNat 8 i.id, cue := i.cue, reason := if i.stopped then 1 else 0 }
        { s with seq := { s.seq with instances := s.seq.instances.filter fun j => j.id != i.id } } := by
  obtain ⟨-, hnodup, -⟩ := htable
  rw [checkEnd_ends (instOf_eq hnodup hi) hphase hfollow hvoices, endInst, instEvent, removeInst]
  split <;> rfl

theorem startRamp_eq (h : ∀ p, (s.voice v).state ≠ .stoppingRamp p) : startRamp v s = s.setVoice v (s.voice v).ramping := by
  unfold startRamp
  split
  · next p hp => exact absurd hp (h p)
  · rfl

/-- The owner of a freed voice has its end check; an orphan's none (R57). -/
theorem voice_freeVoice_owner (w : VoiceNo) {id : Nat} (h : ∀ u, u ≠ v → (s.voice u).ownedByInst id = false) :
    ((freeVoice v s).voice w).ownedByInst id = false := by
  by_cases hne : w = v
  · rw [hne, voice_freeVoice_self]
    rfl
  · rw [voice_freeVoice_ne hne]
    exact h w hne

/-- An instance that loses its last voice ends (R57, R58). -/
theorem ownerLost_last {c : CueNum} {reason : CallEnd} (htable : TableOk s) (hi : i ∈ s.seq.instances)
    (hphase : i.phase = .running) (hfollow : i.follow = none)
    (honly : ∀ u, u ≠ v → (s.voice u).ownedByInst i.id = false) :
    ownerLost (.inst i.id c) reason (freeVoice v s) =
      raise { kind := .cueEnded, inst := .ofNat 8 i.id, cue := i.cue, reason := if i.stopped then 1 else 0 }
        { voiceFreed v s with seq := { s.seq with instances := s.seq.instances.filter fun j => j.id != i.id } } :=
  checkEnd_leaves (s := freeVoice v s) htable hi hphase hfollow fun u => voice_freeVoice_owner u honly

theorem exhausted_iff (x : Voice) : x.exhausted = true ↔
    x.next = x.out ∧ x.loops = 0 ∧ x.fetch = .none ∧ x.buf = [] ∧ x.silence = 0 := by
  simp only [Voice.exhausted, Bool.and_eq_true, decide_eq_true_eq, beq_iff_eq, List.isEmpty_iff, and_assoc]

theorem primed_iff (x : Voice) : x.primed = true ↔
    256 ≤ x.frames ∨ 1024 ≤ x.fifo.length ∨ x.exhausted = true := by
  unfold Voice.primed
  rw [Bool.or_eq_true, Bool.or_eq_true, decide_eq_true_eq, decide_eq_true_eq]
  show (256 ≤ x.frames ∨ _) ∨ 1024 ≤ x.fifo.length ↔ _
  tauto

theorem atNaturalEnd_iff (x : Voice) : x.atNaturalEnd = true ↔
    (x.state = .playing ∨ x.state = .stoppingFade) ∧ x.exhausted = true ∧ x.fifo = [] := by
  unfold Voice.atNaturalEnd
  split <;> simp_all [List.isEmpty_iff]

/-- The siblings that stop-at-end reaches (R82). -/
theorem mem_soundingVoices {id : Nat} : v ∈ soundingVoices id s ↔ (s.voice v).ownedByInst id = true ∧
    ((∃ f, (s.voice v).state = .starting f) ∨ (s.voice v).state = .playing ∨ (s.voice v).state = .starved) := by
  simp only [soundingVoices, voicesOfInst, List.mem_filter, mem_voiceNos, true_and]
  refine and_congr_right fun _ => ?_
  cases (s.voice v).state <;> simp

theorem nodup_soundingVoices (id : Nat) (s : State) : (soundingVoices id s).Nodup :=
  ((List.nodup_finRange 32).filter _).filter _

theorem checkEnd_voice (id : Nat) (s : State) (u : VoiceNo) : (checkEnd id s).voice u = s.voice u := by
  rw [checkEnd_same]
  rfl

/-! ### The rows of a voice (R69, R73, R81) -/

section Rows

variable {x : Voice}

/-- Entry to PLAYING posts the fade-in of its record (R73). -/
theorem enterPlaying_fadeIn (hx : x = s.voice v) {d : Nat} (hstate : x.state = .starting (some d)) (hd : 0 < d)
    (hprimed : x.primed = true) (hnone : fadeFor (.voice v) s = none) (hroom : s.fades.length < 256) :
    enterPlaying v s = { s with
      stream := { s.stream with voices := s.stream.voices.set v { x with state := .playing } },
      fades := s.fades ++ [{ target := .voice v, start := x.level, goal := x.startLevel, n := d, k := 0, due := false,
                             action := .nothing, poster := .stream }] } := by
  have level : getLevel (.voice v) (s.setVoice v { x with state := .playing }) = x.level := by
    rw [getLevel, State.voice_setVoice_self]
  rw [enterPlaying, ← hx]
  dsimp only
  rw [hstate]
  dsimp only
  rw [if_pos hprimed, post, postFade_posted (p := fadeInPost v x.startLevel d)
    (s := s.setVoice v { x with state := .playing }) hd.ne' hnone hroom, Post.entry]
  dsimp only [fadeInPost]
  rw [level]
  rfl

/-- The end of a reclaiming ramp starts the voice for its new owner (R69, R74). -/
theorem endReclaim_restarts (hx : x = s.voice v) {p : Nat} {d : Dest} {l : Level} {c : Bool}
    (hstate : x.state = .reclaiming p d l c) (hp : 240 ≤ p) (hc : c = false) (hfetch : x.fetch = .none) (hbuf : x.buf = [])
    (hlt : x.inWord < x.out) : endReclaim v s = { s with
      stream := { s.stream with voices := s.stream.voices.set v {
          x with
          state := .starting (if x.fadeIn = 0 then none else some x.fadeIn),
          level := if x.fadeIn = 0 then x.startLevel else .off,
          next := x.inWord, fifo := [], faultReported := false, fetch := .waiting } },
      relay := { s.relay with tails := s.relay.tails.filter fun tl => tl.voice != v } } := by
  obtain ⟨y, hy⟩ : ∃ y, y = Voice.started { x with fifo := [], next := x.inWord, faultReported := false } := ⟨_, rfl⟩
  have taken : endReclaim v s = postFetch v (dropTail v (s.setVoice v y)) := by
    rw [endReclaim, ← hx, hy]
    split
    · next p' d' l' c' hstate' =>
      rw [hstate] at hstate'
      cases hstate'
      rw [if_pos (show Config.rampFrames ≤ p from hp), if_neg (by rw [hc]; decide)]
    · next hnot => exact absurd hstate (hnot _ _ _ _)
  have here : (dropTail v (s.setVoice v y)).voice v = y := State.voice_setVoice_self ..
  have wants : y.wantsFetch = true := by
    rw [hy, started_eq]
    simp [Voice.wantsFetch, Voice.fetches, hfetch, hbuf, hlt]
  rw [taken, postFetch, here, if_pos wants, hy, started_eq]
  exact State.setVoice_setVoice (dropTail v s) v _ _

/-- The natural end frees the voice, tells its owner, and stops its siblings (R57, R81). -/
theorem naturalEnd_ends (hx : x = s.voice v) (hended : x.atNaturalEnd = true) :
    naturalEnd v s = stopSiblings x (ownerLost x.owner .complete (freeVoice v s)) := by
  rw [naturalEnd, ← hx]
  exact if_pos hended

theorem stopSiblings_orphan (howner : x.owner = .orphan) (t : State) : stopSiblings x t = t := by
  rw [stopSiblings, howner]
  split
  · next h => cases h
  · rfl

/-- An instance that no voice is left of has no sibling to stop. -/
theorem stopSiblings_alone {id : Nat} {c : CueNum} {t : State} (howner : x.owner = .inst id c)
    (halone : ∀ u, (t.voice u).ownedByInst id = false) : stopSiblings x t = t := by
  have none : soundingVoices id t = [] := by
    rw [List.eq_nil_iff_forall_not_mem]
    intro u hu
    rw [mem_soundingVoices, halone u] at hu
    exact absurd hu.1 (by decide)
  unfold stopSiblings
  split
  · next id' c' hown =>
    rw [howner] at hown
    cases hown
    split
    · exact congrArg (stopVoices · 0 _) none
    · rfl
  · rfl

/-- A PLAYING voice with stop-at-end stops the other voices of its instance at its natural end (R57). -/
theorem stopSiblings_stops {id : Nat} {c : CueNum} (howner : x.owner = .inst id c) (hstate : x.state = .playing)
    (hend : x.stopAtEnd = true) (t : State) : stopSiblings x t = stopVoices (soundingVoices id t) 0 t := by
  unfold stopSiblings
  rw [hstate, howner]
  exact if_pos hend

theorem stopSiblings_stays (h : ¬ (x.state = .playing ∧ x.stopAtEnd = true)) (t : State) : stopSiblings x t = t := by
  unfold stopSiblings
  split
  · next hplaying _ => exact if_neg fun hend => h ⟨hplaying, hend⟩
  · rfl

/-- A sibling that is stopped: a STARTING one is freed, a sounding one takes the declick ramp (R83). -/
theorem stopSiblings_voice {id : Nat} {t : State} {u : VoiceNo} (hown : (t.voice u).ownedByInst id = true) :
    ((∃ f, (t.voice u).state = .starting f) → (stopVoices (soundingVoices id t) 0 t).voice u = Voice.freeRecord) ∧
    ((t.voice u).state = .playing ∨ (t.voice u).state = .starved →
      (stopVoices (soundingVoices id t) 0 t).voice u = (t.voice u).ramping) := by
  refine ⟨fun ⟨f, hf⟩ => ?_, fun hsounds => ?_⟩
  · have stopped := stoppedVoice_stopVoices (nodup_soundingVoices id t) (mem_soundingVoices.mpr ⟨hown, .inl ⟨f, hf⟩⟩) 0 t
    simp only [StoppedVoice, hf] at stopped
    exact stopped.1
  · have stopped := stoppedVoice_stopVoices (nodup_soundingVoices id t) (mem_soundingVoices.mpr ⟨hown, .inr hsounds⟩) 0 t
    rcases hsounds with h | h <;> simp only [StoppedVoice, h] at stopped <;> exact stopped.1 trivial

end Rows

end Voices

end Sys2Proof.Machine

namespace Sys2Proof.Proofs
open Sys2Proof.Machine

/-- Settles O49: each kind of target takes its goal, and its completion is one write or the end of its voice. -/
theorem fadeCompletes : Obligations.FadeCompletes := by
  intro s T hrun
  have completes : exec (.fadeComplete T) s = .next (completeFade T s) :=
    congrArg Host.Outcome.next (occur_running _ s hrun)
  rw [completes]
  refine ⟨fun hnot => ?_, fun e rest he hdue hrest => ?_⟩
  · refine congrArg Host.Outcome.next ?_
    unfold completeFade
    split
    · next e he => exact if_neg (by rw [hnot e he]; decide)
    · rfl
  · have target : e.target = T := (fadeFor_some he).2
    have taken : completeFade T s = reportTarget T (runCompletion e (removeFade T (setLevel T e.goal s))) := by
      rw [completeFade, he]
      exact if_pos hdue
    rw [taken]
    refine ⟨?_, ?_, ?_, ?_, ?_, ?_, ?_⟩
    · rintro i o rfl haction
      rw [runCompletion, haction, hrest]
      rfl
    · rintro o rfl haction
      rw [runCompletion, haction, hrest]
      rfl
    · rintro v rfl haction
      rw [runCompletion, haction, hrest]
      rfl
    · rintro v rfl haction hgoal howner
      refine congrArg Host.Outcome.next ?_
      have written : setLevel (.voice v) e.goal s = s.setVoice v { s.voice v with level := .off } := by rw [hgoal]; rfl
      have here : (removeFade (.voice v) (s.setVoice v { s.voice v with level := .off })).voice v =
          { s.voice v with level := .off } := State.voice_setVoice_self ..
      rw [runCompletion, haction, target, written]
      show stopVoiceCompletion v (removeFade (.voice v) (s.setVoice v { s.voice v with level := .off })) = _
      rw [stopVoiceCompletion, here, if_pos rfl, howner, ownerLost]
      exact freeVoice_removeFade_setVoice ..
    · rintro v rfl haction hgoal hstate
      refine congrArg Host.Outcome.next ?_
      have here : (removeFade (.voice v) (setLevel (.voice v) e.goal s)).voice v =
          { s.voice v with level := e.goal } := State.voice_setVoice_self ..
      rw [runCompletion, haction, target]
      show stopVoiceCompletion v (removeFade (.voice v) (setLevel (.voice v) e.goal s)) = _
      rw [stopVoiceCompletion, here, if_neg (show ¬ e.goal = .off from hgoal), startRamp_eq (by
        rw [here]
        intro p hp
        rw [show (s.voice v).state = .stoppingRamp p from hp] at hstate
        cases hstate), here, hrest]
      exact State.setVoice_setVoice (removeFade (.voice v) s) v _ _
    · rintro z zn rfl haction hgoal hzn hphase
      refine congrArg Host.Outcome.next ?_
      rw [runCompletion, haction, target, hgoal, hrest]
      have set : s.relay.zones.modify z.val (Zone.duckedTo .duckReleased 0) =
          s.relay.zones.set z.val { zn with duck := 0, phase := .clear, peak := 0 } := by
        rw [List.modify_eq_set_getElem?, show s.relay.zones[z.val]? = some zn from hzn]
        simp [Zone.duckedTo, hphase]
      have released := duckSet_eq z 0 0 (action := .duckReleased) (by decide) (removeFade (.duck z) s)
      rw [State.modifyZone, State.modifyZone] at released
      rw [← set]
      exact released
    · rintro rfl haction
      refine ⟨fun hresuming => ?_, fun hnot => ?_⟩
      · rw [runCompletion, haction, hrest]
        refine congrArg Host.Outcome.next ?_
        show stopMuteReport (removeFade .stopMute (setLevel .stopMute e.goal s)) = _
        rw [stopMuteReport, show (removeFade .stopMute (setLevel .stopMute e.goal s)).showStop.state = .resuming from hresuming]
        rfl
      · rw [runCompletion, haction, hrest]
        refine congrArg Host.Outcome.next ?_
        show stopMuteReport (removeFade .stopMute (setLevel .stopMute e.goal s)) = _
        unfold stopMuteReport
        split
        · exact absurd ‹_› hnot
        · rfl

/-- Settles O45: each row of a voice by its state, and the natural end with the siblings that it stops. -/
theorem voiceEvents : Obligations.VoiceEvents := by
  intro s v x hrun hx
  have occurs : ∀ f : State → State, Host.Outcome.next (occur f s) = (Host.Outcome.next (f s) :
      Host.Outcome State Fault Refusal) := fun f => congrArg Host.Outcome.next (occur_running f s hrun)
  have plays : ∀ f : State → State, f s = s → (Host.Outcome.next (occur f s) : Host.Outcome State Fault Refusal) = .next s :=
    fun f h => (occurs f).trans (congrArg Host.Outcome.next h)
  refine ⟨fun hstate hprimed => ⟨fun hstarved => (occurs (returnToPlaying v)).trans ?_, fun hstarting =>
    (occurs (enterPlaying v)).trans ?_⟩, fun d hstate hd hprimed hnone hroom => (occurs (enterPlaying v)).trans ?_,
    fun hprimed => ⟨plays _ ?_, plays _ ?_⟩, primed_iff x, exhausted_iff x, fun hplaying hfifo hmore n hn =>
    (occurs (enterStarved v)).trans ?_, fun hnot => plays _ ?_, fun p hstate => ⟨fun hp => plays _ ?_, fun hp horphan =>
    (occurs (endDeclick v)).trans ?_, fun i c hp htable hi hphase hfollow howner honly =>
    (occurs (endDeclick v)).trans ?_⟩, fun p d l c hstate => ⟨fun hp => plays _ ?_, fun hp hc horphan =>
    (occurs (endReclaim v)).trans ?_, fun hp hc hfetch hbuf hlt => (occurs (endReclaim v)).trans ?_⟩,
    fun hstate hex hfifo => ?_, fun hnot => plays _ ?_⟩
  · rw [returnToPlaying, ← hx, if_pos ⟨hstarved, hprimed⟩]
    rfl
  · rw [enterPlaying, ← hx]
    dsimp only
    rw [hstarting]
    dsimp only
    rw [if_pos hprimed]
    rfl
  · exact congrArg Host.Outcome.next (enterPlaying_fadeIn hx hstate hd hprimed hnone hroom)
  · rw [enterPlaying, ← hx]
    dsimp only
    split
    · exact if_neg (by rw [hprimed]; decide)
    · rfl
  · rw [returnToPlaying, ← hx]
    exact if_neg fun h => by rw [hprimed] at h; exact absurd h.2 (by decide)
  · rw [enterStarved, ← hx]
    dsimp only
    rw [if_pos ⟨hplaying, hfifo, hmore⟩, Voice.nextUnderruns, show min (x.underruns + 1) Config.counterTop = n from hn.symm,
      underrunEvent]
    unfold Event.ofOwner
    cases x.owner <;> rfl
  · rw [enterStarved, ← hx]
    exact if_neg fun h => hnot.elim (fun hs => hs h.1) fun hf => hf h.2.1
  · rw [endDeclick, ← hx, hstate]
    exact if_neg (Nat.not_le.mpr hp)
  · rw [endDeclick, ← hx, hstate]
    dsimp only
    rw [if_pos (show Config.rampFrames ≤ p from hp), horphan]
    rfl
  · rw [endDeclick, ← hx, hstate]
    dsimp only
    rw [if_pos (show Config.rampFrames ≤ p from hp), howner, ownerLost_last htable hi hphase hfollow honly]
  · rw [endReclaim, ← hx, hstate]
    exact if_neg (Nat.not_le.mpr hp)
  · rw [endReclaim, ← hx, hstate]
    dsimp only
    rw [if_pos (show Config.rampFrames ≤ p from hp), if_pos hc, horphan]
    rfl
  · exact congrArg Host.Outcome.next (endReclaim_restarts hx hstate hp hc hfetch hbuf hlt)
  · have ends : exec (.voiceNaturalEnd v) s = .next (stopSiblings x (ownerLost x.owner .complete (freeVoice v s))) :=
      (occurs (naturalEnd v)).trans
        (congrArg Host.Outcome.next (naturalEnd_ends hx ((atNaturalEnd_iff x).mpr ⟨hstate, hex, hfifo⟩)))
    rw [ends]
    refine ⟨fun horphan => ?_, fun i c htable hi hphase hfollow howner honly => ?_, fun id c howner => ?_⟩
    · rw [stopSiblings_orphan horphan, horphan]
      rfl
    · rw [howner, ownerLost_last htable hi hphase hfollow honly]
      exact congrArg Host.Outcome.next
        (stopSiblings_alone howner fun u => voice_freeVoice_owner (s := s) (v := v) u honly)
    · obtain ⟨y, hy⟩ : ∃ y, y = ownerLost x.owner .complete (freeVoice v s) := ⟨_, rfl⟩
      have lost : ∀ u, y.voice u = (freeVoice v s).voice u := fun u => by
        rw [hy, howner]
        exact checkEnd_voice id (freeVoice v s) u
      have freed : y.voice v = Voice.freeRecord := (lost v).trans (voice_freeVoice_self v s)
      have others : ∀ u, u ≠ v → y.voice u = s.voice u := fun u hu => (lost u).trans (voice_freeVoice_ne hu s)
      rw [← hy]
      by_cases hall : x.state = .playing ∧ x.stopAtEnd = true
      · have silent : v ∉ soundingVoices id y := fun h => by
          rw [mem_soundingVoices, freed] at h
          exact Bool.false_ne_true h.1
        rw [stopSiblings_stops howner hall.1 hall.2]
        refine ⟨_, rfl, (voiceStands_stopVoices silent 0 y).1.trans freed, fun _ _ u hu hown => ?_, fun hnot => ?_⟩
        · rw [← others u hu] at hown ⊢
          exact stopSiblings_voice hown
        · rcases hnot with h | h
          · rw [hall.1] at h
            cases h
          · rw [hall.2] at h
            cases h
      · rw [stopSiblings_stays hall]
        exact ⟨y, rfl, freed, fun hplaying hend => absurd ⟨hplaying, hend⟩ hall, fun _ => others⟩
  · have going : x.atNaturalEnd = false := by
      rw [← Bool.not_eq_true, atNaturalEnd_iff]
      rintro ⟨-, hex, hfifo⟩
      rcases hnot with h | h
      · rw [hex] at h
        cases h
      · exact h hfifo
    rw [naturalEnd, ← hx]
    exact if_neg (by rw [going]; decide)

end Sys2Proof.Proofs
end

section
/-! SUPPORT. What the failure of a load leaves (R16) from a state that agrees with another outside the load, and the
checks and the acceptance of LOAD SHOW (R14). -/

namespace Sys2Proof.Machine

/-- A state that differs from `s` at most in the load, the port, the stored records, the links and the waiting
commands: the failure of a load leaves as much of it as of `s`. -/
structure LoadOnly (s u : State) : Prop where
  tacc : u.smi.tacc = s.smi.tacc
  holder : u.store.holder = s.store.holder
  seq : u.seq = s.seq
  mix : u.mix = s.mix
  stream : u.stream = s.stream
  fades : u.fades = s.fades
  foldback : u.foldback = s.foldback
  relay : u.relay = s.relay
  showStop : u.showStop = s.showStop

/-- What the failure of a load leaves (R16). -/
theorem LoadOnly.failed {s u : State} (h : LoadOnly s u) {ld : Load} (hld : u.smi.load = some ld)
    (why : LoadFailure) : LoadFailed why ld.phase s (failLoad why u) := by
  obtain ⟨htacc, hholder, hseq, hmix, hstream, hfades, hfoldback, hrelay, hshowStop⟩ := h
  have e : failLoad why u = raise (loadFailedEvent why ld.phase) (clearShow u) := by
    unfold failLoad
    rw [hld]
  rw [e]
  refine ⟨rfl, rfl, htacc, ?_, ?_, ?_, hstream, hfades, hfoldback, hrelay, hshowStop, newest_raise _ _⟩
  · show (clearShow u).store = _
    simp only [clearShow, hholder]
  · show (clearShow u).seq = _
    simp only [clearShow, hseq]
  · show (clearShow u).mix = _
    simp only [clearShow, hmix]

theorem LoadOnly.reloadPresence (l : Role) (s : State) : LoadOnly s (reloadPresence l s) where
  tacc := by simp
  holder := by simp
  seq := by simp
  mix := by simp
  stream := by simp
  fades := by simp
  foldback := by simp
  relay := by simp
  showStop := by simp

theorem LoadFailed.of_port {why : LoadFailure} {phase : LoadPhase} {s t : State} (h : LoadFailed why phase s t)
    (port : Port) : LoadFailed why phase s { t with smi := { t.smi with port := port } } := h

/-- An abort fails the load, whatever reads (R18). -/
theorem LoadOnly.aborted {s u : State} (h : LoadOnly s u) {ld : Load} (hld : u.smi.load = some ld) :
    LoadFailed .aborted ld.phase s (abortLoad u) := by
  rw [abortLoad_eq]
  exact (h.failed hld .aborted).of_port _

theorem failLoad_port (why : LoadFailure) (s : State) : (failLoad why s).smi.port = s.smi.port := by
  rcases failLoad_cases why s with ⟨-, e⟩ | ⟨ld, -, e⟩
  · rw [e]
  · rw [e]
    rfl

/-- A read of the load that is in flight is marked discard (R18). -/
theorem abortLoad_port_load {s : State} {tr : Transfer} {d : Bool} (hport : s.smi.port = .fetch tr)
    (huser : tr.user = .load d) : (abortLoad s).smi.port = .fetch { tr with user := .load true } := by
  have port : (failLoad .aborted s).smi.port = .fetch tr := (failLoad_port _ _).trans hport
  unfold abortLoad
  dsimp only
  rw [port]
  dsimp only
  rw [huser]

/-- Any other transfer runs on (R18). -/
theorem abortLoad_port_other {s : State} (h : ∀ tr d, s.smi.port = .fetch tr → tr.user ≠ .load d) :
    (abortLoad s).smi.port = s.smi.port := by
  refine Eq.trans ?_ (failLoad_port .aborted s)
  unfold abortLoad
  dsimp only
  split
  · next tr htr =>
    split
    · next d hd => exact absurd hd (h tr d ((failLoad_port _ _).symm.trans htr))
    · rfl
  · rfl

/-! ### The checks of LOAD SHOW (R14) -/

section Refusals

variable {l : Role} {s : State}

theorem loadRefusal_notHolder (h : s.store.holder ≠ some l) : loadRefusal l s = some .notHolder := if_pos h

theorem loadRefusal_loading (h : s.store.holder = some l) (hld : s.smi.load.isSome = true) :
    loadRefusal l s = some .loading :=
  (if_neg (not_not.mpr h)).trans (if_pos hld)

theorem loadRefusal_idle (h : s.store.holder = some l) (hld : s.smi.load = none) : loadRefusal l s =
    if s.showStop.state ≠ .normal then some .showStopped
    else if mhack s then some .memoryHeld
    else if (voiceNos.any fun v => (s.voice v).busy) || s.seq.instances != [] || s.relay.playing != [] ||
        s.relay.waiting != [] then some .busy
    else none :=
  (if_neg (not_not.mpr h)).trans (if_neg (by rw [loading, hld]; decide))

theorem mhack_iff : mhack s = true ↔ s.smi.port = .held := by
  rw [mhack, beq_iff_eq]

/-- The part is busy while a voice, an instance or a call stands (R14). -/
theorem partBusy_iff : ((voiceNos.any fun v => (s.voice v).busy) || s.seq.instances != [] || s.relay.playing != [] ||
    s.relay.waiting != []) = true ↔
    (∃ v, (s.voice v).state ≠ .free) ∨ s.seq.instances ≠ [] ∨ s.relay.playing ≠ [] ∨ s.relay.waiting ≠ [] := by
  simp only [Bool.or_eq_true, List.any_eq_true, mem_voiceNos, true_and, bne_iff_ne, or_assoc, Voice.busy]

end Refusals

/-- What the acceptance of a load leaves of talk (R136). -/
theorem endTalk_load (s : State) : endTalk .load s =
    { s with foldback := match s.foldback.talk with
      | some _ => { s.foldback with talk := none, lastEnd := some { cause := .load, time := s.timing.showClock } }
      | none => s.foldback } := by
  unfold endTalk
  cases s.foldback.talk <;> rfl

/-- The fades that an accepted load leaves (R14). -/
theorem filter_goesAtLoad (fs : List FadeEntry) : fs.filter (fun e => !goesAtLoad e.target) =
    fs.filter fun e => match e.target with
      | .voice _ | .stopMute => true
      | .crosspoint _ _ | .trim _ | .duck _ => false := by
  refine List.filter_congr fun e _ => ?_
  cases e.target <;> rfl

/-- The acceptance of LOAD SHOW after the presence reload (R14). -/
theorem acceptLoad_reloadPresence (l : Role) (s : State) : acceptLoad l (reloadPresence l s) =
    { reloadPresence l s with
      smi := { s.smi with load := some (newLoad l), regions := [] },
      store := { s.store with state := .loading, cues := [], scenes := [] },
      seq := { s.seq with playhead := none, standby := false },
      fades := s.fades.filter fun e => match e.target with
        | .voice _ | .stopMute => true
        | .crosspoint _ _ | .trim _ | .duck _ => false,
      mix := { s.mix with classes := Vector.replicate 32 .unused },
      foldback := match s.foldback.talk with
        | some _ => { s.foldback with talk := none, lastEnd := some { cause := .load, time := s.timing.showClock } }
        | none => s.foldback,
      relay := { s.relay with zones := [] } } := by
  rw [acceptLoad, endTalk_load, filter_goesAtLoad]
  simp

end Sys2Proof.Machine

namespace Sys2Proof.Proofs
open Sys2Proof.Machine

/-- Settles O28: the checks in order, and the abort as a failure that marks the read in flight. -/
theorem loadRequests : Obligations.LoadRequests := by
  intro l tag s hs
  have habort : Serves l 0x19 s := hs.of_permitted (by cases l <;> decide)
  have refused : ∀ r, loadRefusal l (reloadPresence l s) = some r →
      exec (.loadShow l tag) s = answered l 0x18 tag r [] (reloadPresence l s) := fun r hr =>
    next_serve_of_serves hs tag (by rw [hr]; rfl)
  refine ⟨fun hholder => ⟨refused _ (loadRefusal_notHolder (by simpa using hholder)),
    next_serve_of_serves habort tag (if_pos (by simpa using hholder))⟩, fun hholder => ?_⟩
  have holder : (reloadPresence l s).store.holder = some l := by simpa using hholder
  refine ⟨fun ld hld => ?_, fun hnone => ?_⟩
  · have load : (reloadPresence l s).smi.load = some ld := by simpa using hld
    refine ⟨refused _ (loadRefusal_loading holder (by rw [load]; rfl)), abortLoad (reloadPresence l s),
      next_serve_of_serves habort tag ((if_neg (not_not.mpr holder)).trans (if_pos (by rw [loading, load]; rfl))),
      (LoadOnly.reloadPresence l s).aborted load, fun tr d htr huser => ?_, fun hother => ?_⟩
    · exact abortLoad_port_load (by simpa using htr) huser
    · rw [abortLoad_port_other (by simpa using hother)]
      simp
  · have load : (reloadPresence l s).smi.load = none := by simpa using hnone
    have checks := loadRefusal_idle holder load
    refine ⟨next_serve_of_serves habort tag ((if_neg (not_not.mpr holder)).trans (if_neg (by rw [loading, load]; decide))),
      fun hstop => refused _ (checks.trans (if_pos (by simpa using hstop))), fun hnormal hheld => ?_,
      fun hnormal hnotHeld => ?_⟩
    · exact refused _ (checks.trans ((if_neg (by simpa using hnormal)).trans (if_pos (mhack_iff.mpr (by simpa using hheld)))))
    · have past : loadRefusal l (reloadPresence l s) = _ := checks.trans ((if_neg (by simpa using hnormal)).trans
        (if_neg (by rw [mhack_iff]; simpa using hnotHeld)))
      refine ⟨fun hbusy => refused _ (past.trans (if_pos (partBusy_iff.mpr (by simpa using hbusy)))),
        fun hvoices hinsts hplaying hwaiting => next_serve_of_serves hs tag ?_⟩
      have free := past.trans (if_neg (by
        rw [partBusy_iff]
        simp [hvoices, hinsts, hplaying, hwaiting]))
      rw [free]
      exact congrArg (fun u => ((u, ⟨.accepted, []⟩) : State × Reply)) (acceptLoad_reloadPresence l s)

end Sys2Proof.Proofs
end

section
/-! SUPPORT. Reading and writing the level of a fade target, and what the fade steps of one millisecond write (R94). -/

namespace Sys2Proof.Machine

/-! ### The level of a target (R90) -/

section Levels

variable {s : State} {T U : FadeTarget}

/-- A write of one target's level leaves that of every other. -/
theorem getLevel_setLevel_ne (h : T ≠ U) (l : Level) (s : State) : getLevel T (setLevel U l s) = getLevel T s := by
  cases U with
  | crosspoint j p =>
    cases T with
    | crosspoint i o =>
      by_cases ho : o = p
      · subst ho
        have hi : j.val ≠ i.val := fun hij => h (by rw [Fin.ext hij])
        simp [getLevel, setLevel, Vector.getElem_set_ne _ _ hi]
      · simp [getLevel, setLevel, Vector.getElem_set_ne _ _ (Fin.val_ne_of_ne (Ne.symm ho))]
    | trim o => rfl
    | voice v => rfl
    | duck z => rfl
    | stopMute => rfl
  | trim p =>
    cases T with
    | trim o =>
      have ho : p.val ≠ o.val := fun hop => h (by rw [Fin.ext hop])
      simp [getLevel, setLevel, Vector.getElem_set_ne _ _ ho]
    | crosspoint i o => rfl
    | voice v => rfl
    | duck z => rfl
    | stopMute => rfl
  | voice w =>
    cases T with
    | voice v =>
      have hv : v ≠ w := fun hvw => h (by rw [hvw])
      simp [getLevel, setLevel, State.voice_setVoice_ne _ _ _ _ hv]
    | crosspoint i o => rfl
    | trim o => rfl
    | duck z => rfl
    | stopMute => rfl
  | duck y =>
    cases T with
    | duck z =>
      have hz : z ≠ y := fun hzy => h (by rw [hzy])
      simp [getLevel, setLevel, zone?_modifyZone_ne hz]
    | crosspoint i o => rfl
    | trim o => rfl
    | voice v => rfl
    | stopMute => rfl
  | stopMute =>
    cases T with
    | stopMute => exact absurd rfl h
    | crosspoint i o => rfl
    | trim o => rfl
    | voice v => rfl
    | duck z => rfl

/-- A number written to a target whose level exists is read back (R90). -/
theorem getLevel_setLevel_self (h : Held T s) (x : Int) : getLevel T (setLevel T (.db x) s) = .db x := by
  cases T with
  | crosspoint i o => simp [getLevel, setLevel]
  | trim o => simp [getLevel, setLevel]
  | voice v => simp [getLevel, setLevel]
  | duck z =>
    have hz : z.val < s.relay.zones.length := h
    have written : (s.modifyZone z fun zn => { zn with duck := x }).zone? z =
        some { s.relay.zones[z.val] with duck := x } := by
      rw [zone?_modifyZone_self, State.zone?, List.getElem?_eq_getElem hz, Option.map_some]
    show (match (s.modifyZone z fun zn => { zn with duck := x }).zone? z with
      | some zn => Level.db zn.duck
      | none => .db 0) = _
    rw [written]
  | stopMute => rfl

theorem held_setLevel (l : Level) (s : State) : Held T (setLevel U l s) ↔ Held T s := by
  cases T <;> cases U <;> simp [Held, setLevel, State.setVoice, State.modifyZone]

end Levels

/-! ### The steps of a millisecond (R94) -/

/-- What a write of a level may change. -/
structure LevelsMove (s t : State) : Prop where
  mix : t.mix = { s.mix with xpts := t.mix.xpts, trims := t.mix.trims }
  relay : t.relay = { s.relay with zones := t.relay.zones }
  showStop : t.showStop = { s.showStop with mute := t.showStop.mute }
  rest : t = { s with mix := t.mix, stream := t.stream, relay := t.relay, showStop := t.showStop }

theorem LevelsMove.trans {s t u : State} (h : LevelsMove s t) (g : LevelsMove t u) : LevelsMove s u where
  mix := by rw [g.mix, h.mix]
  relay := by rw [g.relay, h.relay]
  showStop := by rw [g.showStop, h.showStop]
  rest := by rw [g.rest, h.rest]

theorem levelsMove_setLevel (T : FadeTarget) (l : Level) (s : State) : LevelsMove s (setLevel T l s) := by
  cases T <;> exact ⟨rfl, rfl, rfl, rfl⟩

theorem levelsMove_writeLevels (es : List FadeEntry) (s : State) : LevelsMove s (writeLevels es s) := by
  induction es generalizing s with
  | nil => exact ⟨rfl, rfl, rfl, rfl⟩
  | cons e es ih =>
    unfold writeLevels
    split
    · next l _ => exact (levelsMove_setLevel _ l s).trans (ih _)
    · exact ih s

/-- A target that no entry writes keeps its level. -/
theorem getLevel_writeLevels_ne {es : List FadeEntry} {T : FadeTarget} {s : State}
    (h : ∀ e ∈ es, e.target = T → e.n ≤ e.k + 1) : getLevel T (writeLevels es s) = getLevel T s := by
  induction es generalizing s with
  | nil => rfl
  | cons e es ih =>
    obtain ⟨he, hes⟩ := List.forall_mem_cons.mp h
    unfold writeLevels
    split
    · next l hl =>
      have hne : T ≠ e.target := by
        rintro rfl
        rw [FadeEntry.written, if_neg (Nat.not_lt.mpr (he rfl))] at hl
        cases hl
      rw [ih hes, getLevel_setLevel_ne hne]
    · exact ih hes

/-- Of entries with distinct targets each writes the level of its step (R94). -/
theorem getLevel_writeLevels {es : List FadeEntry} {e : FadeEntry} {s : State} (hnodup : (es.map (·.target)).Nodup)
    (hheld : ∀ f ∈ es, Held f.target s) (he : e ∈ es) (hstep : e.k + 1 < e.n) :
    getLevel e.target (writeLevels es s) = fadeLevel e.start e.goal (e.k + 1) e.n := by
  induction es generalizing s with
  | nil => cases he
  | cons f es ih =>
    obtain ⟨hf, hes⟩ := List.nodup_cons.mp hnodup
    obtain ⟨hfheld, hesheld⟩ := List.forall_mem_cons.mp hheld
    rcases List.mem_cons.mp he with rfl | he
    · have only : ∀ g ∈ es, g.target = e.target → g.n ≤ g.k + 1 := fun g hg hgt =>
        absurd (List.mem_map.mpr ⟨g, hg, hgt⟩) hf
      rw [writeLevels, FadeEntry.written, if_pos hstep]
      dsimp only
      rw [getLevel_writeLevels_ne only, fadeLevel, if_pos hstep]
      exact getLevel_setLevel_self hfheld _
    · unfold writeLevels
      split
      · next l _ => exact ih hes (fun g hg => (held_setLevel l s).mpr (hesheld g hg)) he
      · exact ih hes hesheld he

/-! ### The timers of a millisecond -/

theorem CueInstance.tick_eq (i : CueInstance) : i.tick =
    { i with preWait := if i.phase = .prewait then i.preWait - 1 else i.preWait,
             follow := i.follow.map fun f => { f with delay := f.delay - 1 } } := by
  unfold CueInstance.tick
  cases hphase : i.phase <;> simp

theorem GateTimer.tick_eq (g : GateTimer) : g.tick = { g with left := if g.reloaded then g.left else g.left - 1 } := by
  unfold GateTimer.tick
  split <;> rfl

theorem Link.tick_eq (k : Link) : k.tick = { k with timer := if k.attached then k.timer - 1 else k.timer } := by
  unfold Link.tick
  split <;> rfl

theorem ClockRef.tick_eq (c : ClockRef) : c.tick =
    { c with qualified := if c.present ∧ (c.state = .acquiring ∨ c.state = .holdover) then min (c.qualified + 1) 1000
                          else c.qualified } := by
  obtain ⟨state, present, _, _, _, _⟩ := c
  cases present <;> cases state <;> rfl

theorem link_stepTimers (sample : LineState) (s : State) (r : Role) :
    (stepTimers sample s).link r = (s.link r).tick := by
  cases r <;> rfl

end Sys2Proof.Machine

namespace Sys2Proof.Proofs
open Sys2Proof.Machine

/-- Settles O48: the timers step by their equations, and the fades write into a state that has the levels of before. -/
theorem millisecondSteps : Obligations.MillisecondSteps := by
  intro sample s hrun
  have taken : exec (.millisecondTick sample) s = .next (millisecondTick sample s) :=
    congrArg Host.Outcome.next (occur_running _ s hrun)
  rw [taken]
  refine ⟨fun hfew => congrArg Host.Outcome.next (if_neg (Nat.not_le.mpr hfew)), fun hmany ⟨_, hnodup, _⟩ hheld => ?_⟩
  refine ⟨writeLevels s.fades { stepTimers sample s with fades := s.fades.map FadeEntry.tick },
    congrArg Host.Outcome.next (if_pos hmany), ?_⟩
  have moves := levelsMove_writeLevels s.fades { stepTimers sample s with fades := s.fades.map FadeEntry.tick }
  refine ⟨by rw [moves.rest]; rfl, ?_, fun r => ?_, ?_, ?_, ?_, ?_, by rw [moves.rest]; rfl, fun e he hstep => ?_,
    fun T hT => ?_, by rw [moves.rest]; rfl, by rw [moves.rest]; rfl⟩
  · rw [moves.rest]
    show ({ s.seq with instances := s.seq.instances.map CueInstance.tick } : Sequencer) = _
    rw [funext CueInstance.tick_eq]
  · rw [moves.rest]
    exact (link_stepTimers sample s r).trans (Link.tick_eq _)
  · rw [moves.relay]
    show s.relay.playing.map (fun c => { c with gate := c.gate.map GateTimer.tick }) = _
    rw [funext GateTimer.tick_eq]
  · rw [moves.rest]
    show ({ s.foldback with talk := s.foldback.talk.map fun t => { t with gate := t.gate.tick } } : Foldback) = _
    rw [funext GateTimer.tick_eq]
  · rw [moves.mix]
    exact ClockRef.tick_eq s.mix.clock
  · exact moves.showStop
  · exact getLevel_writeLevels hnodup (s := { stepTimers sample s with fades := s.fades.map FadeEntry.tick }) hheld he hstep
  · exact getLevel_writeLevels_ne hT

end Sys2Proof.Proofs
end

section
/-! SUPPORT. What the decoder takes of a fetch buffer (R76), with nothing lost or invented. -/

namespace Sys2Proof.Machine

/-- What decoding words into at most `room` entries gives: the words taken and those left are the buffer, the entries
with what remains stand for the same frames and markers, and it stops at a full FIFO or with nothing left. -/
structure Decodes (room pos : Nat) (ws taken : List Word) (d : Decoded) : Prop where
  words : ws = taken ++ d.buf
  entries : d.entries ++ (List.replicate d.silence (.frame 0) ++ streamEntries d.buf) = streamEntries ws
  fits : d.entries.length ≤ room
  stops : d.entries.length = room ∨ d.silence = 0 ∧ d.buf = []
  position : d.pos = pos + taken.length
  plain : (∀ w ∈ taken, streamWord w ≠ .reserved) → d.fault = none
  fault : ∀ before w after, taken = before ++ w :: after → (∀ u ∈ before, streamWord u ≠ .reserved) →
    streamWord w = .reserved → d.fault = some (pos + before.length)

/-- The entries of one stream word (R13). -/
def wordEntries (w : Word) : List FifoEntry :=
  match streamWord w with
  | .audio x => [.frame x]
  | .silence n => zeroFrames n
  | .marker id => [.marker id]
  | .reserved => [.frame 0]

theorem streamEntries_cons (w : Word) (ws : List Word) : streamEntries (w :: ws) = wordEntries w ++ streamEntries ws := by
  unfold wordEntries
  cases h : streamWord w <;> simp [streamEntries, h]

/-- Nothing is taken. -/
theorem Decodes.nothing {room pos : Nat} {ws : List Word} (h : room = 0 ∨ ws = []) :
    Decodes room pos ws [] { entries := [], buf := ws, pos := pos, silence := 0, fault := none } where
  words := rfl
  entries := rfl
  fits := Nat.zero_le _
  stops := h.elim (fun h => .inl h.symm) fun h => .inr ⟨rfl, h⟩
  position := rfl
  plain _ := rfl
  fault before w after h := by simp at h

/-- A word that fits whole, taken before what follows it. -/
theorem Decodes.cons {room pos n : Nat} {w : Word} {ws taken : List Word} {d : Decoded} {es : List FifoEntry}
    (h : Decodes (room - n) (pos + 1) ws taken d) (hes : wordEntries w = es) (hlen : es.length = n) (hn : n ≤ room)
    (hplain : streamWord w ≠ .reserved) : Decodes room pos (w :: ws) (w :: taken) (d.before es) where
  words := congrArg (w :: ·) h.words
  entries := by
    rw [streamEntries_cons, ← h.entries, hes]
    exact List.append_assoc ..
  fits := by
    have := h.fits
    simp only [Decoded.before, List.length_append]
    omega
  stops := by
    refine h.stops.imp (fun hfull => ?_) id
    simp only [Decoded.before, List.length_append]
    omega
  position := by
    rw [List.length_cons]
    exact h.position.trans (by omega)
  plain hall := h.plain fun u hu => hall u (List.mem_cons_of_mem _ hu)
  fault before u after hsplit hbefore hres := by
    cases before with
    | nil =>
      obtain ⟨rfl, -⟩ := List.cons.inj hsplit
      exact absurd hres hplain
    | cons b before =>
      obtain ⟨rfl, htaken⟩ := List.cons.inj hsplit
      refine (h.fault before u after htaken (fun x hx => hbefore x (List.mem_cons_of_mem _ hx)) hres).trans ?_
      rw [List.length_cons, Nat.add_assoc, Nat.add_comm 1]

/-- A RESERVED word is a zero frame, and its position is the one reported (R78). -/
theorem Decodes.reserved {room pos : Nat} {w : Word} {ws taken : List Word} {d : Decoded}
    (h : Decodes (room - 1) (pos + 1) ws taken d) (hw : streamWord w = .reserved) (hroom : room ≠ 0) :
    Decodes room pos (w :: ws) (w :: taken) { d.before [.frame 0] with fault := some pos } where
  words := congrArg (w :: ·) h.words
  entries := by
    rw [streamEntries_cons, ← h.entries, wordEntries, hw]
    rfl
  fits := by
    have := h.fits
    simp only [Decoded.before, List.length_append, List.length_cons, List.length_nil]
    omega
  stops := by
    refine h.stops.imp (fun hfull => ?_) id
    simp only [Decoded.before, List.length_append, List.length_cons, List.length_nil]
    omega
  position := by
    rw [List.length_cons]
    exact h.position.trans (by omega)
  plain hall := absurd hw (hall w List.mem_cons_self)
  fault before u after hsplit hbefore _ := by
    cases before with
    | nil => rfl
    | cons b before =>
      obtain ⟨rfl, -⟩ := List.cons.inj hsplit
      exact absurd hw (hbefore _ List.mem_cons_self)

/-- A silence run longer than the room fills it, and the remainder is kept (R76). -/
theorem Decodes.longSilence {room pos n : Nat} {w : Word} (ws : List Word) (hw : streamWord w = .silence n)
    (hn : room < n) : Decodes room pos (w :: ws) [w]
      { entries := zeroFrames room, buf := ws, pos := pos + 1, silence := n - room, fault := none } where
  words := rfl
  entries := by
    rw [streamEntries_cons, wordEntries, hw, ← List.append_assoc, zeroFrames, List.replicate_append_replicate,
      Nat.add_sub_cancel' hn.le]
    rfl
  fits := by simp [zeroFrames]
  stops := .inl (by simp [zeroFrames])
  position := rfl
  plain _ := rfl
  fault before u after hsplit hbefore hres := by
    cases before with
    | nil =>
      obtain ⟨rfl, -⟩ := List.cons.inj hsplit
      rw [hw] at hres
      cases hres
    | cons b before => simp at hsplit

theorem decodeWords_decodes (room pos : Nat) (ws : List Word) :
    ∃ taken, Decodes room pos ws taken (decodeWords room pos ws) := by
  induction ws generalizing room pos with
  | nil => exact ⟨[], .nothing (.inr rfl)⟩
  | cons w ws ih =>
    unfold decodeWords
    split
    · next hroom => exact ⟨[], .nothing (.inl hroom)⟩
    · next hroom =>
      split
      · next x hw =>
        obtain ⟨taken, h⟩ := ih (room - 1) (pos + 1)
        exact ⟨w :: taken, h.cons (by rw [wordEntries, hw]) rfl (by omega) (by rw [hw]; exact nofun)⟩
      · next id hw =>
        obtain ⟨taken, h⟩ := ih (room - 1) (pos + 1)
        exact ⟨w :: taken, h.cons (by rw [wordEntries, hw]) rfl (by omega) (by rw [hw]; exact nofun)⟩
      · next hw =>
        obtain ⟨taken, h⟩ := ih (room - 1) (pos + 1)
        exact ⟨w :: taken, h.reserved hw hroom⟩
      · next n hw =>
        split
        · next hn =>
          obtain ⟨taken, h⟩ := ih (room - n) (pos + 1)
          exact ⟨w :: taken, h.cons (by rw [wordEntries, hw]) (by simp [zeroFrames]) hn (by rw [hw]; exact nofun)⟩
        · next hn => exact ⟨[w], .longSilence ws hw (by omega)⟩

/-- The decoder on a voice record: what it takes of the silence run and of the buffer (R76). -/
structure VoiceDecodes (x : Voice) (taken : List Word) (d : Decoded) : Prop where
  words : x.buf = taken ++ d.buf
  entries : d.entries ++ (List.replicate d.silence (.frame 0) ++ streamEntries d.buf) =
    List.replicate x.silence (.frame 0) ++ streamEntries x.buf
  fits : x.fifo.length + d.entries.length ≤ 1024
  stops : x.fifo.length + d.entries.length = 1024 ∨ d.silence = 0 ∧ d.buf = []
  position : d.pos = x.bufPos + taken.length
  plain : (∀ w ∈ taken, streamWord w ≠ .reserved) → d.fault = none
  fault : ∀ before w after, taken = before ++ w :: after → (∀ u ∈ before, streamWord u ≠ .reserved) →
    streamWord w = .reserved → d.fault = some (x.bufPos + before.length)

theorem decoded_decodes {x : Voice} (hfits : x.fifo.length ≤ 1024) : ∃ taken, VoiceDecodes x taken x.decoded := by
  unfold Voice.decoded
  dsimp only [Config.fifoEntries]
  obtain ⟨room, hroom⟩ : ∃ room, room = 1024 - x.fifo.length := ⟨_, rfl⟩
  rw [← hroom]
  split
  · next hlong =>
    have m : min x.silence room = room := by omega
    rw [m]
    exact ⟨[], {
      words := rfl
      entries := by
        rw [← List.append_assoc, zeroFrames, List.replicate_append_replicate, Nat.add_sub_cancel' (by omega)]
      fits := by
        simp only [zeroFrames, List.length_replicate]
        omega
      stops := .inl (by
        simp only [zeroFrames, List.length_replicate]
        omega)
      position := rfl
      plain := fun _ => rfl
      fault := fun before w after h => by simp at h }⟩
  · next hshort =>
    have m : min x.silence room = x.silence := by omega
    rw [m]
    obtain ⟨taken, h⟩ := decodeWords_decodes (room - x.silence) x.bufPos x.buf
    exact ⟨taken, {
      words := h.words
      entries := by
        rw [← h.entries]
        exact List.append_assoc ..
      fits := by
        have := h.fits
        simp only [Decoded.before, zeroFrames, List.length_append, List.length_replicate]
        omega
      stops := by
        refine h.stops.imp (fun hfull => ?_) id
        simp only [Decoded.before, zeroFrames, List.length_append, List.length_replicate]
        omega
      position := h.position
      plain := h.plain
      fault := h.fault }⟩

/-! ### The run of a voice's decoder (R74, R78) -/

/-- A voice record after its decoder has run and its next request is posted. -/
def Voice.ran (x : Voice) : Voice :=
  { x.afterDecoder with fetch := if x.afterDecoder.wantsFetch then .waiting else x.fetch }

theorem postFetch_setVoice (v : VoiceNo) (x : Voice) (s : State) : postFetch v (s.setVoice v x) =
    s.setVoice v { x with fetch := if x.wantsFetch then .waiting else x.fetch } := by
  unfold postFetch
  rw [State.voice_setVoice_self]
  split
  · exact State.setVoice_setVoice ..
  · rfl

theorem runDecoder_eq {v : VoiceNo} {s : State} (h : (s.voice v).decodes = true) : runDecoder v s =
    match (s.voice v).decoded.fault with
    | some pos =>
      if (s.voice v).faultReported then s.setVoice v (s.voice v).ran
      else raise (formatFaultEvent v (s.voice v) pos) (s.setVoice v (s.voice v).ran)
    | none => s.setVoice v (s.voice v).ran := by
  have posted : postFetch v (s.setVoice v (s.voice v).afterDecoder) = s.setVoice v (s.voice v).ran :=
    postFetch_setVoice ..
  rw [runDecoder, if_pos h]
  dsimp only
  cases (s.voice v).decoded.fault with
  | none => exact posted
  | some pos =>
    dsimp only
    split
    · exact posted
    · have raised : ∀ t : State, postFetch v (raise (formatFaultEvent v (s.voice v) pos) t) =
          raise (formatFaultEvent v (s.voice v) pos) (postFetch v t) := by
        intro t
        unfold postFetch
        rw [voice_raise]
        split <;> rfl
      rw [raised, posted]

theorem wantsFetch_iff (x : Voice) : x.wantsFetch = true ↔
    x.fetches = true ∧ x.fetch = .none ∧ x.buf = [] ∧ x.next < x.out := by
  simp only [Voice.wantsFetch, Bool.and_eq_true, beq_iff_eq, List.isEmpty_iff, decide_eq_true_eq, and_assoc]

/-- The states in which a decoding voice posts requests: all but the declick ramp (R74). -/
theorem fetches_iff {x : Voice} (h : x.decodes = true) : x.fetches = true ↔ ∀ p, x.state ≠ .stoppingRamp p := by
  revert h
  unfold Voice.decodes Voice.fetches
  cases x.state <;> simp

theorem decodes_iff (x : Voice) : x.decodes = true ↔ x.state ≠ .free ∧ ∀ p d l c, x.state ≠ .reclaiming p d l c := by
  unfold Voice.decodes
  cases x.state with
  | reclaiming p d l c => exact ⟨nofun, fun ⟨_, h⟩ => absurd rfl (h p d l c)⟩
  | free => simp
  | starting f => simp
  | playing => simp
  | starved => simp
  | stoppingFade => simp
  | stoppingRamp p => simp

end Sys2Proof.Machine

namespace Sys2Proof.Proofs
open Sys2Proof.Machine

/-- Settles O46: the words taken by the decoder, and the record that it leaves with its fault and its request. -/
theorem decoderConserves : Obligations.DecoderConserves := by
  intro s v x hrun hx hfits
  have taken : exec (.decoderRun v) s = .next (runDecoder v s) := congrArg Host.Outcome.next (occur_running _ s hrun)
  rw [taken]
  refine ⟨fun hidle => congrArg Host.Outcome.next (if_neg ?_), fun hfree hreclaiming => ?_⟩
  · rw [← hx, decodes_iff]
    rintro ⟨hfree, hreclaiming⟩
    exact hidle.elim hfree fun ⟨p, d, l, c, h⟩ => hreclaiming p d l c h
  · have decodes : x.decodes = true := (decodes_iff x).mpr ⟨hfree, hreclaiming⟩
    have run := runDecoder_eq (v := v) (s := s) (by rw [← hx]; exact decodes)
    rw [← hx] at run
    obtain ⟨taken, h⟩ := decoded_decodes hfits
    have fetches : x.afterDecoder.fetches = true ↔ ∀ p, x.state ≠ .stoppingRamp p := fetches_iff decodes
    refine ⟨x.ran, taken, h.words, ?_, ?_, ?_, h.position, rfl, fun hnone hbuf hmore hramp => ?_, fun hnot => ?_,
      fun hplain => ?_, fun before w after hsplit hbefore hres => ?_⟩
    · show (x.fifo ++ x.decoded.entries) ++ _ ++ _ = _
      rw [List.append_assoc, List.append_assoc, List.append_assoc]
      exact congrArg (x.fifo ++ ·) h.entries
    · exact (List.length_append ..).trans_le h.fits
    · exact h.stops.imp ((List.length_append ..).trans ·) id
    · exact if_pos ((wantsFetch_iff _).mpr ⟨fetches.mpr hramp, hnone, hbuf, hmore⟩)
    · refine if_neg ?_
      rw [wantsFetch_iff, fetches]
      rintro ⟨hramp, hnone, hbuf, hmore⟩
      rcases hnot with h | h | h | ⟨p, h⟩
      · exact h hnone
      · exact h hbuf
      · exact absurd hmore (Nat.not_lt.mpr h)
      · exact hramp p h
    · have none := h.plain hplain
      refine ⟨?_, ?_⟩
      · show (x.faultReported || x.decoded.fault.isSome) = _
        rw [none]
        exact Bool.or_false _
      · rw [run, none]
        rfl
    · have fault := h.fault before w after hsplit hbefore hres
      refine ⟨?_, ?_⟩
      · show (x.faultReported || x.decoded.fault.isSome) = _
        rw [fault]
        exact Bool.or_true _
      · rw [run, fault]
        rfl

end Sys2Proof.Proofs
end

section
/-! SUPPORT. Numbers as bytes and back (R178), and the reading of a transaction as it is written (R169, R170). -/

namespace Sys2Proof.Machine

/-! ### Numbers as bytes -/

theorem toNat_append_eq {m n : Nat} (x : BitVec m) (y : BitVec n) : (x ++ y).toNat = x.toNat * 2 ^ n + y.toNat := by
  rw [BitVec.toNat_append, ← Nat.shiftLeft_add_eq_or_of_lt y.isLt, Nat.shiftLeft_eq]

theorem extractLsb'_append_hi {m n : Nat} (x : BitVec m) (y : BitVec n) : (x ++ y).extractLsb' n m = x := by
  apply BitVec.eq_of_toNat_eq
  rw [BitVec.extractLsb'_toNat, toNat_append_eq, Nat.shiftRight_eq_div_pow, Nat.mul_comm,
    Nat.mul_add_div (Nat.two_pow_pos n), Nat.div_eq_of_lt y.isLt, Nat.add_zero, Nat.mod_eq_of_lt x.isLt]

theorem extractLsb'_append_lo {m n : Nat} (x : BitVec m) (y : BitVec n) : (x ++ y).extractLsb' 0 n = y := by
  apply BitVec.eq_of_toNat_eq
  rw [BitVec.extractLsb'_toNat, toNat_append_eq, Nat.shiftRight_zero, Nat.mul_comm, Nat.mul_add_mod,
    Nat.mod_eq_of_lt y.isLt]

theorem half_of_bytes (x : Half) : x.extractLsb' 8 8 ++ x.extractLsb' 0 8 = x := by
  apply BitVec.eq_of_toNat_eq
  refine (toNat_append_eq (m := 8) (n := 8) _ _).trans ?_
  simp only [BitVec.extractLsb'_toNat, Nat.shiftRight_eq_div_pow]
  have := x.isLt
  omega

theorem cueNum_of_bytes (x : CueNum) : x.extractLsb' 16 8 ++ x.extractLsb' 8 8 ++ x.extractLsb' 0 8 = x := by
  apply BitVec.eq_of_toNat_eq
  refine (toNat_append_eq (m := 16) (n := 8) _ _).trans ?_
  rw [toNat_append_eq]
  simp only [BitVec.extractLsb'_toNat, Nat.shiftRight_eq_div_pow]
  have := x.isLt
  omega

theorem word_of_bytes (x : Word) :
    x.extractLsb' 24 8 ++ x.extractLsb' 16 8 ++ x.extractLsb' 8 8 ++ x.extractLsb' 0 8 = x := by
  apply BitVec.eq_of_toNat_eq
  refine (toNat_append_eq (m := 24) (n := 8) _ _).trans ?_
  rw [toNat_append_eq, toNat_append_eq]
  simp only [BitVec.extractLsb'_toNat, Nat.shiftRight_eq_div_pow]
  have := x.isLt
  omega

@[simp] theorem take8_cons (b : Byte) (r : List Byte) : take8 (b :: r) = some (b, r) := rfl

@[simp] theorem take16_bytes16 (x : Half) (r : List Byte) : take16 (bytes16 x ++ r) = some (x, r) := by
  show some (x.extractLsb' 8 8 ++ x.extractLsb' 0 8, r) = _
  rw [half_of_bytes]

@[simp] theorem take24_bytes24 (x : CueNum) (r : List Byte) : take24 (bytes24 x ++ r) = some (x, r) := by
  show some (x.extractLsb' 16 8 ++ x.extractLsb' 8 8 ++ x.extractLsb' 0 8, r) = _
  rw [cueNum_of_bytes]

@[simp] theorem take32_bytes32 (x : Word) (r : List Byte) : take32 (bytes32 x ++ r) = some (x, r) := by
  show some (x.extractLsb' 24 8 ++ x.extractLsb' 16 8 ++ x.extractLsb' 8 8 ++ x.extractLsb' 0 8, r) = _
  rw [word_of_bytes]

/-! A field at the end of a payload. -/

@[simp] theorem take16_bytes16_last (x : Half) : take16 (bytes16 x) = some (x, []) := take16_bytes16 x []
@[simp] theorem take24_bytes24_last (x : CueNum) : take24 (bytes24 x) = some (x, []) := take24_bytes24 x []
@[simp] theorem take32_bytes32_last (x : Word) : take32 (bytes32 x) = some (x, []) := take32_bytes32 x []

@[simp] theorem bytes24_ne_nil (x : CueNum) : bytes24 x ≠ [] := nofun
@[simp] theorem bytes32_ne_nil (x : Word) : bytes32 x ≠ [] := nofun

@[simp] theorem length_bytes16 (x : Half) : (bytes16 x).length = 2 := rfl
@[simp] theorem length_bytes24 (x : CueNum) : (bytes24 x).length = 3 := rfl
@[simp] theorem length_bytes32 (x : Word) : (bytes32 x).length = 4 := rfl

@[simp] theorem length_bytesOfWords (ws : List Word) : (bytesOfWords ws).length = 4 * ws.length := by
  induction ws with
  | nil => rfl
  | cons w ws ih =>
    rw [bytesOfWords, List.length_append, ih, length_bytes32, List.length_cons]
    omega

theorem wordsOfBytes_bytesOfWords (ws : List Word) : wordsOfBytes (bytesOfWords ws) = some ws := by
  induction ws with
  | nil => rfl
  | cons w ws ih =>
    show (wordsOfBytes (bytesOfWords ws)).map
      ((w.extractLsb' 24 8 ++ w.extractLsb' 16 8 ++ w.extractLsb' 8 8 ++ w.extractLsb' 0 8) :: ·) = _
    rw [ih, word_of_bytes]
    rfl

/-! ### Transactions -/

theorem finishRecord_bytes {ws : List Word} (h : recordFramed ws = true) (mk : List Word → Instr) :
    finishRecord mk (bytesOfWords ws) = some (mk ws) := by
  rw [finishRecord, wordsOfBytes_bytesOfWords]
  exact if_pos h

theorem length_le_of_recordFramed {ws : List Word} (h : recordFramed ws = true) : (bytesOfWords ws).length ≤ 1024 := by
  simp only [recordFramed, Bool.and_eq_true, decide_eq_true_eq] at h
  rw [length_bytesOfWords]
  exact h.2

/-- A request that is written with a code of the table and a payload that spells it is read back (R169, R170). -/
theorem decodeTransaction_write {i : Instr} {l l' : Role} {code tag : Byte} {payload tx : List Byte}
    (hsender : some l' = some l) (htx : some (writeRequest code tag payload) = some tx) (hlen : payload.length ≤ 1024)
    (hcode : grantOf code ≠ none) (hpayload : decodePayload l' tag code.toNat payload = some i) :
    decodeTransaction l tx = i := by
  obtain rfl := Option.some.inj hsender
  obtain rfl := Option.some.inj htx
  have len : ((BitVec.ofNat 16 payload.length).extractLsb' 8 8 ++ (BitVec.ofNat 16 payload.length).extractLsb' 0 8).toNat =
      payload.length := by
    rw [half_of_bytes, BitVec.toNat_ofNat]
    omega
  show decodeFrame l' _ (code :: tag :: (BitVec.ofNat 16 payload.length).extractLsb' 8 8 ::
    (BitVec.ofNat 16 payload.length).extractLsb' 0 8 :: payload) = i
  unfold decodeFrame
  dsimp only
  rw [len, if_neg (by simp [Config.maxPayload, hlen]), if_neg hcode, hpayload]

end Sys2Proof.Machine

namespace Sys2Proof.Proofs
open Sys2Proof.Machine

/-- Settles O12: each request's payload spells its fields one after another, and is read in the same order. -/
theorem decodeOfEncode : Obligations.DecodeOfEncode := by
  intro i l tx hwf hs he
  cases i
  case readResponse m =>
    obtain rfl := Option.some.inj hs
    obtain rfl := Option.some.inj he
    rfl
  case putCue m tag ws =>
    exact decodeTransaction_write hs he (length_le_of_recordFramed hwf) (by decide) (finishRecord_bytes hwf (.putCue m tag))
  case putScene m tag ws =>
    exact decodeTransaction_write hs he (length_le_of_recordFramed hwf) (by decide) (finishRecord_bytes hwf (.putScene m tag))
  case go m tag e =>
    cases e with
    | none => exact decodeTransaction_write hs he (by decide) (by decide) rfl
    | some c =>
      exact decodeTransaction_write hs he (by simp) (by decide) (by simp [decodePayload, finish])
  case stopAll m tag t =>
    cases t with
    | none => exact decodeTransaction_write hs he (by decide) (by decide) rfl
    | some t => exact decodeTransaction_write hs he (by simp) (by decide) (by simp [decodePayload, finish])
  case detach | readStatus | editHold | editRelease | loadShow | loadAbort | standby | readRunning | readVoices |
      readMeters | talkOff | readCalls | showStop | resume =>
    exact decodeTransaction_write hs he (by decide) (by decide) rfl
  case attach | readEvents | setGoAuthority | setStandbyRequired | readLevels | blank | openOutput | setReference |
      setFollow | callEnd | cancelCall =>
    exact decodeTransaction_write hs he (by simp) (by decide) rfl
  case setPresence | setEventMask | deleteCue | deleteScene | readCue | readScene | setAccessDelay | fire | setPlayhead |
      setGuard | stopCue | stopVoice | setLevel | setTrim | setOffset | setCeiling | talkOn | setLeveler | setDuckTimes |
      setGate | setStopTimes | setAnnounce =>
    exact decodeTransaction_write hs he (by simp) (by decide) (by simp [decodePayload, finish])
  case play m tag a =>
    exact decodeTransaction_write hs he (by simp [ActionWords.bytes]) (by decide)
      (by simp [decodePayload, ActionWords.bytes, finish])
  case call m tag p =>
    exact decodeTransaction_write hs he (by simp) (by decide) (by simp [decodePayload, finish])
  case badFrame | unknownRequest => cases he
  all_goals cases hs

end Sys2Proof.Proofs
end

section
/-! SUPPORT. The fields of a word, and the actions of a cue as their words (R23, R178): each well-formed action is read
back from its words, and what is read is within its ranges. -/

namespace Sys2Proof.Machine

/-! ### The bits of a word -/

theorem bitsAt_eq (w : Word) (lo n : Nat) : bitsAt w lo n = w.toNat / 2 ^ lo % 2 ^ n := by
  rw [bitsAt, BitVec.extractLsb'_toNat, Nat.shiftRight_eq_div_pow]

theorem bitsAt_lt (w : Word) (lo n : Nat) : bitsAt w lo n < 2 ^ n := (w.extractLsb' lo n).isLt

theorem getLsbD_eq (w : Word) (i : Nat) : w.getLsbD i = decide (w.toNat / 2 ^ i % 2 = 1) := by
  rw [BitVec.getLsbD, Nat.testBit_eq_decide_div_mod_eq]

theorem toNat_wordOf8 (a b c d : Nat) : (wordOf8 a b c d).toNat =
    a % 256 * 16777216 + b % 256 * 65536 + c % 256 * 256 + d % 256 := by
  have e : (wordOf8 a b c d).toNat = ((a % 256 * 256 + b % 256) * 256 + c % 256) * 256 + d % 256 := by
    refine (toNat_append_eq (m := 24) (n := 8) _ _).trans ?_
    rw [toNat_append_eq, toNat_append_eq]
    simp only [BitVec.toNat_ofNat]
    omega
  rw [e]
  ring

theorem toNat_wordOf16 (a b : Nat) : (wordOf16 a b).toNat = a % 65536 * 65536 + b % 65536 := by
  refine (toNat_append_eq (m := 16) (n := 16) _ _).trans ?_
  simp only [BitVec.toNat_ofNat]
  omega

/-! The half words of a word, and the bytes of the lower one. -/

theorem bitsAt_wordOf16_high (a b : Nat) : bitsAt (wordOf16 a b) 16 16 = a % 65536 :=
  (congrArg BitVec.toNat (extractLsb'_append_hi (m := 16) (n := 16) _ _)).trans (BitVec.toNat_ofNat ..)

theorem bitsAt_wordOf16_low (a b : Nat) : bitsAt (wordOf16 a b) 0 16 = b % 65536 :=
  (congrArg BitVec.toNat (extractLsb'_append_lo (m := 16) (n := 16) _ _)).trans (BitVec.toNat_ofNat ..)

theorem bitsAt_wordOf16_third (a b : Nat) : bitsAt (wordOf16 a b) 8 8 = b / 256 % 256 := by
  rw [bitsAt_eq, toNat_wordOf16]
  omega

theorem bitsAt_wordOf16_fourth (a b : Nat) : bitsAt (wordOf16 a b) 0 8 = b % 256 := by
  rw [bitsAt_eq, toNat_wordOf16]
  omega

theorem toNat_levelOver (l : Level) (lo : Nat) : (levelOver l lo).toNat = l.bits.toNat * 65536 + lo % 65536 := by
  refine (toNat_append_eq (m := 16) (n := 16) _ _).trans ?_
  simp only [BitVec.toNat_ofNat]
  omega

/-! ### Levels, times and optional words -/

/-- A level that a field can carry. -/
def Level.fits (l : Level) : Prop := ∀ x, l = .db x → -32768 < x ∧ x < 32768

theorem LevelOk.fits {lo hi : Int} {l : Level} (h : LevelOk lo hi l) (hlo : -32768 < lo) (hhi : hi < 32768) : l.fits := by
  rintro x rfl
  rcases h with h | ⟨y, h, hy⟩
  · cases h
  · cases h
    omega

theorem levelOfBits_bits {l : Level} (h : l.fits) : levelOfBits l.bits = l := by
  cases l with
  | off => rfl
  | db x =>
    obtain ⟨hlo, hhi⟩ := h x rfl
    have num : (BitVec.ofInt 16 x).toInt = x := by
      rw [BitVec.toInt_ofInt, Int.bmod_eq_of_le] <;> omega
    have hne : BitVec.ofInt 16 x ≠ 0x8000#16 := by
      intro heq
      rw [heq] at num
      have : (0x8000#16).toInt = -32768 := by decide
      omega
    rw [Level.bits, levelOfBits, if_neg hne, num]

theorem levelAt_levelOver {l : Level} (h : l.fits) (lo : Nat) : levelAt (levelOver l lo) 16 = l :=
  (congrArg levelOfBits (extractLsb'_append_hi l.bits (BitVec.ofNat 16 lo))).trans (levelOfBits_bits h)

theorem levelAt_low {l : Level} (h : l.fits) (hi : Half) : levelAt (hi ++ l.bits) 0 = l :=
  (congrArg levelOfBits (extractLsb'_append_lo hi l.bits)).trans (levelOfBits_bits h)

theorem Level.within_iff {lo hi : Int} {l : Level} : l.within lo hi = true ↔ LevelOk lo hi l := by
  cases l with
  | off => simp [Level.within, LevelOk]
  | db x => simp [Level.within, LevelOk]

theorem timeOk_iff (t : Word) : timeOk t = true ↔ TimeOk t.toNat := by
  rw [timeOk, decide_eq_true_eq, TimeOk]

theorem toNat_ofNat_of_le {n m : Nat} (h : n ≤ m) (hm : m < 4294967296) : (BitVec.ofNat 32 n).toNat = n := by
  rw [BitVec.toNat_ofNat]
  omega

theorem TimeOk.toNat {t : Nat} (h : TimeOk t) : (BitVec.ofNat 32 t).toNat = t := toNat_ofNat_of_le h (by decide)

theorem TimeOk.timeOk {t : Nat} (h : TimeOk t) : Machine.timeOk (BitVec.ofNat 32 t) = true := by
  rw [timeOk_iff, h.toNat]
  exact h

@[simp] theorem check_eq_some_iff {α : Type} (c : Bool) (a b : α) : check c a = some b ↔ c = true ∧ a = b := by
  unfold check
  split <;> simp_all

/-- An optional word is read back from its flag and its number. -/
theorem optionalWord_written {lo hi : Nat} {o : Option Nat} (h : OptionalOk lo hi o) (hhi : hi < 4294967296) :
    optionalWord o.isSome (BitVec.ofNat 32 (o.getD 0)) lo hi = some o := by
  cases o with
  | none => rfl
  | some n =>
    obtain ⟨hlo, hn⟩ := h n rfl
    have num := toNat_ofNat_of_le hn hhi
    simp [optionalWord, check, num, hlo, hn]

theorem optionalWord_ok {present : Bool} {w : Word} {lo hi : Nat} {o : Option Nat}
    (h : optionalWord present w lo hi = some o) : OptionalOk lo hi o := by
  rintro n rfl
  cases present with
  | false => simp [optionalWord] at h
  | true =>
    simp only [optionalWord, if_true, check_eq_some_iff, decide_eq_true_eq, Option.some.injEq] at h
    obtain ⟨hrange, rfl⟩ := h
    exact hrange

theorem bit_le (b : Bool) : bit b ≤ 1 := by
  cases b <;> decide

theorem decide_bit (b : Bool) : decide (bit b = 1) = b := by
  cases b <;> rfl

/-- A flag of a word is read as the bit that stands there. -/
theorem getLsbD_of_bit {w : Word} {i : Nat} {b : Bool} (h : w.toNat / 2 ^ i % 2 = bit b) : w.getLsbD i = b := by
  rw [getLsbD_eq, h, decide_bit]

/-! ### The kinds of action (R23) -/

theorem readPlay_words {p : PlaySpec} (h : PlayOk p) : readPlay (Action.play p).words = some p := by
  obtain ⟨hregion, hin, hout, hloop, hloops, hprio, hlevel, hfade, hgroup⟩ := h
  have hstem := p.stem.isLt
  have hstop := bit_le p.stopAtEnd
  have hloopFlag := bit_le p.loop.isSome
  have houtFlag := bit_le p.out.isSome
  have a0 := toNat_wordOf8 1 p.loops p.stem.val
    (16 * p.priority + 8 * bit p.stopAtEnd + 4 * bit p.loop.isSome + 2 * bit p.out.isSome)
  have a1 := toNat_levelOver p.level (1024 * p.group + p.region)
  have stem : bitsAt (Action.play p).words.a0 8 8 = p.stem.val := by
    rw [bitsAt_eq, Action.words, a0]
    omega
  have loops : bitsAt (Action.play p).words.a0 16 8 = p.loops := by
    rw [bitsAt_eq, Action.words, a0]
    omega
  have prio : bitsAt (Action.play p).words.a0 4 4 = p.priority := by
    rw [bitsAt_eq, Action.words, a0]
    omega
  have region : bitsAt (Action.play p).words.a1 0 10 = p.region := by
    rw [bitsAt_eq, Action.words, a1]
    omega
  have group : bitsAt (Action.play p).words.a1 10 6 = p.group := by
    rw [bitsAt_eq, Action.words, a1]
    omega
  have zero : (Action.play p).words.a0.getLsbD 0 = false := by
    rw [getLsbD_eq, Action.words, a0, decide_eq_false_iff_not]
    omega
  have out : (Action.play p).words.a0.getLsbD 1 = p.out.isSome := getLsbD_of_bit (by
    rw [Action.words, a0]
    omega)
  have loop : (Action.play p).words.a0.getLsbD 2 = p.loop.isSome := getLsbD_of_bit (by
    rw [Action.words, a0]
    omega)
  have stop : (Action.play p).words.a0.getLsbD 3 = p.stopAtEnd := getLsbD_of_bit (by
    rw [Action.words, a0]
    omega)
  have level : levelAt (Action.play p).words.a1 16 = p.level := levelAt_levelOver (hlevel.fits (by decide) (by decide)) _
  have inWord : (Action.play p).words.a2.toNat = p.inWord := toNat_ofNat_of_le hin (by decide)
  have fade : (Action.play p).words.a5.toNat = p.fadeIn := hfade.toNat
  have time : timeOk (Action.play p).words.a5 = true := hfade.timeOk
  have within : p.level.within (-960) 0 = true := Level.within_iff.mpr hlevel
  have lt : p.inWord < Config.memoryWords := Nat.lt_of_le_of_lt hin (by decide)
  have outWord : optionalWord p.out.isSome (Action.play p).words.a3 1 Config.memoryWords = some p.out :=
    optionalWord_written hout (by decide)
  have loopWord : optionalWord p.loop.isSome (Action.play p).words.a4 0 (Config.memoryWords - 1) = some p.loop :=
    optionalWord_written hloop (by decide)
  simp only [readPlay, stem, loops, prio, region, group, zero, out, loop, stop, level, inWord, fade, time, within, lt,
    outWord, loopWord, index?_of_lt hstem, hprio, Option.bind_eq_bind, Option.bind_some, check_eq_some_iff]
  exact ⟨by decide, trivial⟩

theorem readPlay_ok {w : ActionWords} {p : PlaySpec} (h : readPlay w = some p) : PlayOk p := by
  simp only [readPlay, Option.bind_eq_bind, Option.bind_eq_some_iff, check_eq_some_iff, Bool.and_eq_true,
    decide_eq_true_eq, Level.within_iff, timeOk_iff] at h
  obtain ⟨stem, -, out, hout, loop, hloop, ⟨⟨⟨⟨-, hprio⟩, hlevel⟩, hin⟩, htime⟩, rfl⟩ := h
  exact ⟨Nat.le_of_lt_succ (bitsAt_lt w.a1 0 10), Nat.le_of_lt_succ hin, optionalWord_ok hout, optionalWord_ok hloop,
    Nat.le_of_lt_succ (bitsAt_lt w.a0 16 8), hprio, hlevel, htime, Nat.le_of_lt_succ (bitsAt_lt w.a1 10 6)⟩

theorem readStop_words {target : StopTarget} {time : Nat} (h : StopTargetOk target ∧ TimeOk time) :
    readStop (Action.stop target time).words = some (.stop target time) := by
  obtain ⟨htarget, htime⟩ := h
  cases target with
  | group g =>
    obtain ⟨hlo, hhi⟩ := htarget
    have a0 := toNat_wordOf8 2 0 0 g
    have kind : bitsAt (wordOf8 2 0 0 g) 8 8 = 0 := by
      rw [bitsAt_eq, a0]
      omega
    have group : bitsAt (wordOf8 2 0 0 g) 0 8 = g := by
      rw [bitsAt_eq, a0]
      omega
    have rest : bitsAt (wordOf8 2 0 0 g) 16 8 = 0 := by
      rw [bitsAt_eq, a0]
      omega
    simp only [readStop, readStopTarget, Action.words, kind, group, rest, htime.toNat, htime.timeOk, hlo, hhi, check,
      Option.bind_eq_bind]
    rfl
  | cue n =>
    have number : (n ++ (0 : Byte)).extractLsb' 8 24 = n := extractLsb'_append_hi (m := 24) (n := 8) n 0
    have low : bitsAt (n ++ (0 : Byte)) 0 8 = 0 := congrArg BitVec.toNat (extractLsb'_append_lo (m := 24) (n := 8) n 0)
    have kind : bitsAt (wordOf8 2 0 1 0) 8 8 = 1 := by decide
    have rest : bitsAt (wordOf8 2 0 1 0) 16 8 = 0 := by decide
    have valid : validCueNum n = true := htarget
    simp only [readStop, readStopTarget, Action.words, kind, rest, number, low, valid, htime.toNat, htime.timeOk, check,
      Option.bind_eq_bind]
    rfl
  | all =>
    have kind : bitsAt (wordOf8 2 0 2 0) 8 8 = 2 := by decide
    have rest : bitsAt (wordOf8 2 0 2 0) 16 8 = 0 := by decide
    simp only [readStop, readStopTarget, Action.words, kind, rest, htime.toNat, htime.timeOk, check, Option.bind_eq_bind]
    rfl

theorem readVoiceFade_words {g : Nat} {l : Level} {time : Nat} {e : Bool}
    (h : 1 ≤ g ∧ g ≤ 63 ∧ LevelOk (-960) 0 l ∧ TimeOk time) :
    readVoiceFade (Action.voiceFade g l time e).words = some (.voiceFade g l time e) := by
  obtain ⟨hlo, hhi, hlevel, htime⟩ := h
  have he := bit_le e
  have a0 := toNat_wordOf8 3 0 (bit e) g
  have rest : bitsAt (wordOf8 3 0 (bit e) g) 9 15 = 0 := by
    rw [bitsAt_eq, a0]
    omega
  have group : bitsAt (wordOf8 3 0 (bit e) g) 0 8 = g := by
    rw [bitsAt_eq, a0]
    omega
  have stop : (wordOf8 3 0 (bit e) g).getLsbD 8 = e := getLsbD_of_bit (by
    rw [a0]
    omega)
  have upper : bitsAt ((0 : Half) ++ l.bits) 16 16 = 0 :=
    congrArg BitVec.toNat (extractLsb'_append_hi (m := 16) (n := 16) 0 l.bits)
  have level : levelAt ((0 : Half) ++ l.bits) 0 = l := levelAt_low (hlevel.fits (by decide) (by decide)) 0
  simp only [readVoiceFade, Action.words, rest, group, stop, upper, level, Level.within_iff.mpr hlevel, hlo, hhi,
    htime.toNat, htime.timeOk, check]
  rfl

theorem readLevel_words {i : SourceNo} {o : OutputNo} {l : Level} {time : Nat} (h : LevelOk (-960) 100 l ∧ TimeOk time) :
    readLevel (Action.level i o l time).words = some (.level i o l time) := by
  obtain ⟨hlevel, htime⟩ := h
  have hi := i.isLt
  have ho := o.isLt
  have a1 := toNat_levelOver l (256 * i.val + o.val)
  have source : bitsAt (levelOver l (256 * i.val + o.val)) 8 8 = i.val := by
    rw [bitsAt_eq, a1]
    omega
  have output : bitsAt (levelOver l (256 * i.val + o.val)) 0 8 = o.val := by
    rw [bitsAt_eq, a1]
    omega
  have level := levelAt_levelOver (hlevel.fits (by decide) (by decide)) (256 * i.val + o.val)
  simp only [readLevel, Action.words, source, output, index?_of_lt hi, index?_of_lt ho, level, Level.within_iff.mpr hlevel,
    htime.toNat, htime.timeOk, check, Option.bind_eq_bind]
  rfl

theorem readSceneAction_words {id time : Nat} (h : 1 ≤ id ∧ id ≤ 999 ∧ TimeOk time) :
    readSceneAction (Action.scene id time).words = some (.scene id time) := by
  obtain ⟨hlo, hhi, htime⟩ := h
  have num : (BitVec.ofNat 32 id).toNat = id := toNat_ofNat_of_le hhi (by decide)
  simp only [readSceneAction, Action.words, num, hlo, hhi, htime.toNat, htime.timeOk, check]
  rfl

theorem readTrim_words {o : OutputNo} {l : Level} {time : Nat} (h : LevelOk (-960) 100 l ∧ TimeOk time) :
    readTrim (Action.trim o l time).words = some (.trim o l time) := by
  obtain ⟨hlevel, htime⟩ := h
  have ho := o.isLt
  have a1 := toNat_levelOver l o.val
  have output : bitsAt (levelOver l o.val) 0 8 = o.val := by
    rw [bitsAt_eq, a1]
    omega
  have rest : bitsAt (levelOver l o.val) 8 8 = 0 := by
    rw [bitsAt_eq, a1]
    omega
  have level := levelAt_levelOver (hlevel.fits (by decide) (by decide)) o.val
  simp only [readTrim, Action.words, output, rest, index?_of_lt ho, level, Level.within_iff.mpr hlevel, htime.toNat,
    htime.timeOk, check, Option.bind_eq_bind]
  rfl

theorem modeOf_written (m : FoldMode) : modeOf m.code m.main = some m := by
  cases m with
  | independent => rfl
  | follow n => simp [modeOf, FoldMode.code, FoldMode.main, index?_of_lt n.isLt]

theorem readModeAction_words (o : OutputNo) (m : FoldMode) :
    readModeAction (Action.foldbackMode o m).words = some (.foldbackMode o m) := by
  have ho := o.isLt
  have hcode : m.code < 2 := by
    cases m with
    | independent => exact Nat.zero_lt_two
    | follow n => exact Nat.one_lt_two
  have hmain : m.main < 32 := by
    cases m with
    | independent => decide
    | follow n => exact n.isLt
  have a1 := toNat_wordOf8 0 m.main o.val m.code
  have output : bitsAt (wordOf8 0 m.main o.val m.code) 8 8 = o.val := by
    rw [bitsAt_eq, a1]
    omega
  have code : bitsAt (wordOf8 0 m.main o.val m.code) 0 8 = m.code := by
    rw [bitsAt_eq, a1]
    omega
  have main : bitsAt (wordOf8 0 m.main o.val m.code) 16 8 = m.main := by
    rw [bitsAt_eq, a1]
    omega
  have rest : bitsAt (wordOf8 0 m.main o.val m.code) 24 8 = 0 := by
    rw [bitsAt_eq, a1]
    omega
  simp only [readModeAction, Action.words, output, code, main, rest, index?_of_lt ho, modeOf_written, check,
    Option.bind_eq_bind]
  rfl

theorem readCallAction_words {c : CallSpec} (h : CallOk c) : readCallAction (Action.call c).words = some (.call c) := by
  obtain ⟨hregion, hin, hout, hzones, hlo, hhi, hpageLo, hpageHi, hdepth⟩ := h
  have hflag := bit_le c.out.isSome
  have a0 := toNat_wordOf8 8 0 c.priority (2 * bit c.out.isSome)
  have region : (BitVec.ofNat 32 c.region).toNat = c.region := toNat_ofNat_of_le hregion (by decide)
  have inWord : (BitVec.ofNat 32 c.inWord).toNat = c.inWord := toNat_ofNat_of_le hin (by decide)
  have out : (wordOf8 8 0 c.priority (2 * bit c.out.isSome)).getLsbD 1 = c.out.isSome := getLsbD_of_bit (by
    rw [a0]
    omega)
  have zero : (wordOf8 8 0 c.priority (2 * bit c.out.isSome)).getLsbD 0 = false := by
    rw [getLsbD_eq, a0, decide_eq_false_iff_not]
    omega
  have third : bitsAt (wordOf8 8 0 c.priority (2 * bit c.out.isSome)) 16 8 = 0 := by
    rw [bitsAt_eq, a0]
    omega
  have low : bitsAt (wordOf8 8 0 c.priority (2 * bit c.out.isSome)) 2 6 = 0 := by
    rw [bitsAt_eq, a0]
    omega
  have prio : bitsAt (wordOf8 8 0 c.priority (2 * bit c.out.isSome)) 8 8 = c.priority := by
    rw [bitsAt_eq, a0]
    omega
  have regionBits : bitsAt (BitVec.ofNat 32 c.region) 0 10 = c.region := by
    rw [bitsAt_eq, region]
    omega
  have upper : bitsAt (BitVec.ofNat 32 c.region) 10 22 = 0 := by
    rw [bitsAt_eq, region]
    omega
  have zones : ((0 : Half) ++ c.zones).extractLsb' 0 16 = c.zones := extractLsb'_append_lo (m := 16) (n := 16) 0 c.zones
  have overZones : bitsAt ((0 : Half) ++ c.zones) 16 16 = 0 :=
    congrArg BitVec.toNat (extractLsb'_append_hi (m := 16) (n := 16) 0 c.zones)
  have page : levelAt (BitVec.ofInt 16 c.page ++ BitVec.ofNat 16 c.depth) 16 = .db c.page :=
    levelAt_levelOver (l := .db c.page) (fun x hx => by cases hx; omega) c.depth
  have depth : bitsAt (BitVec.ofInt 16 c.page ++ BitVec.ofNat 16 c.depth) 0 16 = c.depth := by
    refine (congrArg BitVec.toNat (extractLsb'_append_lo (m := 16) (n := 16) _ _)).trans ?_
    rw [BitVec.toNat_ofNat]
    omega
  have outWord : optionalWord c.out.isSome (BitVec.ofNat 32 (c.out.getD 0)) 1 Config.memoryWords = some c.out :=
    optionalWord_written hout (by decide)
  have lt : c.inWord < Config.memoryWords := Nat.lt_of_le_of_lt hin (by decide)
  have anyZone : (c.zones != 0) = true := bne_iff_ne.mpr hzones
  simp only [readCallAction, Action.words, out, zero, third, low, prio, regionBits, upper, inWord, zones, overZones, page,
    depth, outWord, lt, anyZone, hlo, hhi, hpageLo, hpageHi, hdepth, check, Option.bind_eq_bind, Option.bind_some]
  rfl

/-- Every action within its ranges is read back from its words (R23, R178). -/
theorem readAction_words {a : Action} (h : ActionOk a) : readAction a.words = some a := by
  have code : ∀ {a b c d : Nat}, a < 256 → bitsAt (wordOf8 a b c d) 24 8 = a := by
    intro a b c d ha
    rw [bitsAt_eq, toNat_wordOf8]
    omega
  cases a with
  | play p =>
    rw [readAction, show bitsAt (Action.play p).words.a0 24 8 = 1 from code (by decide)]
    exact congrArg (Option.map Action.play) (readPlay_words h)
  | stop target time =>
    have kind : bitsAt (Action.stop target time).words.a0 24 8 = 2 := by
      cases target <;> exact code (by decide)
    rw [readAction, kind]
    exact readStop_words h
  | voiceFade g l time e =>
    rw [readAction, show bitsAt (Action.voiceFade g l time e).words.a0 24 8 = 3 from code (by decide)]
    exact readVoiceFade_words h
  | level i o l time =>
    rw [readAction, show bitsAt (Action.level i o l time).words.a0 24 8 = 4 from code (by decide)]
    exact readLevel_words h
  | scene id time =>
    rw [readAction, show bitsAt (Action.scene id time).words.a0 24 8 = 5 from code (by decide)]
    exact readSceneAction_words h
  | trim o l time =>
    rw [readAction, show bitsAt (Action.trim o l time).words.a0 24 8 = 6 from code (by decide)]
    exact readTrim_words h
  | foldbackMode o m =>
    rw [readAction, show bitsAt (Action.foldbackMode o m).words.a0 24 8 = 7 from code (by decide)]
    exact readModeAction_words o m
  | call c =>
    rw [readAction, show bitsAt (Action.call c).words.a0 24 8 = 8 from code (by decide)]
    exact readCallAction_words h

/-! ### What is read is within its ranges (R23) -/

theorem readStop_ok {w : ActionWords} {a : Action} (h : readStop w = some a) : ActionOk a := by
  simp only [readStop, Option.bind_eq_bind, Option.bind_eq_some_iff, check_eq_some_iff, Bool.and_eq_true, timeOk_iff] at h
  obtain ⟨target, htarget, ⟨-, htime⟩, rfl⟩ := h
  refine ⟨?_, htime⟩
  unfold readStopTarget at htarget
  split at htarget
  · simp only [check_eq_some_iff, decide_eq_true_eq] at htarget
    obtain ⟨hrange, rfl⟩ := htarget
    exact hrange
  · simp only [check_eq_some_iff, Bool.and_eq_true] at htarget
    obtain ⟨⟨hvalid, -⟩, rfl⟩ := htarget
    exact hvalid
  · cases htarget
    exact trivial
  · cases htarget

theorem readVoiceFade_ok {w : ActionWords} {a : Action} (h : readVoiceFade w = some a) : ActionOk a := by
  simp only [readVoiceFade, check_eq_some_iff, Bool.and_eq_true, timeOk_iff, decide_eq_true_eq, Level.within_iff] at h
  obtain ⟨⟨⟨⟨⟨-, hlo, hhi⟩, -⟩, hlevel⟩, htime⟩, rfl⟩ := h
  exact ⟨hlo, hhi, hlevel, htime⟩

theorem readLevel_ok {w : ActionWords} {a : Action} (h : readLevel w = some a) : ActionOk a := by
  simp only [readLevel, Option.bind_eq_bind, Option.bind_eq_some_iff, check_eq_some_iff, Bool.and_eq_true, timeOk_iff,
    Level.within_iff] at h
  obtain ⟨i, -, o, -, ⟨hlevel, htime⟩, rfl⟩ := h
  exact ⟨hlevel, htime⟩

theorem readSceneAction_ok {w : ActionWords} {a : Action} (h : readSceneAction w = some a) : ActionOk a := by
  simp only [readSceneAction, check_eq_some_iff, Bool.and_eq_true, timeOk_iff, decide_eq_true_eq] at h
  obtain ⟨⟨⟨hlo, hhi⟩, htime⟩, rfl⟩ := h
  exact ⟨hlo, hhi, htime⟩

theorem readTrim_ok {w : ActionWords} {a : Action} (h : readTrim w = some a) : ActionOk a := by
  simp only [readTrim, Option.bind_eq_bind, Option.bind_eq_some_iff, check_eq_some_iff, Bool.and_eq_true, timeOk_iff,
    Level.within_iff] at h
  obtain ⟨o, -, ⟨⟨-, hlevel⟩, htime⟩, rfl⟩ := h
  exact ⟨hlevel, htime⟩

theorem readModeAction_ok {w : ActionWords} {a : Action} (h : readModeAction w = some a) : ActionOk a := by
  simp only [readModeAction, Option.bind_eq_bind, Option.bind_eq_some_iff, check_eq_some_iff] at h
  obtain ⟨o, -, m, -, -, rfl⟩ := h
  exact trivial

theorem readCallAction_ok {w : ActionWords} {a : Action} (h : readCallAction w = some a) : ActionOk a := by
  simp only [readCallAction, Option.bind_eq_bind, Option.bind_eq_some_iff] at h
  obtain ⟨out, hout, h⟩ := h
  split at h
  · cases h
  · simp only [check_eq_some_iff, Bool.and_eq_true, decide_eq_true_eq, bne_iff_ne] at h
    obtain ⟨⟨⟨⟨⟨⟨⟨-, hlo, hhi⟩, -⟩, hin⟩, -⟩, hzones⟩, hpage⟩, hdepth⟩ := h.1
    obtain ⟨-, rfl⟩ := h
    exact ⟨Nat.le_of_lt_succ (bitsAt_lt w.a1 0 10), Nat.le_of_lt_succ hin, optionalWord_ok hout, hzones, hlo, hhi, hpage.1,
      hpage.2, hdepth⟩

/-- What is read as an action is within the ranges of R23. -/
theorem readAction_ok {w : ActionWords} {a : Action} (h : readAction w = some a) : ActionOk a := by
  unfold readAction at h
  split at h
  · obtain ⟨p, hp, rfl⟩ := Option.map_eq_some_iff.mp h
    exact readPlay_ok hp
  · exact readStop_ok h
  · exact readVoiceFade_ok h
  · exact readLevel_ok h
  · exact readSceneAction_ok h
  · exact readTrim_ok h
  · exact readModeAction_ok h
  · exact readCallAction_ok h
  · cases h

end Sys2Proof.Machine
end

section
/-! SUPPORT. Cue and scene records as their words, the header and the region entries (R10, R11, R21, R25, R36); then the
obligation that records are read back. -/

namespace Sys2Proof.Machine

/-! ### Bytes as words -/

theorem bytes_of_word (a b c d : Byte) : bytes32 (a ++ b ++ c ++ d) = [a, b, c, d] := by
  have first : (a ++ b ++ c ++ d).extractLsb' 24 8 = a := by
    apply BitVec.eq_of_toNat_eq
    rw [BitVec.extractLsb'_toNat, Nat.shiftRight_eq_div_pow, toNat_append_eq, toNat_append_eq, toNat_append_eq]
    have := a.isLt; have := b.isLt; have := c.isLt; have := d.isLt
    omega
  have second : (a ++ b ++ c ++ d).extractLsb' 16 8 = b := by
    apply BitVec.eq_of_toNat_eq
    rw [BitVec.extractLsb'_toNat, Nat.shiftRight_eq_div_pow, toNat_append_eq, toNat_append_eq, toNat_append_eq]
    have := a.isLt; have := b.isLt; have := c.isLt; have := d.isLt
    omega
  have third : (a ++ b ++ c ++ d).extractLsb' 8 8 = c := by
    apply BitVec.eq_of_toNat_eq
    rw [BitVec.extractLsb'_toNat, Nat.shiftRight_eq_div_pow, toNat_append_eq, toNat_append_eq, toNat_append_eq]
    have := a.isLt; have := b.isLt; have := c.isLt; have := d.isLt
    omega
  have fourth : (a ++ b ++ c ++ d).extractLsb' 0 8 = d := extractLsb'_append_lo _ d
  show [(a ++ b ++ c ++ d).extractLsb' 24 8, (a ++ b ++ c ++ d).extractLsb' 16 8, (a ++ b ++ c ++ d).extractLsb' 8 8,
    (a ++ b ++ c ++ d).extractLsb' 0 8] = _
  rw [first, second, third, fourth]

/-- Bytes in fours are the bytes of their words. -/
theorem wordsOfBytes_some {k : Nat} {bs : List Byte} (h : bs.length = 4 * k) :
    ∃ ws, wordsOfBytes bs = some ws ∧ ws.length = k ∧ bytesOfWords ws = bs := by
  induction k generalizing bs with
  | zero =>
    rw [List.length_eq_zero_iff.mp h]
    exact ⟨[], rfl, rfl, rfl⟩
  | succ k ih =>
    match bs, h with
    | a :: b :: c :: d :: rest, h =>
      obtain ⟨ws, hws, hlen, hbytes⟩ := ih (bs := rest) (by simp only [List.length_cons] at h; omega)
      refine ⟨(a ++ b ++ c ++ d) :: ws, ?_, by rw [List.length_cons, hlen], ?_⟩
      · rw [wordsOfBytes, hws]
        rfl
      · rw [bytesOfWords, bytes_of_word, hbytes]
        rfl

/-! ### Cue records (R21) -/

theorem readActions_words {regions : List Region} {as : List Action} (pos : Nat) (h : ∀ a ∈ as, ActionOk a)
    (hwords : ∀ a ∈ as, wordCheck regions a = true) :
    readActions regions pos (as.flatMap fun a => actionWordList a.words) = .ok as := by
  induction as generalizing pos with
  | nil => rfl
  | cons a as ih =>
    obtain ⟨ha, has⟩ := List.forall_mem_cons.mp h
    obtain ⟨hw, hws⟩ := List.forall_mem_cons.mp hwords
    show readActions regions pos (a.words.a0 :: a.words.a1 :: a.words.a2 :: a.words.a3 :: a.words.a4 :: a.words.a5 ::
      as.flatMap fun a => actionWordList a.words) = _
    rw [readActions, show readAction ⟨a.words.a0, a.words.a1, a.words.a2, a.words.a3, a.words.a4, a.words.a5⟩ = some a from
      readAction_words ha]
    dsimp only
    rw [if_pos hw, ih (pos + 1) has hws]

theorem readActions_ok {regions : List Region} {pos : Nat} {ws : List Word} {as : List Action}
    (h : readActions regions pos ws = .ok as) :
    (∀ a ∈ as, ActionOk a) ∧ (∀ a ∈ as, wordCheck regions a = true) ∧ 6 * as.length ≤ ws.length := by
  fun_induction readActions generalizing as with
  | case1 => cases h
  | case2 pos a0 a1 a2 a3 a4 a5 rest a ha hw as' has ih =>
    cases h
    obtain ⟨hok, hwords, hlen⟩ := ih has
    refine ⟨List.forall_mem_cons.mpr ⟨readAction_ok ha, hok⟩, List.forall_mem_cons.mpr ⟨hw, hwords⟩, ?_⟩
    simp only [List.length_cons]
    omega
  | case3 => cases h
  | case4 => cases h
  | case5 =>
    cases h
    exact ⟨fun a ha => absurd ha List.not_mem_nil, fun a ha => absurd ha List.not_mem_nil, Nat.zero_le _⟩

/-- A label is read back from its 24 bytes (R21). -/
theorem readLabel_field {label : List Byte} (hlen : label.length ≤ Config.maxLabel)
    (hprint : ∀ b ∈ label, printable b = true) : readLabel label.length (labelField label) = some label := by
  unfold readLabel labelField
  rw [List.take_left, List.drop_left, check_eq_some_iff]
  simpa [hlen] using hprint

theorem readLabel_ok {len : Nat} {field label : List Byte} (h : readLabel len field = some label) :
    label.length ≤ Config.maxLabel ∧ ∀ b ∈ label, printable b = true := by
  simp only [readLabel, check_eq_some_iff, Bool.and_eq_true, decide_eq_true_eq, List.all_eq_true] at h
  obtain ⟨⟨⟨hlen, hprint⟩, -⟩, rfl⟩ := h
  exact ⟨(List.length_take_le ..).trans hlen, hprint⟩

theorem readTrigger_word {t : Trigger} (h : TriggerOk t) : readTrigger t.code t.word = some t := by
  cases t with
  | go => rfl
  | follow => rfl
  | marker c id =>
    have hc : (c ++ id).extractLsb' 8 24 = c := extractLsb'_append_hi (m := 24) (n := 8) c id
    have hid : (c ++ id).extractLsb' 0 8 = id := extractLsb'_append_lo (m := 24) (n := 8) c id
    have valid : validCueNum c = true := h
    show check (validCueNum ((c ++ id).extractLsb' 8 24)) (.marker ((c ++ id).extractLsb' 8 24) ((c ++ id).extractLsb' 0 8))
      = some (Trigger.marker c id)
    rw [hc, hid, check_eq_some_iff]
    exact ⟨valid, rfl⟩

theorem readTrigger_ok {code : Nat} {w : Word} {t : Trigger} (h : readTrigger code w = some t) : TriggerOk t := by
  unfold readTrigger at h
  split at h
  · cases h
    exact trivial
  · cases h
    exact trivial
  · rw [check_eq_some_iff] at h
    obtain ⟨hvalid, rfl⟩ := h
    exact hvalid
  · cases h

/-- The words of a cue record: five of its head, six of its label, and six of each action (R178). -/
theorem Cue.words_eq {c : Cue} (hlen : c.label.length ≤ Config.maxLabel) : ∃ label : List Word,
    label.length = 6 ∧ bytesOfWords label = labelField c.label ∧
      c.words = wordOf16 (11 + 6 * c.actions.length) (256 * c.trigger.code + c.actions.length) ::
        (c.num ++ BitVec.ofNat 8 c.label.length) :: c.trigger.word :: BitVec.ofNat 32 c.preWait ::
          BitVec.ofNat 32 c.followDelay :: (label ++ c.actions.flatMap fun a => actionWordList a.words) := by
  have field : (labelField c.label).length = 4 * 6 := by
    rw [labelField, List.length_append, List.length_replicate]
    simp only [Config.maxLabel] at hlen ⊢
    omega
  obtain ⟨label, hwords, hlength, hbytes⟩ := wordsOfBytes_some field
  refine ⟨label, hlength, hbytes, ?_⟩
  rw [Cue.words, hwords]
  rfl

theorem length_actionWords (as : List Action) : (as.flatMap fun a => actionWordList a.words).length = 6 * as.length := by
  induction as with
  | nil => rfl
  | cons a as ih =>
    rw [List.flatMap_cons, List.length_append, ih, List.length_cons]
    simp only [actionWordList, List.length_cons, List.length_nil]
    omega

theorem Trigger.code_le (t : Trigger) : t.code ≤ 2 := by
  cases t with
  | go => exact Nat.zero_le 2
  | follow => exact Nat.le_succ 1
  | marker c id => exact Nat.le_refl 2

theorem Cue.length_words {c : Cue} (hlen : c.label.length ≤ Config.maxLabel) :
    c.words.length = 11 + 6 * c.actions.length := by
  obtain ⟨label, hlabel, -, e⟩ := Cue.words_eq hlen
  rw [e]
  simp only [List.length_cons, List.length_append, hlabel, length_actionWords]
  omega

theorem statedLength_cue {c : Cue} (hlen : c.label.length ≤ Config.maxLabel) (hactions : c.actions.length ≤ 32) :
    statedLength c.words = c.words.length := by
  rw [Cue.length_words hlen]
  obtain ⟨label, -, -, e⟩ := Cue.words_eq hlen
  rw [e]
  show bitsAt (wordOf16 _ _) 16 16 = _
  have := c.trigger.code_le
  rw [bitsAt_wordOf16_high]
  omega

/-- A cue record within its ranges is read back from its words (R21, R36). -/
theorem readCueRecord_words {regions : List Region} {c : Cue} (h : CueOk c)
    (hwords : ∀ a ∈ c.actions, wordCheck regions a = true) : readCueRecord regions c.words = .ok c := by
  obtain ⟨hnum, hlabel, hprint, htrigger, hpre, hfollow, hactions, hok⟩ := h
  have hcount : c.actions.length ≤ 32 := hactions
  have hcode := c.trigger.code_le
  have hlen : c.words.length = 11 + 6 * c.actions.length := Cue.length_words hlabel
  have hlabel' : c.label.length ≤ 24 := hlabel
  obtain ⟨label, hlabelLen, hbytes, e⟩ := Cue.words_eq hlabel
  have stated : bitsAt (wordOf16 (11 + 6 * c.actions.length) (256 * c.trigger.code + c.actions.length)) 16 16 =
      11 + 6 * c.actions.length := by
    rw [bitsAt_wordOf16_high]
    omega
  have count : bitsAt (wordOf16 (11 + 6 * c.actions.length) (256 * c.trigger.code + c.actions.length)) 0 8 =
      c.actions.length := by
    rw [bitsAt_wordOf16_fourth]
    omega
  have code : bitsAt (wordOf16 (11 + 6 * c.actions.length) (256 * c.trigger.code + c.actions.length)) 8 8 =
      c.trigger.code := by
    rw [bitsAt_wordOf16_third]
    omega
  have num : (c.num ++ BitVec.ofNat 8 c.label.length).extractLsb' 8 24 = c.num :=
    extractLsb'_append_hi (m := 24) (n := 8) c.num _
  have labelLen : bitsAt (c.num ++ BitVec.ofNat 8 c.label.length) 0 8 = c.label.length := by
    refine (congrArg BitVec.toNat (extractLsb'_append_lo (m := 24) (n := 8) c.num _)).trans ?_
    rw [BitVec.toNat_ofNat]
    omega
  have framed : cueLengthOk c.words = true := by
    rw [e] at hlen ⊢
    simp only [cueLengthOk, stated, count, hlen, Config.maxCueActions, hcount, beq_self_eq_true, decide_true, Bool.and_self]
  have take : (label ++ c.actions.flatMap fun a => actionWordList a.words).take 6 = label := List.take_left' hlabelLen
  have drop : (label ++ c.actions.flatMap fun a => actionWordList a.words).drop 6 =
      c.actions.flatMap fun a => actionWordList a.words := List.drop_left' hlabelLen
  have head : readCueHead (wordOf16 (11 + 6 * c.actions.length) (256 * c.trigger.code + c.actions.length))
      (c.num ++ BitVec.ofNat 8 c.label.length) c.trigger.word (BitVec.ofNat 32 c.preWait) (BitVec.ofNat 32 c.followDelay)
      (labelField c.label) = some { c with actions := [] } := by
    simp only [readCueHead, code, readTrigger_word htrigger, labelLen, readLabel_field hlabel hprint, num, hnum, hpre.toNat,
      hpre.timeOk, hfollow.toNat, hfollow.timeOk, check, Option.bind_eq_bind, Option.bind_some]
    rfl
  unfold readCueRecord
  rw [if_pos framed, e]
  dsimp only
  rw [take, drop, hbytes, head]
  dsimp only
  rw [readActions_words 1 hok hwords]

/-- What is read as a cue record is within the ranges of R21 and R23, with its word checks passed (R24). -/
theorem readCueRecord_ok {regions : List Region} {ws : List Word} {c : Cue} (h : readCueRecord regions ws = .ok c) :
    CueOk c ∧ ∀ a ∈ c.actions, wordCheck regions a = true := by
  unfold readCueRecord at h
  split at h
  · next hlength =>
    split at h
    · next w0 w1 w2 w3 w4 rest =>
      split at h
      · cases h
      · next d hhead =>
        split at h
        · next as has =>
          cases h
          obtain ⟨hok, hwords, hlen⟩ := readActions_ok has
          simp only [readCueHead, Option.bind_eq_bind, Option.bind_eq_some_iff, check_eq_some_iff, Bool.and_eq_true,
            timeOk_iff] at hhead
          obtain ⟨trigger, htrigger, label, hlabel, ⟨⟨hnum, hpre⟩, hfollow⟩, rfl⟩ := hhead
          obtain ⟨hlabelLen, hprint⟩ := readLabel_ok hlabel
          simp only [cueLengthOk, Bool.and_eq_true, beq_iff_eq, decide_eq_true_eq, List.length_cons] at hlength
          obtain ⟨⟨hstated, hcount⟩, htotal⟩ := hlength
          refine ⟨⟨hnum, hlabelLen, hprint, readTrigger_ok htrigger, hpre, hfollow, ?_, hok⟩, hwords⟩
          rw [List.length_drop] at hlen
          show as.length ≤ 32
          simp only [Config.maxCueActions] at hcount
          omega
        · cases h
    · cases h
  · cases h

/-! ### Scene records (R25) -/

theorem readEntry_word {e : SceneEntry} (h : LevelOk (-960) 100 e.level) : readEntry e.word = some e := by
  have hi := e.source.isLt
  have ho := e.output.isLt
  have num : e.word.toNat = (e.source.val * 256 + e.output.val) * 65536 + e.level.bits.toNat := by
    refine (toNat_append_eq (m := 16) (n := 16) _ _).trans ?_
    rw [toNat_append_eq, BitVec.toNat_ofNat, BitVec.toNat_ofNat]
    omega
  have hbits := e.level.bits.isLt
  have source : bitsAt e.word 24 8 = e.source.val := by
    rw [bitsAt_eq, num]
    omega
  have output : bitsAt e.word 16 8 = e.output.val := by
    rw [bitsAt_eq, num]
    omega
  have level : levelAt e.word 0 = e.level := levelAt_low (h.fits (by decide) (by decide)) _
  simp only [readEntry, source, output, level, index?_of_lt hi, index?_of_lt ho, Level.within_iff.mpr h, check,
    Option.bind_eq_bind]
  rfl

theorem readEntry_ok {w : Word} {e : SceneEntry} (h : readEntry w = some e) : LevelOk (-960) 100 e.level := by
  simp only [readEntry, Option.bind_eq_bind, Option.bind_eq_some_iff, check_eq_some_iff, Level.within_iff] at h
  obtain ⟨i, -, o, -, hlevel, rfl⟩ := h
  exact hlevel

/-- The crosspoint of a scene entry. -/
def SceneEntry.pair (e : SceneEntry) : SourceNo × OutputNo := (e.source, e.output)

theorem seen_iff {seen : List SceneEntry} {e : SceneEntry} :
    seen.any (fun d => d.source == e.source && d.output == e.output) = true ↔ e.pair ∈ seen.map SceneEntry.pair := by
  simp [SceneEntry.pair]

theorem readEntries_words {es seen : List SceneEntry} (pos : Nat) (hlevels : ∀ e ∈ es, LevelOk (-960) 100 e.level)
    (hnodup : (es.map SceneEntry.pair).Nodup) (hnew : ∀ e ∈ es, e.pair ∉ seen.map SceneEntry.pair) :
    readEntries seen pos (es.map SceneEntry.word) = .ok es := by
  induction es generalizing seen pos with
  | nil => rfl
  | cons e es ih =>
    obtain ⟨hlevel, hlevels⟩ := List.forall_mem_cons.mp hlevels
    obtain ⟨hfirst, hnodup⟩ := List.nodup_cons.mp hnodup
    obtain ⟨hfresh, hnew⟩ := List.forall_mem_cons.mp hnew
    have rest := ih (seen := e :: seen) (pos + 1) hlevels hnodup fun d hd => by
      rw [List.map_cons, List.mem_cons, not_or]
      exact ⟨fun h => hfirst (h ▸ List.mem_map_of_mem hd), hnew d hd⟩
    rw [List.map_cons, readEntries, readEntry_word hlevel]
    dsimp only
    rw [if_neg (by rw [seen_iff]; exact hfresh), rest]

theorem readEntries_ok {seen es : List SceneEntry} {pos : Nat} {ws : List Word} (h : readEntries seen pos ws = .ok es) :
    es.length = ws.length ∧ (∀ e ∈ es, LevelOk (-960) 100 e.level) ∧ (es.map SceneEntry.pair).Nodup ∧
      ∀ e ∈ es, e.pair ∉ seen.map SceneEntry.pair := by
  induction ws generalizing seen pos es with
  | nil =>
    cases h
    exact ⟨rfl, fun e he => absurd he List.not_mem_nil, List.nodup_nil, fun e he => absurd he List.not_mem_nil⟩
  | cons w ws ih =>
    unfold readEntries at h
    split at h
    · cases h
    · next e he =>
      split at h
      · cases h
      · next hfresh =>
        split at h
        · next ds hds =>
          cases h
          obtain ⟨hlen, hlevels, hnodup, hnew⟩ := ih hds
          rw [seen_iff] at hfresh
          refine ⟨by rw [List.length_cons, hlen, List.length_cons], List.forall_mem_cons.mpr ⟨readEntry_ok he, hlevels⟩,
            List.nodup_cons.mpr ⟨fun hmem => ?_, hnodup⟩, List.forall_mem_cons.mpr ⟨hfresh, fun d hd hmem => ?_⟩⟩
          · obtain ⟨d, hd, hpair⟩ := List.mem_map.mp hmem
            exact hnew d hd (by rw [hpair]; exact List.mem_cons_self)
          · exact hnew d hd (List.mem_cons_of_mem _ hmem)
        · cases h

theorem Scene.length_words (sc : Scene) : sc.words.length = 2 + sc.entries.length := by
  rw [Scene.words, List.length_append, List.length_map]
  rfl

theorem Scene.stated {sc : Scene} (h : sc.entries.length ≤ 1280) :
    bitsAt (wordOf16 (2 + sc.entries.length) sc.entries.length) 16 16 = 2 + sc.entries.length ∧
      bitsAt (wordOf16 (2 + sc.entries.length) sc.entries.length) 0 16 = sc.entries.length := by
  rw [bitsAt_wordOf16_high, bitsAt_wordOf16_low]
  omega

theorem statedLength_scene {sc : Scene} (h : sc.entries.length ≤ 1280) : statedLength sc.words = sc.words.length :=
  (Scene.stated h).1.trans sc.length_words.symm

/-- A scene record within its ranges is read back from its words (R25, R36). -/
theorem readSceneRecord_words {sc : Scene} (h : SceneOk sc) : readSceneRecord sc.words = .ok sc := by
  obtain ⟨hidLo, hidHi, hlo, hhi, hnodup, hlevels⟩ := h
  obtain ⟨stated, count⟩ := Scene.stated (sc := sc) (hhi.trans (by decide))
  have id : (BitVec.ofNat 32 sc.id).toNat = sc.id := toNat_ofNat_of_le hidHi (by decide)
  have framed : sceneLengthOk sc.words = true := by
    have hlen := sc.length_words
    rw [Scene.words] at hlen ⊢
    show (bitsAt _ 16 16 == 2 + bitsAt _ 0 16 && bitsAt _ 16 16 == _) = true
    rw [hlen, stated, count, beq_self_eq_true, Bool.and_self]
  have e : sc.words = wordOf16 (2 + sc.entries.length) sc.entries.length :: BitVec.ofNat 32 sc.id ::
      sc.entries.map SceneEntry.word := rfl
  unfold readSceneRecord
  rw [if_pos framed, e]
  dsimp only
  rw [count, id, if_pos ⟨hlo, hhi, hidLo, hidHi⟩, readEntries_words 1 hlevels hnodup fun e _ => List.not_mem_nil]

/-- What is read as a scene record is within the ranges of R25. -/
theorem readSceneRecord_ok {ws : List Word} {sc : Scene} (h : readSceneRecord ws = .ok sc) : SceneOk sc := by
  unfold readSceneRecord at h
  split at h
  · next hlength =>
    split at h
    · next w0 w1 rest =>
      split at h
      · next hrange =>
        split at h
        · next es hes =>
          cases h
          obtain ⟨hlen, hlevels, hnodup, -⟩ := readEntries_ok hes
          obtain ⟨hlo, hhi, hidLo, hidHi⟩ := hrange
          simp only [sceneLengthOk, Bool.and_eq_true, beq_iff_eq, List.length_cons] at hlength
          obtain ⟨hstated, htotal⟩ := hlength
          have hcount : es.length = bitsAt w0 0 16 := by omega
          exact ⟨hidLo, hidHi, hcount ▸ hlo, hcount ▸ hhi, hnodup, hlevels⟩
        · cases h
      · cases h
    · cases h
  · cases h

/-! ### The header and the regions (R10, R11) -/

/-- What the checks of R10 leave of a header: at most 16 RELAY outputs, and blocks within the memory. -/
theorem readHeader_fits {ws : List Word} {h : Header} (hr : readHeader ws = .ok h) :
    (h.classes.toList.countP fun c => c == .relay) ≤ 16 ∧ h.regionOffset + 2 * h.regionCount ≤ 16777216 ∧
      h.sceneOffset + h.sceneLen ≤ 16777216 ∧ h.cueOffset + h.cueLen ≤ 16777216 := by
  unfold readHeader at hr
  dsimp only at hr
  split at hr
  · cases hr
  · split at hr
    · cases hr
    · split at hr
      · cases hr
      · next hrelay =>
        split at hr
        · cases hr
        · split at hr
          · cases hr
          · next hends =>
            cases hr
            simp only [not_or, not_lt, Config.memoryWords] at hends
            obtain ⟨hregions, hscenes, hcues⟩ := hends
            exact ⟨Nat.not_lt.mp hrelay, hregions, hscenes, hcues⟩

theorem readRegions_valid : ∀ {ws : List Word} {rs : List Region}, readRegions ws = some rs →
    ∀ r ∈ rs, 1 ≤ r.len ∧ r.base + r.len ≤ 16777216
  | b :: n :: rest, rs, h => by
    unfold readRegions at h
    dsimp only at h
    split at h
    · next hvalid =>
      obtain ⟨tail, htail, rfl⟩ := Option.map_eq_some_iff.mp h
      exact List.forall_mem_cons.mpr ⟨of_decide_eq_true hvalid, readRegions_valid htail⟩
    · cases h
  | [], rs, h => by
    cases h
    exact fun r hr => absurd hr List.not_mem_nil
  | [w], rs, h => by
    cases h
    exact fun r hr => absurd hr List.not_mem_nil

end Sys2Proof.Machine

namespace Sys2Proof.Proofs
open Sys2Proof.Machine

/-- Settles O13, record by record and in both directions. -/
theorem recordsReadBack : Obligations.RecordsReadBack :=
  ⟨fun _ _ hc hwords => readCueRecord_words hc hwords, fun _ hsc => readSceneRecord_words hsc,
    fun _ _ _ h => readCueRecord_ok h, fun _ _ h => readPlay_ok h, fun _ _ h => readSceneRecord_ok h,
    fun _ _ h => ⟨readHeader_ok h, readHeader_fits h⟩, fun _ _ h => readRegions_valid h⟩

end Sys2Proof.Proofs
end

section
/-! SUPPORT. The victim of a request (R67), and what taking a FREE voice or stealing one for a PLAY leaves (R66, R68);
then the obligation of PLAY. -/

namespace Sys2Proof.Machine

/-! ### The victim (R67) -/

section Victim

variable {s : State} {u v : VoiceNo}

/-- No victim comes strictly before one that is taken before it. -/
theorem TakenBefore.not_victimBefore (h : TakenBefore s v u) :
    victimBefore s.timing.showClock (s.voice u) (s.voice v) = false := by
  unfold victimBefore
  rcases h with ⟨hv, hu⟩ | ⟨hstop, h⟩
  · simp [hv, hu]
  · rcases h with h | ⟨hprio, h⟩
    · simp [hstop, h.ne', Nat.le_of_lt h]
    · simp only [hstop, hprio, bne_self_eq_false, Bool.false_eq_true, if_false, ne_eq, not_true, decide_eq_false_iff_not]
      omega

/-- One that is taken before a lower-numbered voice comes strictly before it. -/
theorem TakenBefore.victimBefore (h : TakenBefore s v u) (hlt : u < v) :
    Machine.victimBefore s.timing.showClock (s.voice v) (s.voice u) = true := by
  unfold Machine.victimBefore
  rcases h with ⟨hv, hu⟩ | ⟨hstop, h⟩
  · simp [hv, hu]
  · rcases h with h | ⟨hprio, h | ⟨-, h⟩⟩
    · simp [hstop, h.ne, h]
    · simp only [hstop, hprio, bne_self_eq_false, Bool.false_eq_true, if_false, ne_eq, not_true, decide_eq_true_eq]
      exact h
    · exact absurd (hlt.trans h) (lt_irrefl u)

theorem bestVictim_mem {vs : List VoiceNo} (h : bestVictim s vs = some v) : v ∈ vs := by
  induction vs generalizing v with
  | nil => cases h
  | cons a vs ih =>
    unfold bestVictim at h
    split at h
    · next w hw =>
      split at h
      · cases h
        exact List.mem_cons_of_mem _ (ih hw)
      · cases h
        exact List.mem_cons_self
    · cases h
      exact List.mem_cons_self

/-- Of voices in number order, the victim is the one that is taken before each other. -/
theorem bestVictim_eq {vs : List VoiceNo} (hsorted : vs.Pairwise (· < ·)) (hv : v ∈ vs)
    (hbest : ∀ u ∈ vs, u ≠ v → TakenBefore s v u) : bestVictim s vs = some v := by
  induction vs with
  | nil => cases hv
  | cons a vs ih =>
    obtain ⟨hfirst, hsorted⟩ := List.pairwise_cons.mp hsorted
    rcases List.mem_cons.mp hv with rfl | hrest
    · unfold bestVictim
      split
      · next w hw =>
        have hmem := bestVictim_mem hw
        have before := hbest w (List.mem_cons_of_mem _ hmem) (hfirst w hmem).ne'
        rw [before.not_victimBefore]
        rfl
      · rfl
    · have lower := hfirst v hrest
      rw [bestVictim, ih hsorted hrest fun u hu => hbest u (List.mem_cons_of_mem _ hu)]
      dsimp only
      rw [(hbest a List.mem_cons_self lower.ne).victimBefore lower]
      rfl

theorem victim_eq {priority : Nat} (hv : (s.voice v).candidate priority = true)
    (hbest : ∀ u, u ≠ v → (s.voice u).candidate priority = true → TakenBefore s v u) : victim priority s = some v :=
  bestVictim_eq ((List.pairwise_lt_finRange 32).sublist List.filter_sublist)
    (List.mem_filter.mpr ⟨mem_voiceNos v, hv⟩) fun u hu hne => hbest u hne (List.mem_filter.mp hu).2

theorem victim_none {priority : Nat} (h : ∀ v, (s.voice v).candidate priority = false) : victim priority s = none := by
  have empty : voiceNos.filter (fun v => (s.voice v).candidate priority) = [] := by
    rw [List.filter_eq_nil_iff]
    intro v _
    rw [h v]
    exact Bool.false_ne_true
  rw [victim, empty]
  rfl

end Victim

/-! ### What an allocation leaves (R66, R68) -/

section Allocation

variable {s : State} {v : VoiceNo} {r : AllocReq}

theorem takeFree_eq (h : r.inWord < r.out.getD (regionAt s r.region).len) :
    takeFree r v s = s.setVoice v { (r.record s).started with fetch := .waiting } := by
  have wants : (r.record s).started.wantsFetch = true := by
    rw [started_eq]
    simp [Voice.wantsFetch, Voice.fetches, AllocReq.record, Voice.freeRecord, h]
  rw [takeFree, postFetch_setVoice, if_pos wants]

theorem allocateScan_free (hv : (s.voice v).state = .free) (hfirst : ∀ u, u < v → (s.voice u).state ≠ .free) :
    allocateScan r s = some (takeFree r v s, v) := by
  rw [allocateScan, allocate, freeVoiceNo_eq hv hfirst]
  rfl

theorem allocateScan_none (hnone : ∀ v, (s.voice v).state ≠ .free)
    (h : ∀ v, (s.voice v).candidate r.priority = false) : allocateScan r s = none := by
  rw [allocateScan, allocate, freeVoiceNo_none hnone, victim_none h]

theorem allocate_steal (hnone : ∀ v, (s.voice v).state ≠ .free) (hv : (s.voice v).candidate r.priority = true)
    (hbest : ∀ u, u ≠ v → (s.voice u).candidate r.priority = true → TakenBefore s v u) :
    allocate r s = some
      { state := (tellVictim (s.voice v) v (stealVoice r v s)).1, voice := v,
        callEnded := (tellVictim (s.voice v) v (stealVoice r v s)).2 } := by
  rw [allocate, freeVoiceNo_none hnone, victim_eq hv hbest]

/-- A stolen orphan has no owner to tell. -/
theorem allocateScan_orphan (hnone : ∀ v, (s.voice v).state ≠ .free) (hv : (s.voice v).candidate r.priority = true)
    (hbest : ∀ u, u ≠ v → (s.voice u).candidate r.priority = true → TakenBefore s v u)
    (howner : (s.voice v).owner = .orphan) : allocateScan r s = some (stealVoice r v s, v) := by
  rw [allocateScan, allocate_steal hnone hv hbest, tellVictim, howner]
  rfl

/-- A stolen voice of an instance leaves it to its end check (R57, R68). -/
theorem allocateScan_inst {id : Nat} {c : CueNum} (hnone : ∀ v, (s.voice v).state ≠ .free)
    (hv : (s.voice v).candidate r.priority = true)
    (hbest : ∀ u, u ≠ v → (s.voice u).candidate r.priority = true → TakenBefore s v u)
    (howner : (s.voice v).owner = .inst id c) : allocateScan r s = some (checkEnd id (stealVoice r v s), v) := by
  rw [allocateScan, allocate_steal hnone hv hbest, tellVictim, howner]
  rfl

theorem voice_stealVoice_self (r : AllocReq) (v : VoiceNo) (s : State) : (stealVoice r v s).voice v =
    { r.record s with
      state := .reclaiming (s.voice v).stealPos (s.voice v).dest (s.voice v).level false,
      level := (s.voice v).level, fifo := (s.voice v).stealFifo } :=
  State.voice_setVoice_self ..

theorem voice_stealVoice_ne {u : VoiceNo} (h : u ≠ v) (r : AllocReq) (s : State) :
    (stealVoice r v s).voice u = s.voice u :=
  State.voice_setVoice_ne (removeFade (.voice v) s) v u _ h

end Allocation

/-! ### The voice of a PLAY -/

section Play

variable {s : State} {p : PlaySpec} {owner : Owner} {reg : Region}

theorem regionAt_eq {k : Nat} (h : s.smi.regions[k]? = some reg) : regionAt s k = reg := by
  simp [regionAt, h]

/-- A word check passed puts the in word before the end of the play (R24). -/
theorem inWord_lt_of_wordCheck (hreg : s.smi.regions[p.region]? = some reg)
    (h : wordCheck s.smi.regions (.play p) = true) : p.inWord < p.out.getD reg.len := by
  rw [wordCheck, hreg] at h
  simp only [wordsFit, Bool.and_eq_true, decide_eq_true_eq] at h
  exact h.1.2

theorem takeFree_play (hreg : s.smi.regions[p.region]? = some reg) (h : p.inWord < p.out.getD reg.len)
    (v : VoiceNo) : takeFree (p.request owner) v s = s.setVoice v (freshVoice p owner reg.len s.timing.showClock) := by
  have lt : (p.request owner).inWord < (p.request owner).out.getD (regionAt s (p.request owner).region).len := by
    rw [show regionAt s (p.request owner).region = reg from regionAt_eq hreg]
    exact h
  rw [takeFree_eq lt, started_eq, AllocReq.record, show regionAt s (p.request owner).region = reg from regionAt_eq hreg]
  rfl

theorem stealVoice_play (hreg : s.smi.regions[p.region]? = some reg) (v : VoiceNo) :
    stealVoice (p.request owner) v s = { s with
      fades := s.fades.filter fun e => e.target != .voice v,
      stream := { s.stream with
        voices := s.stream.voices.set v (stolenVoice p owner reg.len s.timing.showClock (s.voice v)) } } := by
  have stolen : ({ (p.request owner).record s with
      state := .reclaiming (s.voice v).stealPos (s.voice v).dest (s.voice v).level false,
      level := (s.voice v).level, fifo := (s.voice v).stealFifo } : Voice) =
      stolenVoice p owner reg.len s.timing.showClock (s.voice v) := by
    rw [AllocReq.record, show regionAt s (p.request owner).region = reg from regionAt_eq hreg, stolenVoice,
      Voice.stealPos, Voice.stealFifo]
    cases (s.voice v).state <;> rfl
  rw [← stolen]
  rfl

/-- A request that carries a well-formed PLAY, and one that carries none (R71). -/
theorem readPlayRequest_words {w : ActionWords} (hp : PlayOk p) (hw : w = (Action.play p).words) :
    readPlayRequest w s = check (wordCheck s.smi.regions (.play p)) p := by
  have code : bitsAt (Action.play p).words.a0 24 8 = 1 := by
    rw [bitsAt_eq, Action.words, toNat_wordOf8]
    omega
  rw [readPlayRequest, hw, if_pos code, readPlay_words hp]

theorem readPlayRequest_none {w : ActionWords} (h : bitsAt w.a0 24 8 ≠ 1 ∨ readPlay w = none) :
    readPlayRequest w s = none := by
  rw [readPlayRequest]
  split
  · next hcode =>
    rw [h.resolve_left (not_not.mpr hcode)]
  · rfl

end Play

/-- PLAY past the store and the show state (R71). -/
theorem playBody_ready {w : ActionWords} {s : State} (hready : s.store.state = .ready)
    (hshow : s.showStop.state ≠ .stopped) : playBody w s =
    match readPlayRequest w s with
    | none => refuse .badField s
    | some p =>
      if s.smi.regions.length ≤ p.region then refuse .badReference s
      else match allocateScan (p.request .orphan) s with
        | some r => acceptWith (u8 r.2.val) r.1
        | none => refuse .voiceShortage s := by
  unfold playBody
  rw [hready]
  exact if_neg hshow

end Sys2Proof.Machine

namespace Sys2Proof.Proofs
open Sys2Proof.Machine

/-- Settles O43: the checks in order, then the FREE voice, the victim by its owner, or none. -/
theorem playTaken : Obligations.PlayTaken := by
  intro tag w s hs
  obtain ⟨t, ht⟩ : ∃ t, t = reloadPresence .console s := ⟨_, rfl⟩
  have regions : t.smi.regions = s.smi.regions := by rw [ht, reloadPresence_smi]
  have voices : ∀ v, t.voice v = s.voice v := fun v => by rw [ht, voice_reloadPresence]
  have clock : t.timing.showClock = s.timing.showClock := by rw [ht, reloadPresence_timing]
  have answers : ∀ {u : State} {r : Result} {payload : List Byte}, playBody w t = (u, { result := r, payload := payload }) →
      exec (.play .console tag w) s = answered .console 0x30 tag r payload u := fun h =>
    next_serve_of_serves hs tag (by rw [← ht]; exact h)
  rw [← ht]
  refine ⟨fun h => answers ?_, fun h => answers ?_, fun hready hstop => answers ?_, fun hready hshow => ?_⟩
  · unfold playBody
    rw [show t.store.state = .noShow by rw [ht, reloadPresence_store, h]]
    rfl
  · unfold playBody
    rw [show t.store.state = .loading by rw [ht, reloadPresence_store, h]]
    rfl
  · unfold playBody
    rw [show t.store.state = .ready by rw [ht, reloadPresence_store, hready]]
    exact if_pos (by rw [ht, reloadPresence_showStop, hstop])
  · have body := playBody_ready (w := w) (s := t) (by rw [ht, reloadPresence_store, hready])
      (by rw [ht, reloadPresence_showStop]; exact hshow)
    refine ⟨fun hbad => answers ?_, fun p hp hw => ⟨fun hcheck => answers ?_, fun hregion => ?_, fun reg hreg hcheck => ?_⟩⟩
    · rw [body, readPlayRequest_none hbad]
      rfl
    · rw [body, readPlayRequest_words hp hw, regions, hcheck]
      rfl
    · have unchecked : wordCheck t.smi.regions (.play p) = true := by
        rw [wordCheck, regions, List.getElem?_eq_none hregion]
      refine answers ?_
      rw [body, readPlayRequest_words hp hw, unchecked]
      exact if_pos (by rw [regions]; exact hregion)
    · have hreg' : t.smi.regions[p.region]? = some reg := by rw [regions]; exact hreg
      have hcheck' : wordCheck t.smi.regions (.play p) = true := by rw [regions]; exact hcheck
      have known : ¬ t.smi.regions.length ≤ p.region := Nat.not_le.mpr (List.getElem?_eq_some_iff.mp hreg').1
      have allocates : ∀ r, allocateScan (p.request .orphan) t = r → playBody w t = match r with
          | some r => acceptWith (u8 r.2.val) r.1
          | none => refuse .voiceShortage t := by
        rintro r rfl
        rw [body, readPlayRequest_words hp hw, hcheck']
        exact if_neg known
      refine ⟨fun v hv hfirst => answers ?_, fun hnone => ⟨fun v x u hx hcand hbest hu => ?_, fun hcand => answers ?_⟩⟩
      · rw [allocates _ (allocateScan_free (v := v) (by rw [voices]; exact hv) fun u hu => by rw [voices]; exact hfirst u hu),
          takeFree_play hreg' (inWord_lt_of_wordCheck hreg' hcheck'), clock]
        rw [ht, State.setVoice, reloadPresence_stream]
        rfl
      · have none' : ∀ v, (t.voice v).state ≠ .free := fun v => by rw [voices]; exact hnone v
        have cand' : (t.voice v).candidate p.priority = true := by rw [voices, ← hx]; exact hcand
        have best' : ∀ u, u ≠ v → (t.voice u).candidate p.priority = true → TakenBefore t v u := fun u hu hc => by
          have before := hbest u hu (by rw [← voices]; exact hc)
          unfold TakenBefore at before ⊢
          rw [voices, voices, clock]
          exact before
        have stolen : stealVoice (p.request .orphan) v t = u := by
          rw [stealVoice_play hreg', hu, hx, voices, clock]
          rw [ht, reloadPresence_fades, reloadPresence_stream]
        refine ⟨fun horphan => answers ?_, fun i c htable hi howner hphase hfollow honly => answers ?_⟩
        · rw [allocates _ (allocateScan_orphan none' cand' best' (by rw [voices, ← hx]; exact horphan)), stolen]
          rfl
        · have useq : u.seq = s.seq := by
            rw [hu, ht]
            exact reloadPresence_seq .console s
          have alone : ∀ w, (u.voice w).ownedByInst i.id = false := by
            intro w
            rw [← stolen]
            by_cases hw : w = v
            · rw [hw, voice_stealVoice_self]
              rfl
            · rw [voice_stealVoice_ne hw, voices]
              exact honly w hw
          rw [allocates _ (allocateScan_inst none' cand' best' (by rw [voices, ← hx]; exact howner)), stolen,
            checkEnd_leaves (by rw [TableOk, useq]; exact htable) (by rw [useq]; exact hi) hphase hfollow alone, useq]
          rfl
      · rw [allocates _ (allocateScan_none (fun v => by rw [voices]; exact hnone v) fun v => by rw [voices]; exact hcand v)]
        rfl

end Sys2Proof.Proofs
end

section
/-! SUPPORT. The end of a call that has lost its voice, by the voice becoming FREE or by a steal (R151, R152, R154); then
the obligation of STOP VOICE. -/

namespace Sys2Proof.Machine

/-! ### The end of a call without a voice -/

section Voiceless

variable {s t : State} {v : VoiceNo} {c : Call} {id : Nat}

theorem voiceOfCall_none (h : ∀ v, (s.voice v).owner ≠ .call id) : voiceOfCall s id = none := by
  rw [voiceOfCall, List.find?_eq_none]
  intro v _
  simpa [Voice.ownedByCall] using h v

/-- A call that owns no voice leaves the tails as they are. -/
theorem tails_endCallCore (hvoice : voiceOfCall s id = none) (reason : CallEnd) :
    (endCallCore id reason s).relay.tails = s.relay.tails := by
  unfold endCallCore
  split
  · rfl
  · rw [hvoice]
    dsimp only
    show (if isPlaying id s then releaseZones _ (removeCall id s) else removeCall id s).relay.tails = _
    split
    · rw [(ducksMove_releaseZones _ _).relay]
      rfl
    · rfl

theorem callOf_playing (h : s.relay.playing.find? (fun d => d.id == id) = some c) : callOf id s = some c := by
  rw [callOf, List.find?_append, h, Option.some_or]

theorem id_of_playing (h : s.relay.playing.find? (fun d => d.id == id) = some c) : c ∈ s.relay.playing ∧ c.id = id :=
  ⟨List.mem_of_find?_eq_some h, by simpa using List.find?_some h⟩

theorem callOf_none (h : ∀ d ∈ s.relay.playing ++ s.relay.waiting, d.id ≠ id) : callOf id s = none := by
  rw [callOf, List.find?_eq_none]
  intro d hd
  simpa using h d hd

theorem fadeLoad_freeVoice_le (v : VoiceNo) (s : State) : fadeLoad duckTargets (freeVoice v s) ≤ fadeLoad duckTargets s :=
  fadeLoad_removeFade_le duckTargets_nodup (.voice v) s

/-- Where a call has lost its only voice to FREE, and no call waits, the end of the call is all that follows (R154). -/
theorem endCall_freed (hc : s.relay.playing.find? (fun d => d.id == c.id) = some c) (hwaiting : s.relay.waiting = [])
    (honly : ∀ u, u ≠ v → (s.voice u).owner ≠ .call c.id) (reason : CallEnd) :
    ∃ t, endCall c.id reason (freeVoice v s) = t ∧ t.voice v = Voice.freeRecord ∧ (∀ u, u ≠ v → t.voice u = s.voice u) ∧
      t.relay.waiting = [] ∧ t.relay.playing = s.relay.playing.filter (fun d => d.id != c.id) ∧
      t.relay.tails = s.relay.tails.filter (fun tl => tl.voice != v) ∧ Newest (callEndedEvent c reason) t ∧
      callOf c.id t = none ∧ ∀ z : ZoneNo, c.zones.getLsbD z = true → Released z s t := by
  have found : callOf c.id (freeVoice v s) = some c := callOf_playing (s := freeVoice v s) hc
  have voiceless : voiceOfCall (freeVoice v s) c.id = none := voiceOfCall_none fun u => by
    by_cases hu : u = v
    · rw [hu, voice_freeVoice_self]
      exact nofun
    · rw [voice_freeVoice_ne hu]
      exact honly u hu
  have leaves := callLeaves_endCallCore found reason
  obtain ⟨ended, emptied⟩ := endCall_eq found (s := freeVoice v s)
    (by rw [show (freeVoice v s).relay.waiting = [] from hwaiting]; exact fun d hd => absurd hd List.not_mem_nil) reason
  have stands : ∀ u, (endCallCore c.id reason (freeVoice v s)).voice u = (freeVoice v s).voice u := fun u =>
    (leaves.others u (by rw [voiceless]; exact nofun)).1
  have playing : (endCallCore c.id reason (freeVoice v s)).relay.playing =
      s.relay.playing.filter (fun d => d.id != c.id) := by
    rw [leaves.same]
    rfl
  refine ⟨_, ended, (stands v).trans (voice_freeVoice_self v s), fun u hu => (stands u).trans (voice_freeVoice_ne hu s),
    emptied, playing, (tails_endCallCore voiceless reason).trans rfl, leaves.newest, callOf_none fun d hd => ?_,
    fun z hz => ?_⟩
  · rw [emptied, List.append_nil, playing] at hd
    simpa using (List.mem_filter.mp hd).2
  · refine (ReleasedAt.of_stands (s := s) (t := freeVoice v s)
      ⟨rfl, fadeFor_removeFade_ne (U := .voice v) nofun⟩ rfl (fadeLoad_freeVoice_le v s)
      (leaves.released ?_ z hz)).released
    exact (isPlaying_iff found).mpr (List.mem_of_find?_eq_some hc)

end Voiceless

/-! ### A recorded call that steals the voice of another (R68, R150, R151, R154) -/

section Steal

variable {s t : State} {v : VoiceNo} {c d : Call}

theorem scanFuel_nil (h : s.relay.waiting = []) (n : Nat) : scanFuel n s = s := by
  cases n with
  | zero => rfl
  | succ n =>
    rw [scanFuel, h]
    rfl

/-- A single waiting call that may start starts, and where it leaves the queue empty the scan is done. -/
theorem scan_starts_last (h : s.relay.waiting = [c]) (hfree : mayStart c 0 s = true)
    (hlast : (startCall c s).state.relay.waiting = []) : scan s = (startCall c s).state := by
  have starts : scanOnce [c] 0 false s = ((startCall c s).state, (startCall c s).callEnded) := by
    rw [scanOnce, if_pos hfree]
    rfl
  rw [scan, scanFuel, h, starts]
  dsimp only
  split
  · exact scanFuel_nil hlast _
  · rfl

/-- The state of a steal from a call before the call ends: the voice is RECLAIMING for the new work, and makes a tail on
the call's zones (R68, R151). -/
def stolenFromCall (r : AllocReq) (v : VoiceNo) (d : Call) (s : State) : State :=
  { stealVoice r v s with
    relay := { s.relay with tails := s.relay.tails ++ [{ voice := v, zones := d.zones, page := d.page }] } }

/-- The state in which a recorded call that steals a call's voice begins. -/
def callRobbed (r : AllocReq) (v : VoiceNo) (d : Call) (s : State) : State :=
  endCallCore d.id .voiceLost (stolenFromCall r v d s)

theorem tellVictim_call (r : AllocReq) (howner : (s.voice v).owner = .call d.id)
    (hd : s.relay.playing.find? (fun e => e.id == d.id) = some d) :
    tellVictim (s.voice v) v (stealVoice r v s) = (callRobbed r v d s, true) := by
  have found : callOf d.id (stealVoice r v s) = some d := callOf_playing (s := stealVoice r v s) hd
  rw [tellVictim, howner]
  dsimp only
  rw [found]
  rfl

theorem voice_stolenFromCall (r : AllocReq) (v : VoiceNo) (d : Call) (s : State) (u : VoiceNo) :
    (stolenFromCall r v d s).voice u = (stealVoice r v s).voice u := rfl

/-- What the end of the robbed call leaves. -/
theorem callLeaves_callRobbed (r : AllocReq) (v : VoiceNo) (hd : s.relay.playing.find? (fun e => e.id == d.id) = some d) :
    CallLeaves d.id d .voiceLost (stolenFromCall r v d s) (callRobbed r v d s) :=
  callLeaves_endCallCore (s := stolenFromCall r v d s) (callOf_playing (s := stolenFromCall r v d s) hd) .voiceLost

/-- The robbed call owns no voice any more. -/
theorem voiceOfCall_stolenFromCall (r : AllocReq) (hr : r.owner ≠ .call d.id)
    (honly : ∀ u, u ≠ v → (s.voice u).owner ≠ .call d.id) : voiceOfCall (stolenFromCall r v d s) d.id = none :=
  voiceOfCall_none fun u => by
    rw [voice_stolenFromCall]
    by_cases hu : u = v
    · rw [hu, voice_stealVoice_self]
      exact hr
    · rw [voice_stealVoice_ne hu]
      exact honly u hu

/-- A recorded call that may start, where every voice is busy and its victim is another call's voice, begins from the
state that the end of that call leaves. -/
theorem begun_scan_robbing {region inWord : Nat} {out : Option Nat} {r : AllocReq}
    (hr : r = callAlloc c.id region inWord out) (hwaiting : s.relay.waiting = [c])
    (hfree : ∀ e ∈ s.relay.playing, e.id ≠ c.id) (hmay : mayStart c 0 s = true)
    (hsource : c.source = .recorded region inWord out) (hnone : ∀ v, (s.voice v).state ≠ .free)
    (hv : (s.voice v).candidate 3 = true)
    (hbest : ∀ u, u ≠ v → (s.voice u).candidate 3 = true → TakenBefore s v u) (howner : (s.voice v).owner = .call d.id)
    (hd : s.relay.playing.find? (fun e => e.id == d.id) = some d) :
    scan s = beginCall c (some v) (callRobbed r v d s) ∧ Begun c (some v) (callRobbed r v d s) (scan s) := by
  obtain ⟨hmem, -⟩ := id_of_playing hd
  have leaves := callLeaves_callRobbed r v hd
  have allocated : allocate r s = some { state := callRobbed r v d s, voice := v, callEnded := true } := by
    rw [allocate_steal hnone (by rw [hr]; exact hv) (by rw [hr]; exact hbest), tellVictim_call r howner hd]
  have starts : startCall c s = { state := beginCall c (some v) (callRobbed r v d s), started := true, callEnded := true } := by
    unfold startCall
    rw [hsource]
    dsimp only
    rw [← hr, allocated]
  have waiting : (callRobbed r v d s).relay.waiting = [c] := by
    rw [leaves.same]
    show s.relay.waiting.filter (fun e => e.id != d.id) = _
    rw [hwaiting]
    exact List.filter_cons_of_pos (by simpa using (hfree d hmem).symm)
  have playing : ∀ e ∈ (callRobbed r v d s).relay.playing, e.id ≠ c.id := by
    rw [leaves.same]
    exact fun e he => hfree e (List.mem_filter.mp he).1
  have begun := begun_beginCall waiting playing (some v)
  have done : scan s = beginCall c (some v) (callRobbed r v d s) := by
    rw [scan_starts_last hwaiting hmay (by rw [starts]; exact begun.waiting), starts]
  exact ⟨done, by rw [done]; exact begun⟩

/-- The start of a call leaves the tails. -/
theorem tails_beginCall (c : Call) (v : Option VoiceNo) (s : State) : (beginCall c v s).relay.tails = s.relay.tails := by
  unfold beginCall
  dsimp only
  show (attackZones _ _ _ _).relay.tails = _
  rw [(ducksMove_attackZones _ _ _ _).relay]
  rfl

end Steal

/-- A recorded call that joins the queue on zones that are free, where every voice is busy and its victim is another
playing call's voice: that call ends VOICE_LOST with a tail, and the new one begins with the voice (R68, R151). -/
theorem Joins.steals {s : State} {c₀ c d : Call} {p : CallPayload} {v : VoiceNo} {x : Voice} (h : Joins c₀ s c)
    (hsource : c.source = recordedOf p)
    (hpresent : ∀ z : ZoneNo, c.zones.getLsbD z = true → ∃ zn, s.zone? z = some zn ∧ zn.carried = none)
    (hapart : d.zones &&& c.zones = 0) (hnone : ∀ w, (s.voice w).state ≠ .free) (hx : x = s.voice v)
    (hcand : x.candidate 3 = true) (hbest : ∀ u, u ≠ v → (s.voice u).candidate 3 = true → TakenBefore s v u)
    (howner : x.owner = .call d.id) (hd : s.relay.playing.find? (fun e => e.id == d.id) = some d)
    (honly : ∀ u, u ≠ v → (s.voice u).owner ≠ .call d.id) {t : State} (ht : t = scan (queued c₀ s)) :
    isPlaying c.id t = true ∧ callOf d.id t = none ∧ Raised (callEnded d 2) t ∧
      { voice := v, zones := d.zones, page := d.page } ∈ t.relay.tails ∧
      (t.voice v).owner = .call c.id ∧ (t.voice v).dest = .call ∧
      (∃ q, (t.voice v).state = .reclaiming q x.dest x.level false) ∧
      (∀ z : ZoneNo, d.zones.getLsbD z = true → Released z s t) ∧
      ∀ z : ZoneNo, c.zones.getLsbD z = true → ∃ zn, t.zone? z = some zn ∧ zn.carried = some c.id ∧ zn.phase = .ducked := by
  obtain ⟨dMem, -⟩ := id_of_playing hd
  obtain ⟨q, hq⟩ : ∃ q, q = queued c₀ s := ⟨_, rfl⟩
  have qPlaying : q.relay.playing = s.relay.playing := by rw [hq]; rfl
  have qZones : ∀ z, q.zone? z = s.zone? z := fun z => by rw [hq]; rfl
  have qVoices : ∀ v, q.voice v = s.voice v := fun v => by rw [hq]; rfl
  have unused : ∀ e ∈ q.relay.playing, e.id ≠ c.id := by rw [hq]; exact h.free
  have may : mayStart c 0 q = true := by
    rw [hq]
    refine Joins.mayStart_clear fun z zn hz hzn => ?_
    obtain ⟨zn', hzn', hcarried⟩ := hpresent z hz
    rw [hzn'] at hzn
    exact Option.some.inj hzn ▸ hcarried
  obtain ⟨r, hr⟩ : ∃ r, r = callAlloc c.id p.region.toNat p.inWord.toNat
      (if p.outWord = 0 then none else some p.outWord.toNat) := ⟨_, rfl⟩
  have dFound : q.relay.playing.find? (fun e => e.id == d.id) = some d := by rw [qPlaying]; exact hd
  obtain ⟨scanned, begun⟩ := begun_scan_robbing (v := v) (d := d) hr (by rw [hq]; exact h.queue) unused may hsource
    (fun w => by rw [qVoices]; exact hnone w) (by rw [qVoices, ← hx]; exact hcand) (fun w hw hcw => by
      have before := hbest w hw (by rw [← qVoices]; exact hcw)
      unfold TakenBefore at before ⊢
      rw [qVoices, qVoices, show q.timing = s.timing by rw [hq]; rfl]
      exact before) (by rw [qVoices, ← hx]; exact howner) dFound
  have leaves := callLeaves_callRobbed r v dFound
  have rOwner : r.owner = .call c.id := by rw [hr]; rfl
  have other : d.id ≠ c.id := unused d (by rw [qPlaying]; exact dMem)
  have voiceless : voiceOfCall (stolenFromCall r v d q) d.id = none := voiceOfCall_stolenFromCall r
    (by rw [rOwner]; exact fun e => other (Owner.call.inj e).symm) fun w hw => by rw [qVoices]; exact honly w hw
  have stolen : (scan q).voice v = (stealVoice r v q).voice v := by
    rw [State.voice, begun.stream]
    exact (leaves.others v (by rw [voiceless]; exact nofun)).1
  have robbedPlaying : (callRobbed r v d q).relay.playing = s.relay.playing.filter (fun e => e.id != d.id) := by
    rw [leaves.same]
    exact congrArg (List.filter _) qPlaying
  have apart : ∀ z : ZoneNo, d.zones.getLsbD z = true → c.zones.getLsbD z = false := by
    intro z hz
    have none := congrArg (fun b : BitVec 16 => b.getLsbD z.val) hapart
    simpa [hz] using none
  rw [ht, ← hq]
  refine ⟨begun.isPlaying, callOf_none fun e he => ?_, ?_, ?_, ?_, ?_, ?_, fun z hz => ?_, fun z hz => ?_⟩
  · rw [begun.waiting, List.append_nil, begun.playing, robbedPlaying] at he
    rcases List.mem_append.mp he with he | he
    · simpa using (List.mem_filter.mp he).2
    · rw [List.mem_singleton.mp he]
      exact fun e => other e.symm
  · obtain ⟨es, hes⟩ := begun.events
    exact leaves.newest.raised.receives begun.timing hes
  · rw [scanned, tails_beginCall, show (callRobbed r v d q).relay.tails = _ from tails_endCallCore voiceless .voiceLost]
    exact List.mem_append_right _ (List.mem_singleton_self _)
  · rw [stolen, voice_stealVoice_self]
    exact rOwner
  · rw [stolen, voice_stealVoice_self, hr]
    rfl
  · refine ⟨(q.voice v).stealPos, ?_⟩
    rw [stolen, voice_stealVoice_self, hx, qVoices]
  · have released := leaves.released ((isPlaying_iff (callOf_playing (s := stolenFromCall r v d q) dFound)).mpr
      (id_of_playing dFound).1) z hz
    have qFades : q.fades = s.fades := by rw [hq]; rfl
    refine ReleasedAt.released (ReleasedAt.of_stands (t := stolenFromCall r v d q) ⟨qZones z, ?_⟩ (by rw [hq]; rfl) ?_
      (released.stands (begun.stands z (apart z hz))))
    · exact (fadeFor_removeFade_ne (s := q) (T := .duck z) (U := .voice v) nofun).trans (fadeFor_congr qFades)
    · exact (fadeLoad_removeFade_le duckTargets_nodup (.voice v) q).trans (fadeLoad_congr qFades).le
  · obtain ⟨zn, hzn, -⟩ := hpresent z hz
    have outside : d.zones.getLsbD z = false := by
      rw [← Bool.not_eq_true]
      exact fun hit => Bool.false_ne_true ((apart z hit).symm.trans hz)
    obtain ⟨b, hb, -, hcarried, hphase, -⟩ := begun.attacked z hz zn
      ((leaves.stands z (.inr outside)).1.trans ((qZones z).trans hzn))
    exact ⟨b, hb, hcarried, hphase⟩

end Sys2Proof.Machine

namespace Sys2Proof.Proofs
open Sys2Proof.Machine

/-- The request of STOP VOICE (R72): the stop by the voice's state, and the end of a call that a STARTING voice frees. -/
theorem stopVoice_taken (tag b : Byte) (fade : Word) (s : State) (hs : Serves .console 0x31 s) :
    (32 ≤ b.toNat →
      exec (.stopVoice .console tag b fade) s = answered .console 0x31 tag .badField [] (reloadPresence .console s)) ∧
    ∀ (v : VoiceNo) (time : Nat), v.val = b.toNat → time = min fade.toNat 600000 →
      ∃ t, exec (.stopVoice .console tag b fade) s =
          answered .console 0x31 tag .accepted (u8 (s.voice v).state.code) t ∧
        ((∀ f id, (s.voice v).state = .starting f → (s.voice v).owner ≠ .call id) →
          StoppedVoice time (s.fades.length < 256) v s t ∧ (∀ u, u ≠ v → t.voice u = s.voice u) ∧
            t.relay.playing = s.relay.playing ∧ t.relay.waiting = s.relay.waiting) ∧
        (0 < time → 256 ≤ s.fades.length → fadeFor (.voice v) s = none →
          ((s.voice v).state = .playing ∨ (s.voice v).state = .starved ∨ (s.voice v).state = .stoppingFade) →
          t.voice v = (s.voice v).ramping ∧ t.fades = s.fades ∧
            Newest { kind := .fadeOverflow, reason := 2, voice := .ofNat 8 v.val, aux1 := 0x8000, aux2 := 5,
                     aux3 := .ofNat 32 time } t) ∧
        ∀ f id c, (s.voice v).state = .starting f → (s.voice v).owner = .call id → s.relay.waiting = [] →
          s.relay.playing.find? (fun d => d.id == id) = some c → (∀ u, u ≠ v → (s.voice u).owner ≠ .call id) →
          t.voice v = Voice.freeRecord ∧ callOf id t = none ∧ Newest (callEnded c 1) t ∧
            ∀ z : ZoneNo, c.zones.getLsbD z = true → Released z s t := by
  obtain ⟨u, hu⟩ : ∃ u, u = reloadPresence .console s := ⟨_, rfl⟩
  have relay : u.relay = s.relay := hu ▸ reloadPresence_relay ..
  have fades : u.fades = s.fades := hu ▸ reloadPresence_fades ..
  have voices : ∀ v, u.voice v = s.voice v := fun v => hu ▸ voice_reloadPresence ..
  refine ⟨fun hbad => next_serve_of_serves hs tag ?_, fun v time hv htime => ?_⟩
  · rw [index?_of_le hbad]
    rfl
  · have clamped : clampTime fade = time := (clampTime_eq fade).trans htime.symm
    refine ⟨stopVoiceOfCall v time u, next_serve_of_serves hs tag ?_, fun hnot => ?_, fun hpos hfull hnone hsounds => ?_,
      fun f id c hstate howner hwaiting hc honly => ?_⟩
    · rw [index?_of_val hv, ← hu]
      dsimp only
      rw [clamped, voices]
      rfl
    · have plain : stopVoiceOfCall v time u = stopVoice v time u := by
        unfold stopVoiceOfCall
        split
        · next f id hstate howner =>
          rw [voices] at hstate howner
          exact absurd howner (hnot f id hstate)
        · rfl
      have calls := (Within.refl 0 u).stopVoice (v := v) (time := time) |>.calls rfl
      rw [plain]
      refine ⟨?_, fun w hw => (voice_stopVoice_ne hw time u).trans (voices w), by rw [calls, relay], by rw [calls, relay]⟩
      exact (stoppedVoice_stopVoice (room := s.fades.length < 256) fun h => .inr (by rw [fades]; exact h)).of_stands
        ⟨voices v, fadeFor_congr fades⟩
    · have unstarted : ∀ f, (u.voice v).state ≠ .starting f := by
        intro f hf
        rw [voices] at hf
        rcases hsounds with h | h | h <;> · rw [hf] at h; cases h
      have unramped : ∀ p, (u.voice v).state ≠ .stoppingRamp p := by
        intro p hp
        rw [voices] at hp
        rcases hsounds with h | h | h <;> · rw [hp] at h; cases h
      have plain : stopVoiceOfCall v time u = postStopFade (stopFade v time) v u := by
        have fading : stopVoice v time u = postStopFade (stopFade v time) v u := by
          rcases hsounds with h | h | h <;>
            (rw [← voices] at h
             unfold stopVoice
             rw [h]
             exact if_neg hpos.ne')
        rw [← fading]
        unfold stopVoiceOfCall
        split
        · next f id hstate _ => exact absurd hstate (unstarted f)
        · rfl
      rw [plain]
      rcases postStopFade_cases hpos v u with ⟨hroom, -⟩ | ⟨-, -, e⟩
      · rw [fadeFor_congr fades, fades, hnone] at hroom
        exact absurd (hroom.resolve_left (by simp)) (Nat.not_lt.mpr hfull)
      · rw [e]
        refine ⟨(voice_startRamp (s := raise (stopFade v time).overflow u) unramped).trans ?_, ?_, ?_⟩
        · rw [voice_raise, voices]
        · rw [startRamp_fades]
          exact fades
        · rw [startRamp_eq (s := raise (stopFade v time).overflow u) unramped]
          exact newest_raise (stopFade v time).overflow u
    · obtain ⟨hmem, rfl⟩ := id_of_playing hc
      have freed : stopVoiceOfCall v time u = endCall c.id .voiceStopped (freeVoice v u) := by
        unfold stopVoiceOfCall stopVoice freeAndCheck
        rw [voices, hstate, howner]
        rfl
      obtain ⟨t, ht, hfree, -, -, -, -, hnewest, hgone, hreleased⟩ := endCall_freed (s := u) (v := v)
        (by rw [relay]; exact hc) (by rw [relay]; exact hwaiting) (fun w hw => by rw [voices]; exact honly w hw) .voiceStopped
      rw [freed, ht]
      exact ⟨hfree, hgone, hnewest, fun z hz => (hreleased z hz).of_eq relay fades⟩

/-- A call whose voice becomes FREE ends (R152, R154), by whichever of the four rows. -/
theorem callEnds_with_voice (s : State) (v : VoiceNo) (x : Voice) (c : Call) (i : Instr) (reason : Byte)
    (hrun : s.timing.inReset = false) (hx : x = s.voice v) (howner : x.owner = .call c.id) (hwaiting : s.relay.waiting = [])
    (hc : s.relay.playing.find? (fun d => d.id == c.id) = some c) (honly : ∀ u, u ≠ v → (s.voice u).owner ≠ .call c.id)
    (how : (x.state = .playing ∨ x.state = .stoppingFade) ∧ x.exhausted = true ∧ x.fifo = [] ∧ i = .voiceNaturalEnd v ∧
        reason = 0 ∨
      (∃ e, fadeFor (.voice v) s = some e ∧ e.due = true ∧ e.action = .stopVoice ∧ e.goal = .off) ∧
        i = .fadeComplete (.voice v) ∧ reason = 1 ∨
      (∃ p, x.state = .stoppingRamp p ∧ 240 ≤ p) ∧ i = .declickRampEnd v ∧ reason = 1 ∨
      (∃ p d g, x.state = .reclaiming p d g true ∧ 240 ≤ p) ∧ i = .reclaimRampEnd v ∧ reason = 1) :
    ∃ t, exec i s = .next t ∧ t.voice v = Voice.freeRecord ∧ (∀ u, u ≠ v → t.voice u = s.voice u) ∧
      t.relay.waiting = [] ∧ t.relay.playing = s.relay.playing.filter (fun d => d.id != c.id) ∧
      t.relay.tails = s.relay.tails.filter (fun tl => tl.voice != v) ∧ Newest (callEnded c reason) t ∧
      ∀ z : ZoneNo, c.zones.getLsbD z = true → Released z s t := by
  obtain ⟨why, hwhy, hexec⟩ : ∃ why : CallEnd, BitVec.ofNat 8 why.code = reason ∧
      exec i s = .next (endCall c.id why (freeVoice v s)) := by
    have occurs : ∀ f : State → State, Host.Outcome.next (occur f s) = (Host.Outcome.next (f s) :
        Host.Outcome State Fault Refusal) := fun f => congrArg Host.Outcome.next (occur_running f s hrun)
    rcases how with ⟨hstate, hex, hfifo, rfl, rfl⟩ | ⟨⟨e, he, hdue, haction, hgoal⟩, rfl, rfl⟩ | ⟨⟨p, hstate, hp⟩, rfl, rfl⟩ |
      ⟨⟨p, d, g, hstate, hp⟩, rfl, rfl⟩
    · refine ⟨.complete, rfl, (occurs (naturalEnd v)).trans (congrArg Host.Outcome.next ?_)⟩
      rw [naturalEnd, ← hx]
      refine (if_pos ((atNaturalEnd_iff x).mpr ⟨hstate, hex, hfifo⟩)).trans ?_
      rw [howner]
      unfold stopSiblings
      split
      · next id' c' hown =>
        rw [howner] at hown
        cases hown
      · rfl
    · refine ⟨.voiceStopped, rfl, (occurs (completeFade (.voice v))).trans (congrArg Host.Outcome.next ?_)⟩
      have target : e.target = .voice v := (fadeFor_some he).2
      have here : (removeFade (.voice v) (s.setVoice v { s.voice v with level := .off })).voice v =
          { s.voice v with level := .off } := State.voice_setVoice_self ..
      rw [completeFade, he]
      refine (if_pos hdue).trans ?_
      rw [runCompletion, haction, target, hgoal]
      show stopVoiceCompletion v (removeFade (.voice v) (s.setVoice v { s.voice v with level := .off })) = _
      rw [stopVoiceCompletion, here, if_pos rfl, ← hx, howner, freeVoice_removeFade_setVoice]
      rfl
    · refine ⟨.voiceStopped, rfl, (occurs (endDeclick v)).trans (congrArg Host.Outcome.next ?_)⟩
      rw [endDeclick, ← hx, hstate, howner]
      exact if_pos hp
    · refine ⟨.voiceStopped, rfl, (occurs (endReclaim v)).trans (congrArg Host.Outcome.next ?_)⟩
      rw [endReclaim, ← hx, hstate, howner]
      exact if_pos hp
  obtain ⟨t, ht, hfree, hothers, hempty, hplaying, htails, hnewest, -, hreleased⟩ := endCall_freed hc hwaiting honly why
  rw [callEndedEvent, hwhy] at hnewest
  exact ⟨t, by rw [hexec, ht], hfree, hothers, hempty, hplaying, htails, hnewest, hreleased⟩

/-- A recorded call that steals the voice of another call (R68, R151, R154). -/
theorem callSteals (tag : Byte) (p : CallPayload) (s : State) (v : VoiceNo) (x : Voice) (reg : Region) (d : Call) (id : Nat)
    (hs : Serves .prompt 0x63 s) (hkind : p.kind = 1) (hzones : p.zones ≠ 0) (hprioLo : 1 ≤ p.priority.toNat)
    (hprioHi : p.priority.toNat ≤ 3) (hpageLo : -300 ≤ p.page.toInt) (hpageHi : p.page.toInt ≤ 60)
    (hdepth : p.depth.toNat ≤ 600) (hregion : p.region.toNat < 1024) (hout : p.outWord = 0)
    (hstore : s.store.state ≠ .loading) (hreg : s.smi.regions[p.region.toNat]? = some reg)
    (hin : p.inWord.toNat < reg.len) (hinWord : p.inWord.toNat < 16777216)
    (hpresent : ∀ z : ZoneNo, p.zones.getLsbD z = true → ∃ zn, s.zone? z = some zn ∧ zn.carried = none)
    (hwaiting : s.relay.waiting = []) (hid : id = s.relay.nextId) (hfree : ∀ e ∈ s.relay.playing, e.id ≠ id)
    (hapart : ∀ e ∈ s.relay.playing, e.zones &&& p.zones = 0) (hnone : ∀ w, (s.voice w).state ≠ .free) (hx : x = s.voice v)
    (hcand : x.candidate 3 = true) (hbest : ∀ u, u ≠ v → (s.voice u).candidate 3 = true → TakenBefore s v u)
    (howner : x.owner = .call d.id) (hd : s.relay.playing.find? (fun e => e.id == d.id) = some d)
    (honly : ∀ u, u ≠ v → (s.voice u).owner ≠ .call d.id) :
    ∃ t, exec (.call .prompt tag p) s = answered .prompt 0x63 tag .accepted (u8 id ++ u8 1) t ∧
      callOf d.id t = none ∧ Raised (callEnded d 2) t ∧ { voice := v, zones := d.zones, page := d.page } ∈ t.relay.tails ∧
      (t.voice v).owner = .call id ∧ (t.voice v).dest = .call ∧
      (∃ q, (t.voice v).state = .reclaiming q x.dest x.level false) ∧
      (∀ z : ZoneNo, d.zones.getLsbD z = true → Released z s t) ∧
      ∀ z : ZoneNo, p.zones.getLsbD z = true → ∃ zn, t.zone? z = some zn ∧ zn.carried = some id ∧ zn.phase = .ducked := by
  obtain ⟨u, hu⟩ : ∃ u, u = reloadPresence .prompt s := ⟨_, rfl⟩
  have relay : u.relay = s.relay := hu ▸ reloadPresence_relay ..
  have fades : u.fades = s.fades := hu ▸ reloadPresence_fades ..
  have store : u.store = s.store := hu ▸ reloadPresence_store ..
  have smi : u.smi = s.smi := hu ▸ reloadPresence_smi ..
  have timing : u.timing = s.timing := hu ▸ reloadPresence_timing ..
  have voices : ∀ v, u.voice v = s.voice v := fun v => hu ▸ voice_reloadPresence ..
  have zones : ∀ z, u.zone? z = s.zone? z := fun z => zone?_congr (by rw [relay])
  obtain ⟨dMem, -⟩ := id_of_playing hd
  have named : Names p (recordedOf p) := .inr ⟨hkind, hregion, hinWord, by rw [hout]; decide, rfl⟩
  have holds : HoldsWords p u := ⟨reg, by rw [smi]; exact hreg, fun _ => hin, fun h => absurd hout h⟩
  obtain ⟨c₀, hc₀⟩ : ∃ c, c = newCall p.priority.toNat (recordedOf p) p.zones p.page.toInt p.depth.toNat .prompt := ⟨_, rfl⟩
  have request : callRequest p = some c₀ :=
    hc₀ ▸ callRequest_some named.callSource ⟨hzones, hprioLo, hprioHi, hpageLo, hpageHi, hdepth⟩
  have c₀Zones : c₀.zones = p.zones := by rw [hc₀]; rfl
  have passes : callRefusal c₀ u = none := by
    have present : ∀ z : ZoneNo, p.zones.getLsbD z = true → z.val < u.relay.zones.length := fun z hz => by
      obtain ⟨zn, hzn, -⟩ := hpresent z hz
      rw [relay]
      exact (List.getElem?_eq_some_iff.mp hzn).1
    have stored := callRefusal_stored (c := c₀) (s := u) (by rw [store]; exact fun _ => hstore)
    rw [c₀Zones, absentZone_none present, show c₀.source = recordedOf p by rw [hc₀]; rfl,
      recordedRefusal_passes named fun _ => holds] at stored
    refine stored.trans (if_neg ?_)
    rw [waitingCount, relay, hwaiting]
    decide
  obtain ⟨c, hc⟩ : ∃ c : Call, c = { c₀ with id := takeCallId u, arrival := u.relay.arrivals } := ⟨_, rfl⟩
  have joins : Joins c₀ u c :=
    ⟨by rw [relay]; exact hwaiting, by rw [relay, ← hid]; exact hfree, hc.symm⟩
  have cId : c.id = id := by rw [joins.id_eq, relay, hid]
  have cZones : c.zones = p.zones := by rw [← joins.zones, c₀Zones]
  have accepted := joins.accepted (by
    rw [relay, cZones]
    exact fun e he => .inr (hapart e he))
  have apart : d.zones &&& c.zones = 0 := by rw [cZones]; exact hapart d dMem
  obtain ⟨playing, gone, raised, tail, owner, dest, state, released, taken⟩ := joins.steals (p := p) (d := d) (v := v)
    (by rw [hc, hc₀]; rfl) (fun z hz => by rw [zones]; exact hpresent z (cZones ▸ hz)) apart
    (fun w => by rw [voices]; exact hnone w) (hx.trans (voices v).symm) hcand (fun w hw hcw => by
      have before := hbest w hw (by rw [← voices]; exact hcw)
      unfold TakenBefore at before ⊢
      rw [voices, voices, timing]
      exact before) howner (by rw [relay]; exact hd) (fun w hw => by rw [voices]; exact honly w hw) rfl
  rw [cId] at accepted playing owner taken
  refine ⟨scan (queued c₀ u), next_serve_of_serves hs tag ?_, gone, raised, tail, owner, dest, state, fun z hz a ha => ?_,
    fun z hz => taken z (cZones ▸ hz)⟩
  · rw [← hu, callBody_accepts request passes, accepted]
    dsimp only
    rw [callStateByte_playing playing]
    rfl
  · have release := released z hz a ((zones z).trans ha)
    rw [relay, fades, fadeFor_congr fades] at release
    exact release

/-- Settles O44, from the request, the four rows that free a call's voice, and the steal by a recorded call. -/
theorem stopVoiceByState : Obligations.StopVoiceByState :=
  ⟨stopVoice_taken, callEnds_with_voice, callSteals⟩

end Sys2Proof.Proofs
end

section
/-! SUPPORT. What a stop makes of the instances that it reaches, one after another, and of their voices (R47, R59); then
the obligation of STOP CUE and STOP ALL. -/

namespace Sys2Proof.Machine

/-! ### The instances after the stop of a voice -/

section Instances

variable {s t u : State} {v : VoiceNo} {id n : Nat}

/-- The table as it was, or without the instance of an id. -/
def LosesAtMost (id : Nat) (is js : List CueInstance) : Prop := js = is ∨ js = is.filter fun i => i.id != id

theorem LosesAtMost.trans {is js ks : List CueInstance} (h : LosesAtMost id is js) (g : LosesAtMost id js ks) :
    LosesAtMost id is ks := by
  rcases h with rfl | rfl
  · exact g
  · rcases g with rfl | rfl
    · exact .inr rfl
    · exact .inr (by rw [List.filter_filter]; simp)

theorem LosesAtMost.mem_iff {is js : List CueInstance} (h : LosesAtMost id is js) {i : CueInstance} (hi : i.id ≠ id) :
    i ∈ js ↔ i ∈ is := by
  rcases h with rfl | rfl
  · exact Iff.rfl
  · simp [List.mem_filter, hi]

theorem LosesAtMost.sublist {is js : List CueInstance} (h : LosesAtMost id is js) : js.Sublist is := by
  rcases h with rfl | rfl
  · exact List.Sublist.refl _
  · exact List.filter_sublist

theorem losesAtMost_checkEnd (id : Nat) (s : State) : LosesAtMost id s.seq.instances (checkEnd id s).seq.instances := by
  unfold checkEnd
  split
  · next i hi =>
    obtain ⟨-, hid⟩ := Within.instOf_mem hi
    split
    · exact .inr (by rw [← hid]; rfl)
    · exact .inl rfl
  · exact .inl rfl

theorem startRamp_seq (v : VoiceNo) (s : State) : (startRamp v s).seq = s.seq := by
  unfold startRamp
  split <;> rfl

theorem postStopFade_seq (hn : 0 < n) (v : VoiceNo) (s : State) : (postStopFade (stopFade v n) v s).seq = s.seq := by
  rcases postStopFade_cases hn v s with ⟨-, e⟩ | ⟨-, -, e⟩
  · rw [e]
    rfl
  · rw [e, startRamp_seq]
    rfl

/-- Only a STARTING voice of an instance gives its owner an end check when it is stopped (R83). -/
theorem stopVoice_seq (h : ∀ f, (s.voice v).state ≠ .starting f) (n : Nat) : (stopVoice v n s).seq = s.seq := by
  have fading : (if n = 0 then startRamp v s else postStopFade (stopFade v n) v s).seq = s.seq := by
    split
    · exact startRamp_seq v s
    · next hn => exact postStopFade_seq (Nat.pos_of_ne_zero hn) v s
  unfold stopVoice
  split
  · rfl
  · next f hf => exact absurd hf (h f)
  · exact fading
  · exact fading
  · split
    · exact (startRamp_seq v (removeFade (.voice v) s)).trans rfl
    · next hn => exact postStopFade_seq (Nat.pos_of_ne_zero hn) v s
  · rfl
  · rfl

theorem stopVoice_starting {f : Option Nat} (h : (s.voice v).state = .starting f) (n : Nat) :
    stopVoice v n s = checkOwner (s.voice v).owner (freeVoice v s) := by
  unfold stopVoice
  rw [h]
  rfl

theorem losesAtMost_stopVoice (hv : (s.voice v).ownedByInst id = true ∨ (s.voice v).owner = .orphan) (n : Nat) :
    LosesAtMost id s.seq.instances (stopVoice v n s).seq.instances := by
  by_cases hstarting : ∃ f, (s.voice v).state = .starting f
  · obtain ⟨f, hf⟩ := hstarting
    rw [stopVoice_starting hf]
    rcases hv with howned | horphan
    · unfold Voice.ownedByInst at howned
      split at howned
      · next i c hown =>
        rw [hown, ← of_decide_eq_true howned]
        exact losesAtMost_checkEnd i (freeVoice v s)
      · cases howned
    · rw [horphan]
      exact .inl rfl
  · rw [stopVoice_seq (fun f hf => hstarting ⟨f, hf⟩)]
    exact .inl rfl

/-- The stop of the voices of one instance ends no other. -/
theorem losesAtMost_stopVoices {vs : List VoiceNo} (hnodup : vs.Nodup)
    (hvs : ∀ v ∈ vs, (s.voice v).ownedByInst id = true ∨ (s.voice v).owner = .orphan) (n : Nat) :
    LosesAtMost id s.seq.instances (stopVoices vs n s).seq.instances := by
  induction vs generalizing s with
  | nil => exact .inl rfl
  | cons w vs ih =>
    obtain ⟨hw, hnodup⟩ := List.nodup_cons.mp hnodup
    obtain ⟨howned, hrest⟩ := List.forall_mem_cons.mp hvs
    refine (losesAtMost_stopVoice howned n).trans (ih hnodup fun v hv => ?_)
    rw [voice_stopVoice_ne (ne_of_mem_of_not_mem hv hw)]
    exact hrest v hv

/-- The stop of orphans ends no instance. -/
theorem instances_stopVoices_orphans {vs : List VoiceNo} (hnodup : vs.Nodup)
    (hvs : ∀ v ∈ vs, (s.voice v).owner = .orphan) (n : Nat) : (stopVoices vs n s).seq.instances = s.seq.instances := by
  induction vs generalizing s with
  | nil => rfl
  | cons w vs ih =>
    obtain ⟨hw, hnodup⟩ := List.nodup_cons.mp hnodup
    obtain ⟨horphan, hrest⟩ := List.forall_mem_cons.mp hvs
    refine (ih hnodup fun v hv => ?_).trans ?_
    · rw [voice_stopVoice_ne (ne_of_mem_of_not_mem hv hw)]
      exact hrest v hv
    · show (stopVoice w n s).seq.instances = _
      by_cases hstarting : ∃ f, (s.voice w).state = .starting f
      · obtain ⟨f, hf⟩ := hstarting
        rw [stopVoice_starting hf, horphan]
        rfl
      · rw [stopVoice_seq (fun f hf => hstarting ⟨f, hf⟩)]

end Instances

/-! ### Instances that a stop reaches (R47, R59) -/

/-- A voice of a RUNNING instance whose id is in a list. -/
def OwnedByRunning (ids : List Nat) (v : VoiceNo) (s : State) : Prop :=
  ∃ i ∈ s.seq.instances, i.id ∈ ids ∧ i.phase ≠ .prewait ∧ (s.voice v).ownedByInst i.id = true

/-- What a stop of the instances of some ids leaves of the table and the voices. -/
structure InstsReached (ids : List Nat) (n : Nat) (s t : State) : Prop where
  nodup : (t.seq.instances.map (·.id)).Nodup
  others : ∀ i, i.id ∉ ids → (i ∈ t.seq.instances ↔ i ∈ s.seq.instances)
  reached : ∀ j ∈ t.seq.instances, j.id ∈ ids → ∃ i ∈ s.seq.instances,
    i.id = j.id ∧ i.phase ≠ .prewait ∧ j = { i with stopped := true, follow := none }
  stopped : ∀ v, OwnedByRunning ids v s → StoppedVoice n (fadeLoad voiceTargets s ≤ 256) v s t
  stands : ∀ v, ¬ OwnedByRunning ids v s → VoiceStands v s t
  load : fadeLoad voiceTargets t ≤ fadeLoad voiceTargets s

section Reach

variable {s t u : State} {v : VoiceNo} {id n : Nat} {i : CueInstance}

theorem mem_voicesOfInst : v ∈ voicesOfInst s id ↔ (s.voice v).ownedByInst id = true := by
  simp [voicesOfInst]

theorem nodup_voicesOfInst (s : State) (id : Nat) : (voicesOfInst s id).Nodup := (List.nodup_finRange 32).filter _

/-- The mark of a reached instance (R59). -/
def CueInstance.reached (i : CueInstance) : CueInstance := { i with stopped := true, follow := none }

theorem ownedByInst_inj {x : Voice} {a b : Nat} (ha : x.ownedByInst a = true) (hb : x.ownedByInst b = true) : a = b := by
  unfold Voice.ownedByInst at ha hb
  split at ha
  · next id c hown =>
    rw [hown] at hb
    exact (of_decide_eq_true ha).symm.trans (of_decide_eq_true hb)
  · cases ha

/-- A stop that reaches an instance in PREWAIT removes it (R47). -/
theorem instsReached_prewait (hnodup : (s.seq.instances.map (·.id)).Nodup) (hi : i ∈ s.seq.instances)
    (hphase : i.phase = .prewait) : InstsReached [i.id] n s (reachInst n i.id s) := by
  have ended : reachInst n i.id s = endInst i 1 s := by
    rw [reachInst, instOf_eq hnodup hi]
    dsimp only
    rw [hphase]
  have table : (reachInst n i.id s).seq.instances = s.seq.instances.filter fun j => j.id != i.id := by
    rw [ended]
    rfl
  rw [ended] at table ⊢
  exact {
    nodup := by
      rw [table]
      exact hnodup.sublist (List.filter_sublist.map _)
    others := fun j hj => by
      rw [table]
      simpa [List.mem_filter] using fun _ => List.ne_of_not_mem_cons hj
    reached := fun j hj hid => by
      rw [table] at hj
      exact absurd (List.mem_singleton.mp hid) (by simpa using (List.mem_filter.mp hj).2)
    stopped := fun v ⟨j, hj, hid, hphase', _⟩ => by
      rw [List.inj_on_of_nodup_map hnodup hj hi (List.mem_singleton.mp hid)] at hphase'
      exact absurd hphase hphase'
    stands := fun v _ => ⟨rfl, rfl⟩
    load := Nat.le_refl _ }

/-- A stop that reaches a RUNNING instance marks it, has its end check, and stops its voices (R59). -/
theorem instsReached_running (hnodup : (s.seq.instances.map (·.id)).Nodup) (hi : i ∈ s.seq.instances)
    (hphase : i.phase ≠ .prewait) : InstsReached [i.id] n s (reachInst n i.id s) := by
  obtain ⟨m, hm⟩ : ∃ m, m = modifyInst i.id CueInstance.reached s := ⟨_, rfl⟩
  obtain ⟨u, hu⟩ : ∃ u, u = checkEnd i.id m := ⟨_, rfl⟩
  have reach : reachInst n i.id s = stopVoices (voicesOfInst s i.id) n u := by
    rw [reachInst, instOf_eq hnodup hi]
    dsimp only
    split
    · next h => exact absurd h hphase
    · rw [hu, hm]
      rfl
  have marked : m.seq.instances = s.seq.instances.map fun j => if j.id = i.id then i.reached else j := by
    rw [hm, modifyInst_eq hnodup hi]
  have voices : ∀ v, VoiceStands v s u := fun v => by
    rw [hu, checkEnd_same, hm]
    exact ⟨rfl, rfl⟩
  have fades : u.fades = s.fades := by
    rw [hu, checkEnd_same, hm]
    rfl
  have loses : LosesAtMost i.id m.seq.instances (reachInst n i.id s).seq.instances := by
    have first := losesAtMost_checkEnd i.id m
    rw [← hu] at first
    rw [reach]
    refine first.trans (losesAtMost_stopVoices (nodup_voicesOfInst s i.id) (fun v hv => .inl ?_) n)
    rw [(voices v).1]
    exact mem_voicesOfInst.mp hv
  have ids : m.seq.instances.map (·.id) = s.seq.instances.map (·.id) := by
    rw [marked, List.map_map]
    refine List.map_congr_left fun j _ => ?_
    show (if j.id = i.id then i.reached else j).id = j.id
    split
    · next h => exact h.symm
    · rfl
  have owned : ∀ v, OwnedByRunning [i.id] v s ↔ v ∈ voicesOfInst s i.id := fun v => by
    rw [mem_voicesOfInst]
    refine ⟨fun ⟨j, hj, hid, _, hown⟩ => List.mem_singleton.mp hid ▸ hown, fun h => ⟨i, hi, List.mem_singleton_self _, hphase, h⟩⟩
  exact {
    nodup := by
      refine List.Nodup.sublist (loses.sublist.map _) ?_
      rw [ids]
      exact hnodup
    others := fun j hj => by
      have hne : j.id ≠ i.id := List.ne_of_not_mem_cons hj
      rw [loses.mem_iff hne, marked, List.mem_map]
      refine ⟨fun ⟨k, hk, hkj⟩ => ?_, fun h => ⟨j, h, if_neg hne⟩⟩
      by_cases hkid : k.id = i.id
      · rw [if_pos hkid] at hkj
        exact absurd (congrArg CueInstance.id hkj.symm) hne
      · rw [if_neg hkid] at hkj
        exact hkj ▸ hk
    reached := fun j hj hid => by
      have hjid : j.id = i.id := List.mem_singleton.mp hid
      have hj := loses.sublist.mem hj
      rw [marked] at hj
      obtain ⟨k, hk, hkj⟩ := List.mem_map.mp hj
      by_cases hkid : k.id = i.id
      · rw [if_pos hkid] at hkj
        exact ⟨i, hi, hjid.symm, hphase, hkj.symm⟩
      · rw [if_neg hkid] at hkj
        exact absurd (hkj ▸ hjid) hkid
    stopped := fun v hv => by
      rw [reach]
      have stop := (stoppedVoice_stopVoices (nodup_voicesOfInst s i.id) ((owned v).mp hv) n u).of_stands (voices v)
      rwa [fadeLoad_congr fades] at stop
    stands := fun v hv => by
      rw [reach]
      exact (voices v).trans (voiceStands_stopVoices (fun h => hv ((owned v).mpr h)) n u)
    load := by
      rw [reach]
      exact (fadeLoad_stopVoices_le _ n u).trans (fadeLoad_congr fades).le }

theorem instsReached_reachInst (hnodup : (s.seq.instances.map (·.id)).Nodup) (hi : i ∈ s.seq.instances) (n : Nat) :
    InstsReached [i.id] n s (reachInst n i.id s) := by
  by_cases hphase : i.phase = .prewait
  · exact instsReached_prewait hnodup hi hphase
  · exact instsReached_running hnodup hi hphase

/-- The stop of one instance and then of others is the stop of them all. -/
theorem InstsReached.cons {ids : List Nat} (hnew : i.id ∉ ids) (h : InstsReached [i.id] n s t) (g : InstsReached ids n t u) :
    InstsReached (i.id :: ids) n s u := by
  have ownedRest : ∀ v, (s.voice v).ownedByInst i.id = false → (OwnedByRunning ids v t ↔ OwnedByRunning ids v s) := by
    intro v hv
    have same : t.voice v = s.voice v := (h.stands v fun ⟨j, _, hid, _, hown⟩ => by
      rw [List.mem_singleton.mp hid, hv] at hown
      cases hown).1
    unfold OwnedByRunning
    rw [same]
    refine exists_congr fun j => ?_
    by_cases hj : j.id ∈ ids
    · rw [h.others j fun hmem => hnew (List.mem_singleton.mp hmem ▸ hj)]
    · simp [hj]
  have notRest : ∀ v, (s.voice v).ownedByInst i.id = true → ¬ OwnedByRunning ids v t := by
    rintro v hv ⟨j, -, hid, -, hown⟩
    have hne : j.id ≠ i.id := fun h => hnew (h ▸ hid)
    by_cases hrun : OwnedByRunning [i.id] v s
    · rcases (h.stopped v hrun).owner with howner | howner
      · rw [Voice.ownedByInst, howner, ← Voice.ownedByInst] at hown
        exact hne (ownedByInst_inj hown hv)
      · rw [Voice.ownedByInst, howner] at hown
        cases hown
    · rw [(h.stands v hrun).1] at hown
      exact hne (ownedByInst_inj hown hv)
  have first : ∀ v, OwnedByRunning [i.id] v s → (s.voice v).ownedByInst i.id = true :=
    fun v ⟨j, _, hid, _, hown⟩ => List.mem_singleton.mp hid ▸ hown
  have split : ∀ v, OwnedByRunning (i.id :: ids) v s ↔ OwnedByRunning [i.id] v s ∨ OwnedByRunning ids v s := fun v => by
    simp only [OwnedByRunning, List.mem_cons, List.not_mem_nil, or_false]
    constructor
    · rintro ⟨j, hj, hid | hid, hrest⟩
      · exact .inl ⟨j, hj, hid, hrest⟩
      · exact .inr ⟨j, hj, hid, hrest⟩
    · rintro (⟨j, hj, hid, hrest⟩ | ⟨j, hj, hid, hrest⟩)
      · exact ⟨j, hj, .inl hid, hrest⟩
      · exact ⟨j, hj, .inr hid, hrest⟩
  exact {
    nodup := g.nodup
    others := fun j hj => by
      rw [List.mem_cons, not_or] at hj
      exact (g.others j hj.2).trans (h.others j fun hmem => hj.1 (List.mem_singleton.mp hmem))
    reached := fun j hj hid => by
      by_cases hrest : j.id ∈ ids
      · obtain ⟨k, hk, hkid, hphase, hmark⟩ := g.reached j hj hrest
        have hne : k.id ∉ [i.id] := fun hmem => hnew (List.mem_singleton.mp hmem ▸ hkid ▸ hrest)
        exact ⟨k, (h.others k hne).mp hk, hkid, hphase, hmark⟩
      · have hfirst : j.id = i.id := (List.mem_cons.mp hid).resolve_right hrest
        exact h.reached j ((g.others j hrest).mp hj) (List.mem_singleton.mpr hfirst)
    stopped := fun v hv => by
      rcases (split v).mp hv with hv | hv
      · exact (h.stopped v hv).stands (g.stands v (notRest v (first v hv)))
      · obtain ⟨j, hj, hid, hphase, hown⟩ := hv
        have unowned : (s.voice v).ownedByInst i.id = false := by
          rw [← Bool.not_eq_true]
          exact fun h => hnew (ownedByInst_inj hown h ▸ hid)
        have stands := h.stands v fun hrun => by
          rw [first v hrun] at unowned
          cases unowned
        exact ((g.stopped v ((ownedRest v unowned).mpr ⟨j, hj, hid, hphase, hown⟩)).of_stands stands).mono h.load.trans
    stands := fun v hv => by
      rw [split, not_or] at hv
      refine (h.stands v hv.1).trans (g.stands v ?_)
      by_cases hown : (s.voice v).ownedByInst i.id = true
      · exact notRest v hown
      · rw [ownedRest v (by simpa using hown)]
        exact hv.2
    load := g.load.trans h.load }

/-- A stop reaches instances of the table one after another. -/
theorem instsReached_reachInsts {is : List CueInstance} (hnodup : (s.seq.instances.map (·.id)).Nodup)
    (his : ∀ i ∈ is, i ∈ s.seq.instances) (hids : (is.map (·.id)).Nodup) (n : Nat) :
    InstsReached (is.map (·.id)) n s (reachInsts n (is.map (·.id)) s) := by
  induction is generalizing s with
  | nil =>
    exact ⟨hnodup, fun _ _ => Iff.rfl, fun j _ h => absurd h List.not_mem_nil,
      fun v ⟨j, _, h, _⟩ => absurd h List.not_mem_nil, fun v _ => VoiceStands.refl v s, Nat.le_refl _⟩
  | cons i is ih =>
    obtain ⟨hi, his⟩ := List.forall_mem_cons.mp his
    obtain ⟨hnew, hids⟩ := List.nodup_cons.mp hids
    have first := instsReached_reachInst hnodup hi n
    refine first.cons hnew (ih first.nodup (fun j hj => ?_) hids)
    refine (first.others j fun hmem => hnew ?_).mpr (his j hj)
    exact List.mem_map.mpr ⟨j, hj, List.mem_singleton.mp hmem⟩

end Reach

/-! ### STOP CUE and STOP ALL (R59, R60) -/

section Stops

variable {s t u : State} {p : CueInstance → Bool} {n : Nat}

theorem fadeLoad_of_room (h : RoomForVoices s) : fadeLoad voiceTargets s ≤ 256 :=
  (fadeLoad_le voiceTargets s).trans h

/-- The stop of the instances that a predicate picks, and of orphans after it, which end no instance. -/
theorem instancesStopped_of_reached (htable : TableOk s) {ids : List Nat}
    (hids : ids = (s.seq.instances.filter p).map (·.id)) (hwithin : Within 0 s t) (h : InstsReached ids n s u)
    (hinsts : t.seq.instances = u.seq.instances)
    (hvoices : ∀ v, (s.voice v).owner ≠ .orphan → VoiceStands v u t) : InstancesStopped p n s t := by
  obtain ⟨-, hnodup, -⟩ := htable
  have picked : ∀ i ∈ s.seq.instances, (i.id ∈ ids ↔ p i = true) := by
    intro i hi
    rw [hids, List.mem_map]
    refine ⟨fun ⟨j, hj, hid⟩ => ?_, fun hp => ⟨i, List.mem_filter.mpr ⟨hi, hp⟩, rfl⟩⟩
    obtain ⟨hj, hpj⟩ := List.mem_filter.mp hj
    exact List.inj_on_of_nodup_map hnodup hj hi hid ▸ hpj
  have reached : ∀ v, OwnedByRunning ids v s ↔ Reached p v s := by
    intro v
    refine exists_congr fun i => and_congr_right fun hi => ?_
    rw [picked i hi]
  have owned : ∀ v, Reached p v s → (s.voice v).owner ≠ .orphan := by
    rintro v ⟨i, -, -, -, hown⟩ horphan
    rw [Voice.ownedByInst, horphan] at hown
    cases hown
  refine ⟨fun i hi hp => ?_, fun j hj => ?_, fun v hv => ?_, fun v hv howner => ?_, ?_, hwithin.store, hwithin.smi, ?_, ?_,
    ?_, ?_, ?_, ?_, hwithin.timing⟩
  · rw [hinsts, h.others i]
    · exact hi
    · rw [picked i hi, hp]
      exact Bool.false_ne_true
  · rw [hinsts] at hj
    by_cases hid : j.id ∈ ids
    · obtain ⟨i, hi, heq, hphase, hmark⟩ := h.reached j hj hid
      exact ⟨i, hi, .inr ⟨(picked i hi).mp (heq ▸ hid), hphase, hmark⟩⟩
    · have hjs := (h.others j hid).mp hj
      exact ⟨j, hjs, .inl ⟨by rw [picked j hjs, Bool.not_eq_true] at hid; exact hid, rfl⟩⟩
  · exact ((h.stopped v ((reached v).mpr hv)).stands (hvoices v (owned v hv))).mono fadeLoad_of_room
  · exact (hvoices v howner).1.trans (h.stands v (by rw [reached]; exact hv)).1
  · have seq := hwithin.seq
    rw [hwithin.ids (by decide)] at seq
    exact seq
  · exact (hwithin.levels (by decide)).1
  · exact (hwithin.levels (by decide)).2.1
  · rw [hwithin.calls rfl]
  · rw [hwithin.calls rfl]
  · rw [hwithin.calls rfl]
  · exact (hwithin.levels (by decide)).2.2

theorem mem_orphans {v : VoiceNo} : v ∈ orphans s ↔ (s.voice v).state ≠ .free ∧ (s.voice v).owner = .orphan := by
  simp [orphans, Voice.busy]

theorem nodup_orphans (s : State) : (orphans s).Nodup := (List.nodup_finRange 32).filter _

theorem instsReached_filter (htable : TableOk s) (p : CueInstance → Bool) (n : Nat) :
    InstsReached ((s.seq.instances.filter p).map (·.id)) n s (reachInsts n ((s.seq.instances.filter p).map (·.id)) s) := by
  obtain ⟨-, hnodup, -⟩ := htable
  exact instsReached_reachInsts hnodup (fun i hi => (List.mem_filter.mp hi).1)
    (hnodup.sublist (List.filter_sublist.map _)) n

/-- A stop of instances leaves every orphan. -/
theorem InstsReached.orphan {ids : List Nat} (h : InstsReached ids n s u) {v : VoiceNo}
    (hv : (s.voice v).owner = .orphan) : VoiceStands v s u :=
  h.stands v fun ⟨i, _, _, _, hown⟩ => by
    rw [Voice.ownedByInst, hv] at hown
    cases hown

/-- The stop of the instances that a predicate picks (R52, R59). -/
theorem instancesStopped_reachInsts (htable : TableOk s) (p : CueInstance → Bool) (n : Nat) :
    InstancesStopped p n s (reachInsts n ((s.seq.instances.filter p).map (·.id)) s) :=
  instancesStopped_of_reached htable rfl (Within.refl 0 s).reachInsts (instsReached_filter htable p n) rfl
    fun v _ => VoiceStands.refl v _

/-- The stop of the instances that a predicate picks, and then of every orphan (R52, R60). -/
theorem instancesStopped_andOrphans (htable : TableOk s) (p : CueInstance → Bool) (n : Nat) :
    let t := stopVoices (orphans s) n (reachInsts n ((s.seq.instances.filter p).map (·.id)) s)
    InstancesStopped p n s t ∧
      ∀ v, (s.voice v).owner = .orphan → StoppedVoice n (RoomForVoices s) v s t := by
  have reached := instsReached_filter htable p n
  obtain ⟨u, hu⟩ : ∃ u, u = reachInsts n ((s.seq.instances.filter p).map (·.id)) s := ⟨_, rfl⟩
  have within : Within 0 s u := hu ▸ (Within.refl 0 s).reachInsts
  rw [← hu] at reached ⊢
  refine ⟨instancesStopped_of_reached htable rfl within.stopVoices reached ?_ fun v hv => ?_, fun v hv => ?_⟩
  · refine instances_stopVoices_orphans (nodup_orphans s) (fun v hv => ?_) n
    obtain ⟨-, horphan⟩ := mem_orphans.mp hv
    rw [(reached.orphan horphan).1]
    exact horphan
  · exact voiceStands_stopVoices (fun h => hv (mem_orphans.mp h).2) n u
  · by_cases hfree : (s.voice v).state = .free
    · have stands := (reached.orphan hv).trans
        (voiceStands_stopVoices (vs := orphans s) (fun h => (mem_orphans.mp h).1 hfree) n u)
      simp only [StoppedVoice, hfree]
      exact stands.1
    · refine ((stoppedVoice_stopVoices (nodup_orphans s) (mem_orphans.mpr ⟨hfree, hv⟩) n u).of_stands
        (reached.orphan hv)).mono fun hroom => ?_
      exact reached.load.trans (fadeLoad_of_room hroom)

/-- The presence reload of a request does not bear on what it stops. -/
theorem InstancesStopped.of_reloadPresence {l : Role} (h : InstancesStopped p n (reloadPresence l s) t)
    : InstancesStopped p n s t := by
  unfold InstancesStopped Reached at h ⊢
  simp only [reloadPresence_seq, reloadPresence_store, reloadPresence_smi, reloadPresence_mix, reloadPresence_foldback,
    reloadPresence_relay, reloadPresence_showStop, reloadPresence_timing, voice_reloadPresence] at h
  obtain ⟨hstand, hreached, hstopped, hrest⟩ := h
  refine ⟨hstand, hreached, fun v hv => ?_, hrest⟩
  have room : RoomForVoices s → RoomForVoices (reloadPresence l s) := by
    unfold RoomForVoices
    rw [reloadPresence_fades]
    exact id
  exact ((hstopped v hv).mono room).of_stands
    ⟨voice_reloadPresence l s v, fadeFor_congr (reloadPresence_fades l s)⟩

theorem stopAllTime_eq {fade : Option Word} {time : Nat} (hnone : fade = none → time = 1000)
    (hsome : ∀ w, fade = some w → time = min w.toNat 600000) : stopAllTime fade = time := by
  cases fade with
  | none => exact (hnone rfl).symm
  | some w => exact (clampTime_eq w).trans (hsome w rfl).symm

end Stops

end Sys2Proof.Machine

namespace Sys2Proof.Proofs
open Sys2Proof.Machine

/-- Settles O40: the instances of the cue or all of them, and after them the orphans. -/
theorem stopsReachInstances : Obligations.StopsReachInstances := by
  intro l tag s htable
  have htable' : TableOk (reloadPresence l s) := by
    rw [TableOk, reloadPresence_seq]
    exact htable
  refine ⟨fun n fade hs => ?_, fun fade time hs hnone hsome => ?_⟩
  · refine ⟨reachInsts (min fade.toNat 600000) (instsOfCue n (reloadPresence l s)) (reloadPresence l s),
      next_serve_of_serves hs tag ?_, (instancesStopped_reachInsts htable' (fun i => i.cue == n) _).of_reloadPresence,
      fun v hv => ?_⟩
    · rw [clampTime_eq]
      have count : (instsOfCue n (reloadPresence l s)).length = s.seq.instances.countP fun i => i.cue == n := by
        rw [instsOfCue, List.length_map, List.countP_eq_length_filter, reloadPresence_seq]
      rw [count]
      rfl
    · refine ((instsReached_filter htable' (fun i => i.cue == n) _).orphan ?_).1.trans (voice_reloadPresence l s v)
      rw [voice_reloadPresence]
      exact hv
  · have stops := instancesStopped_andOrphans htable' (fun _ => true) time
    rw [List.filter_true] at stops
    obtain ⟨hinsts, horphans⟩ := stops
    refine ⟨stopEverything time (reloadPresence l s), next_serve_of_serves hs tag ?_, hinsts.of_reloadPresence, fun v hv => ?_⟩
    · rw [stopAllTime_eq hnone hsome]
      rfl
    · refine ((horphans v (by rw [voice_reloadPresence]; exact hv)).mono fun hroom => ?_).of_stands
        ⟨voice_reloadPresence l s v, fadeFor_congr (reloadPresence_fades l s)⟩
      rw [RoomForVoices, reloadPresence_fades]
      exact hroom

end Sys2Proof.Proofs
end

section
/-! SUPPORT. The dispatch of one action at the end of a pre-wait: the state in which it is handed over and what follows
it (R50, R51), posts one after another (R98), and a voice fade over the voices of a group (R86). -/

namespace Sys2Proof.Machine

/-! ### Before and after the action -/

section Frame

variable {s t : State} {i j : CueInstance} {a : Action} {e : Event}

/-- The state in which the action of an instance is handed over: it is dispatching, and CUE_RUNNING is raised (R51). -/
def dispatching (i : CueInstance) (s : State) : State :=
  raise (instEvent .cueRunning i) (modifyInst i.id (fun j => { j with phase := .dispatching, preWait := 0 }) s)

/-- What follows the actions of an instance that captures no follow: it is RUNNING, and has its end check (R51, R58). -/
def settled (i : CueInstance) (t : State) : State :=
  checkEnd i.id (modifyInst i.id (fun j => { j with phase := .running, follow := none }) t)

theorem dispatching_same (i : CueInstance) (s : State) : dispatching i s =
    { s with seq := { s.seq with instances := (dispatching i s).seq.instances }, links := (dispatching i s).links } := rfl

theorem settled_same (i : CueInstance) (t : State) : settled i t =
    { t with seq := { t.seq with instances := (settled i t).seq.instances }, links := (settled i t).links } := by
  unfold settled
  rw [checkEnd_same]
  rfl

theorem dispatching_instances (i : CueInstance) (s : State) : (dispatching i s).seq.instances =
    (modifyInst i.id (fun j => { j with phase := .dispatching, preWait := 0 }) s).seq.instances := rfl

theorem voice_dispatching (i : CueInstance) (s : State) (v : VoiceNo) : (dispatching i s).voice v = s.voice v := rfl

theorem voiceStands_settled (i : CueInstance) (t : State) (v : VoiceNo) : VoiceStands v t (settled i t) := by
  rw [settled_same]
  exact ⟨rfl, rfl⟩

theorem fadeFor_settled (T : FadeTarget) (i : CueInstance) (t : State) : fadeFor T (settled i t) = fadeFor T t :=
  fadeFor_congr (by rw [settled_same])

/-- An instance without a follow has no follow's delay. -/
theorem followDelay_modifyInst {id : Nat} {f : CueInstance → CueInstance} (hnone : ∀ j, (f j).follow = none) (t : State) : followDelay id (modifyInst id f t) = none := by
  unfold followDelay
  split
  · next k hk =>
    obtain ⟨hk, hid⟩ := Within.instOf_mem hk
    obtain ⟨j, -, rfl⟩ := List.mem_map.mp hk
    split
    · rw [hnone]
      rfl
    · next hne =>
      rw [if_neg hne] at hid
      exact absurd (beq_iff_eq.mpr hid) hne
  · rfl

/-- The end of a pre-wait hands the one action over between the two (R49, R50, R51). -/
theorem exec_prewaitEnd_dispatches (h : Dispatches i a s) :
    exec (.prewaitEnd (.ofNat 8 i.id)) s = .next (settled i (dispatchAction i 1 a (dispatching i s))) := by
  obtain ⟨hrun, ⟨-, hnodup, hids, -⟩, hi, hphase, hwait, -, ⟨c, hc, hactions⟩, hnext⟩ := h
  have byteId : (BitVec.ofNat 8 i.id).toNat = i.id := by
    rw [BitVec.toNat_ofNat]
    exact Nat.mod_eq_of_lt (Nat.lt_succ_of_le (hids i hi).2)
  have found := instOf_eq hnodup hi
  have ends : endPrewait i.id s = runInst i.id s := by
    rw [endPrewait, found]
    exact if_pos ⟨hphase, hwait⟩
  have one : actionsOf i.cue (dispatching i s) = [a] := by
    show actionsOf i.cue s = [a]
    rw [actionsOf, hc]
    exact hactions
  have uncaptured : capturedFollow i.cue (dispatchAction i 1 a (dispatching i s)) = none := by
    refine capturedFollow_none ?_
    rw [((Within.refl 2 (dispatching i s)).dispatchAction (i := i) (pos := 1) (a := a)).store]
    exact hnext
  have runs : enterRunning i.id s = modifyInst i.id (fun j => { j with phase := .running, follow := none })
      (dispatchAction i 1 a (dispatching i s)) := by
    unfold enterRunning
    rw [found]
    show modifyInst i.id (fun j => { j with
        phase := .running
        follow := capturedFollow i.cue (dispatchFrom i 1 (actionsOf i.cue (dispatching i s)) (dispatching i s)) })
      (dispatchFrom i 1 (actionsOf i.cue (dispatching i s)) (dispatching i s)) = _
    rw [one]
    show modifyInst i.id (fun j => { j with
        phase := .running, follow := capturedFollow i.cue (dispatchAction i 1 a (dispatching i s)) }) _ = _
    rw [uncaptured]
    rfl
  have undelayed : followDelay i.id (enterRunning i.id s) = none := by
    rw [runs]
    exact followDelay_modifyInst (fun _ => rfl) _
  refine (congrArg Host.Outcome.next (occur_running _ s hrun)).trans (congrArg Host.Outcome.next ?_)
  rw [byteId, ends, runInst, if_neg (by rw [undelayed]; decide), runs]
  rfl

/-- An event that was raised stays raised whatever a cue does after it. -/
theorem Raised.within {L : Nat} (h : Raised e s) (g : Within L s t) : Raised e t :=
  let ⟨_, _, hlinks⟩ := g.events
  h.receives g.timing hlinks

theorem Raised.settled (h : Raised e t) (i : CueInstance) : Raised e (settled i t) :=
  h.within (L := 2) (Within.refl 2 t).modifyInst.checkEnd

theorem raised_raise (e : Event) (s : State) : Raised e (raise e s) := (newest_raise e s).raised

/-- The table in which an action is handed over: its instance is dispatching. -/
theorem instances_dispatching (h : TableOk s) (hi : i ∈ s.seq.instances) : (dispatching i s).seq.instances =
    s.seq.instances.map fun j => if j.id = i.id then { i with phase := .dispatching, preWait := 0 } else j := by
  obtain ⟨-, hnodup, -⟩ := h
  rw [dispatching_instances, modifyInst_eq hnodup hi]

/-- Writing one instance of a table, under its id, keeps the table in order. -/
theorem tableOk_dispatching (h : TableOk s) (i : CueInstance) : TableOk (dispatching i s) := by
  obtain ⟨hlen, hnodup, hids, hlo, hhi⟩ := h
  have same : ((dispatching i s).seq.instances.map (·.id)) = s.seq.instances.map (·.id) := by
    show (s.seq.instances.map fun j => _).map _ = _
    rw [List.map_map]
    refine List.map_congr_left fun j _ => ?_
    show (if j.id == i.id then { j with phase := .dispatching, preWait := 0 } else j).id = j.id
    split <;> rfl
  refine ⟨?_, by rw [same]; exact hnodup, fun j hj => ?_, hlo, hhi⟩
  · have lengths := congrArg List.length same
    rw [List.length_map, List.length_map] at lengths
    rw [lengths]
    exact hlen
  · have hid : j.id ∈ s.seq.instances.map (·.id) := same ▸ List.mem_map_of_mem hj
    obtain ⟨k, hk, hkj⟩ := List.mem_map.mp hid
    rw [← hkj]
    exact hids k hk

theorem mem_modifyInst_of_ne {id : Nat} {f : CueInstance → CueInstance} (hf : ∀ j, (f j).id = j.id) (hj : j.id ≠ id)
    (s : State) : j ∈ (modifyInst id f s).seq.instances ↔ j ∈ s.seq.instances := by
  show j ∈ s.seq.instances.map (fun k => _) ↔ _
  rw [List.mem_map]
  constructor
  · rintro ⟨k, hk, rfl⟩
    by_cases hid : k.id = id
    · rw [if_pos (by simpa using hid), hf] at hj
      exact absurd hid hj
    · rw [if_neg (by simpa using hid)]
      exact hk
  · exact fun h => ⟨j, h, if_neg (by simpa using hj)⟩

theorem mem_dispatching_of_ne (hj : j.id ≠ i.id) : j ∈ (dispatching i s).seq.instances ↔ j ∈ s.seq.instances := by
  rw [dispatching_instances]
  exact mem_modifyInst_of_ne (by exact fun _ => rfl) hj s

/-- What follows the action concerns its own instance alone. -/
theorem mem_settled_of_ne (hj : j.id ≠ i.id) : j ∈ (settled i t).seq.instances ↔ j ∈ t.seq.instances := by
  rw [settled, (losesAtMost_checkEnd _ _).mem_iff hj]
  exact mem_modifyInst_of_ne (by exact fun _ => rfl) hj t

/-- An instance that owns a voice after its action stands RUNNING. -/
theorem settled_owns {v : VoiceNo} (hv : (t.voice v).ownedByInst i.id = true)
    (hi : { i with phase := .dispatching } ∈ t.seq.instances) (hfollow : i.follow = none) :
    ∃ j ∈ (settled i t).seq.instances, j = { i with phase := .running } := by
  rw [settled, checkEnd_owns (s := modifyInst _ _ t) hv]
  refine ⟨_, List.mem_map_of_mem hi, ?_⟩
  rw [if_pos (beq_self_eq_true i.id), ← hfollow]

end Frame

/-! ### Posts one after another (R98) -/

/-- Posts one after another. -/
def postAll (ps : List Post) (s : State) : State := ps.foldl (fun s p => post p s) s

section Posts

variable {s : State} {p : Post} {ps : List Post} {T : FadeTarget}

/-- A post without a completion and without a report to make. -/
def Post.plain (p : Post) : Prop := p.action = .nothing ∧ p.target ≠ .stopMute

theorem post_now (h : p.plain) (ht : p.time = 0) : post p s = removeFade p.target (setLevel p.target p.goal s) := by
  rw [post, postFade_atOnce_plain ht h.1 h.2]

theorem post_over (ht : 0 < p.time) (hroom : (fadeFor p.target s).isSome = true ∨ s.fades.length < 256) :
    post p s = { s with fades := (post p s).fades } := by
  by_cases hsome : (fadeFor p.target s).isSome = true
  · rw [post, postFade_takenOver ht.ne' hsome]
  · rw [post, postFade_posted ht.ne' (by simpa using hsome) (hroom.resolve_left hsome)]

theorem getLevel_removeFade (T U : FadeTarget) (s : State) : getLevel T (removeFade U s) = getLevel T s := by
  cases T <;> rfl

theorem getLevel_fades (T : FadeTarget) (fs : List FadeEntry) : getLevel T { s with fades := fs } = getLevel T s := by
  cases T <;> rfl

/-- A level that is not a duck is read back as it was written. -/
theorem getLevel_setLevel (h : ∀ z, T ≠ .duck z) (l : Level) (s : State) : getLevel T (setLevel T l s) = l := by
  cases T with
  | crosspoint i o => simp [getLevel, setLevel]
  | trim o => simp [getLevel, setLevel]
  | voice v => simp [getLevel, setLevel]
  | duck z => exact absurd rfl (h z)
  | stopMute => rfl

/-- Posts of time 0 to different targets write their goals (R92). -/
theorem getLevel_postAll (hps : ∀ p ∈ ps, p.plain ∧ p.time = 0) (hnodup : (ps.map (·.target)).Nodup) (s : State) :
    (∀ p ∈ ps, (∀ z, p.target ≠ .duck z) → getLevel p.target (postAll ps s) = p.goal) ∧
      ∀ T, T ∉ ps.map (·.target) → getLevel T (postAll ps s) = getLevel T s := by
  induction ps generalizing s with
  | nil => exact ⟨fun p h => absurd h List.not_mem_nil, fun T _ => rfl⟩
  | cons q ps ih =>
    obtain ⟨⟨hplain, htime⟩, hps⟩ := List.forall_mem_cons.mp hps
    obtain ⟨hnew, hnodup⟩ := List.nodup_cons.mp hnodup
    obtain ⟨written, stands⟩ := ih hps hnodup (post q s)
    have first : ∀ T, getLevel T (post q s) = getLevel T (setLevel q.target q.goal s) := fun T => by
      rw [post_now hplain htime, getLevel_removeFade]
    refine ⟨fun p hp hduck => ?_, fun T hT => ?_⟩
    · rcases List.mem_cons.mp hp with rfl | hp
      · exact (stands _ hnew).trans ((first _).trans (getLevel_setLevel hduck _ s))
      · exact written p hp hduck
    · rw [List.map_cons, List.mem_cons, not_or] at hT
      exact (stands T hT.2).trans ((first T).trans (getLevel_setLevel_ne hT.1 _ s))

/-- Posts over a time to different targets, with room for them all, each stand in the list from the level that stands. -/
theorem postAll_over {Ts : List FadeTarget} (hTs : Ts.Nodup) (hps : ∀ p ∈ ps, 0 < p.time ∧ p.target ∈ Ts)
    (hnodup : (ps.map (·.target)).Nodup) (hload : fadeLoad Ts s ≤ 256) :
    postAll ps s = { s with fades := (postAll ps s).fades } ∧
      (∀ p ∈ ps, fadeFor p.target (postAll ps s) = some (p.entry s)) ∧
      ∀ T, T ∉ ps.map (·.target) → fadeFor T (postAll ps s) = fadeFor T s := by
  induction ps generalizing s with
  | nil => exact ⟨rfl, fun p h => absurd h List.not_mem_nil, fun T _ => rfl⟩
  | cons q ps ih =>
    obtain ⟨⟨htime, hq⟩, hps⟩ := List.forall_mem_cons.mp hps
    obtain ⟨hnew, hnodup⟩ := List.nodup_cons.mp hnodup
    have room := room_of_fadeLoad hload hq
    have first := post_over htime room
    obtain ⟨same, entries, stands⟩ := ih (s := post q s) hps hnodup ((fadeLoad_post_le hTs hq).trans hload)
    refine ⟨?_, fun p hp => ?_, fun T hT => ?_⟩
    · have both : ∀ fs, { post q s with fades := fs } = { s with fades := fs } := fun fs => by rw [first]
      exact same.trans (both _)
    · rcases List.mem_cons.mp hp with rfl | hp
      · exact (stands _ hnew).trans (fadeFor_post_entry htime room)
      · refine (entries p hp).trans (congrArg some ?_)
        rw [first, Post.entry, getLevel_fades]
        rfl
    · rw [List.map_cons, List.mem_cons, not_or] at hT
      exact (stands T hT.2).trans (fadeFor_post_ne hT.1)

end Posts

end Sys2Proof.Machine
end

section
/-! SUPPORT. A voice fade over the voices of a group (R86), and the records of the instances that a stop ends (R47). -/

namespace Sys2Proof.Machine

/-! ### A voice fade reaches one voice (R86) -/

section VoiceFade

variable {s : State} {v w : VoiceNo} {p : Post} {g : Level} {n : Nat} {stopAtEnd : Bool} {vs : List VoiceNo}

/-- The post of a voice fade. -/
def voiceFade (v : VoiceNo) (g : Level) (n : Nat) (action : Completion) : Post :=
  { target := .voice v, goal := g, time := n, action := action, poster := .stream }

theorem voice_post_ne (hp : p.target = .voice v) (h : w ≠ v) (s : State) : (post p s).voice w = s.voice w := by
  have completes : ∀ t, (reportTarget p.target (completeAtOnce p t)).voice w = t.voice w := by
    intro t
    rw [hp]
    show (completeAtOnce p t).voice w = _
    unfold completeAtOnce
    rw [hp]
    cases p.action with
    | nothing => rfl
    | duckReleased => rfl
    | stopVoice => exact voice_startRamp_ne h t
  have writes : ∀ t : State, (setLevel p.target p.goal t).voice w = t.voice w := fun t => by
    rw [hp]
    exact State.voice_setVoice_ne t v w _ h
  unfold post
  rcases postFade_cases p s with ⟨-, e⟩ | ⟨-, -, e⟩ | ⟨-, -, -, e⟩ | ⟨-, -, -, e⟩ <;> rw [e]
  · exact (completes _).trans (writes s)
  · rfl
  · rfl
  · dsimp only
    unfold snapFade
    split
    · next hstop =>
      have ramps : completeAtOnce p (raise p.overflow s) = startRamp v (raise p.overflow s) := by
        rw [completeAtOnce, hstop.1, hp]
      rw [ramps]
      exact voice_startRamp_ne h _
    · exact (completes _).trans (writes s)

theorem postStopFade_fades (p : Post) (v : VoiceNo) (s : State) : (postStopFade p v s).fades = (post p s).fades := by
  unfold postStopFade post
  dsimp only
  split <;> rfl

theorem voice_postStopFade_ne (hp : p.target = .voice v) (h : w ≠ v) (s : State) :
    (postStopFade p v s).voice w = s.voice w := by
  have posts := voice_post_ne hp h s
  unfold postStopFade
  dsimp only
  split
  · exact posts
  · exact (State.voice_setVoice_ne _ v w _ h).trans posts

/-- A fade with stop-at-end that finds an entry of its voice, or room, makes the voice STOPPING (R86). -/
theorem stopFading_postStopFade_level (hn : 0 < n) (hroom : (fadeFor (.voice v) s).isSome = true ∨ s.fades.length < 256)
    (g : Level) : StopFading v g n s (postStopFade (voiceFade v g n .stopVoice) v s) := by
  have entry := fadeFor_post_entry (p := voiceFade v g n .stopVoice) hn hroom
  have taken : postStopFade (voiceFade v g n .stopVoice) v s =
      (post (voiceFade v g n .stopVoice) s).setVoice v
        { (post (voiceFade v g n .stopVoice) s).voice v with state := .stoppingFade } := by
    unfold postStopFade post
    rcases postFade_cases (voiceFade v g n .stopVoice) s with ⟨h0, -⟩ | ⟨-, -, e⟩ | ⟨-, -, -, e⟩ | ⟨-, hnone, hfull, -⟩
    · exact absurd h0 hn.ne'
    · rw [e]
    · rw [e]
    · rw [show fadeFor (.voice v) s = none from hnone] at hroom
      exact absurd (hroom.resolve_left (by simp)) (Nat.not_lt.mpr hfull)
  rw [taken, post_over hn hroom]
  exact ⟨State.voice_setVoice_self .., _, entry, rfl, rfl, rfl, rfl, rfl⟩

/-- A voice fade is about its own voice and that voice's fade alone. -/
theorem fadeOneVoice_leaves (g : Level) (n : Nat) (stopAtEnd : Bool) (v : VoiceNo) (s : State) :
    (∀ w, w ≠ v → VoiceStands w s (fadeOneVoice g n stopAtEnd v s)) ∧
      fadeLoad voiceTargets (fadeOneVoice g n stopAtEnd v s) ≤ fadeLoad voiceTargets s := by
  have other : ∀ {w}, w ≠ v → FadeTarget.voice w ≠ .voice v := fun hw e => hw (FadeTarget.voice.inj e)
  have stands : (∀ w, w ≠ v → VoiceStands w s s) ∧ fadeLoad voiceTargets s ≤ fadeLoad voiceTargets s :=
    ⟨fun w _ => VoiceStands.refl w s, Nat.le_refl _⟩
  have ramps : (∀ w, w ≠ v → VoiceStands w s (startRamp v s)) ∧
      fadeLoad voiceTargets (startRamp v s) ≤ fadeLoad voiceTargets s :=
    ⟨fun w hw => ⟨voice_startRamp_ne hw s, fadeFor_congr (startRamp_fades v s)⟩, (fadeLoad_congr (startRamp_fades v s)).le⟩
  have posts : ∀ (u : State) (a : Completion), u.fades = s.fades → (∀ w, w ≠ v → u.voice w = s.voice w) →
      (∀ w, w ≠ v → VoiceStands w s (post (voiceFade v g n a) u)) ∧
        fadeLoad voiceTargets (post (voiceFade v g n a) u) ≤ fadeLoad voiceTargets s := fun u a hu hv =>
    ⟨fun w hw => ⟨(voice_post_ne rfl hw u).trans (hv w hw), (fadeFor_post_ne (other hw)).trans (fadeFor_congr hu)⟩,
      (fadeLoad_post_le voiceTargets_nodup (mem_voiceTargets v)).trans (fadeLoad_congr hu).le⟩
  have stops : (∀ w, w ≠ v → VoiceStands w s (postStopFade (voiceFade v g n .stopVoice) v s)) ∧
      fadeLoad voiceTargets (postStopFade (voiceFade v g n .stopVoice) v s) ≤ fadeLoad voiceTargets s := by
    obtain ⟨-, hload⟩ := posts s .stopVoice rfl fun _ _ => rfl
    exact ⟨fun w hw => ⟨voice_postStopFade_ne rfl hw s,
      (fadeFor_congr (postStopFade_fades ..)).trans (fadeFor_post_ne (other hw))⟩,
      (fadeLoad_congr (postStopFade_fades ..)).le.trans hload⟩
  unfold fadeOneVoice
  dsimp only
  split
  · split
    · rw [freeAndCheck, checkOwner_same]
      exact ⟨fun w hw => ⟨voice_freeVoice_ne hw s, fadeFor_filter_ne (freeVoice_fades v s) (other hw)⟩,
        fadeLoad_filter_le voiceTargets_nodup (freeVoice_fades v s)⟩
    · split
      · exact ramps
      · exact stops
    · split
      · exact ramps
      · exact stops
    · exact stands
  · split
    · exact posts _ .nothing rfl fun w hw => State.voice_setVoice_ne s v w _ hw
    · exact posts s .nothing rfl fun _ _ => rfl
    · exact posts s .nothing rfl fun _ _ => rfl
    · exact stands

/-- Voices reached in turn: each is reached in a state in which it stands as it stood before the first, and its fate is
then sealed; the others stand. -/
theorem fadeVoices_at (hnodup : vs.Nodup) (g : Level) (n : Nat) (stopAtEnd : Bool) (s : State) :
    (v ∉ vs → VoiceStands v s (vs.foldl (fun s v => fadeOneVoice g n stopAtEnd v s) s)) ∧
      (v ∈ vs → ∃ u, VoiceStands v s u ∧ fadeLoad voiceTargets u ≤ fadeLoad voiceTargets s ∧
        VoiceStands v (fadeOneVoice g n stopAtEnd v u) (vs.foldl (fun s v => fadeOneVoice g n stopAtEnd v s) s)) := by
  induction vs generalizing s with
  | nil => exact ⟨fun _ => VoiceStands.refl v s, fun h => absurd h List.not_mem_nil⟩
  | cons w vs ih =>
    obtain ⟨hw, hnodup⟩ := List.nodup_cons.mp hnodup
    obtain ⟨out, within⟩ := ih hnodup (fadeOneVoice g n stopAtEnd w s)
    obtain ⟨stands, load⟩ := fadeOneVoice_leaves g n stopAtEnd w s
    refine ⟨fun hv => ?_, fun hv => ?_⟩
    · rw [List.mem_cons, not_or] at hv
      exact (stands v hv.1).trans (out hv.2)
    · by_cases heq : v = w
      · exact heq ▸ ⟨s, VoiceStands.refl _ s, Nat.le_refl _, heq ▸ out (heq ▸ hw)⟩
      · obtain ⟨u, hu, hload, hlast⟩ := within ((List.mem_cons.mp hv).resolve_left heq)
        exact ⟨u, (stands v heq).trans hu, hload.trans load, hlast⟩

theorem mem_fadeableVoices : v ∈ fadeableVoices n s ↔ (s.voice v).group = n ∧
    ((s.voice v).state = .playing ∨ (s.voice v).state = .starved ∨ ∃ f, (s.voice v).state = .starting f) := by
  unfold fadeableVoices
  rw [List.mem_filter, Bool.and_eq_true, beq_iff_eq]
  cases (s.voice v).state <;> simp

theorem nodup_fadeableVoices (k : Nat) (s : State) : (fadeableVoices k s).Nodup := (List.nodup_finRange 32).filter _

end VoiceFade

/-! ### The records of instances that a stop ends in PREWAIT (R47) -/

theorem raised_reachInsts {s : State} {is : List CueInstance} {j : CueInstance} {n : Nat}
    (hnodup : (s.seq.instances.map (·.id)).Nodup) (his : ∀ i ∈ is, i ∈ s.seq.instances) (hids : (is.map (·.id)).Nodup)
    (hj : j ∈ is) (hphase : j.phase = .prewait) :
    Raised { kind := .cueEnded, inst := .ofNat 8 j.id, cue := j.cue, reason := 1 } (reachInsts n (is.map (·.id)) s) := by
  induction is generalizing s with
  | nil => cases hj
  | cons i is ih =>
    obtain ⟨hi, his⟩ := List.forall_mem_cons.mp his
    obtain ⟨hnew, hids⟩ := List.nodup_cons.mp hids
    have first := instsReached_reachInst hnodup hi n
    rcases List.mem_cons.mp hj with rfl | hj
    · have ended : reachInst n j.id s = endInst j 1 s := by
        rw [reachInst, instOf_eq hnodup hi]
        dsimp only
        rw [hphase]
      refine Raised.within (s := reachInst n j.id s) ?_ (Within.refl 0 _).reachInsts
      rw [ended]
      exact raised_raise _ _
    · exact ih first.nodup (fun k hk => (first.others k fun hmem =>
        hnew (List.mem_map.mpr ⟨k, hk, List.mem_singleton.mp hmem⟩)).mpr (his k hk)) hids hj

end Sys2Proof.Machine
end

section
/-! The settling of the obligation of what a dispatched action of each kind does (R50, R51). -/

namespace Sys2Proof.Machine

section Dispatched

variable {s t : State} {i : CueInstance} {a : Action}

/-- The end of a pre-wait with one action: what the action made, with its instance settled. -/
def ranOne (i : CueInstance) (a : Action) (s : State) : State := settled i (dispatchAction i 1 a (dispatching i s))

/-- The record of an action that the first position of a cue cannot carry out (R50). -/
theorem actionFault_eq (why : Result) (s : State) : actionFault i 1 why s =
    raise { kind := .actionFault, inst := .ofNat 8 i.id, cue := i.cue, aux1 := 1, reason := .ofNat 8 why.code } s := rfl

/-! ### Levels, trims and scenes (R92, R98) -/

/-- The post of an action on one level. -/
def actionPost (T : FadeTarget) (g : Level) (n : Nat) : Post :=
  { target := T, goal := g, time := n, action := .nothing, poster := .sequencer }

/-- An action that is one post writes the level at once, or stands in the list where there was room (R92). -/
theorem ranOne_post {T : FadeTarget} {g : Level} {n : Nat} (hT : T ≠ .stopMute)
    (ha : ∀ u, dispatchAction i 1 a u = post (actionPost T g n) u) :
    (n = 0 → (ranOne i a s).mix = (setLevel T g (dispatching i s)).mix) ∧
    (0 < n → fadeFor T s = none → s.fades.length < 256 → (ranOne i a s).mix = s.mix ∧
      (ranOne i a s).fades = s.fades ++ [{ target := T, start := getLevel T (dispatching i s), goal := g, n := n, k := 0,
                                           due := false, action := .nothing, poster := .sequencer }]) := by
  refine ⟨fun hn => ?_, fun hn hnone hroom => ?_⟩
  · rw [ranOne, settled_same, ha, post_now (p := actionPost T g n) ⟨rfl, hT⟩ hn]
    rfl
  · rw [ranOne, settled_same, ha, post,
      postFade_posted (p := actionPost T g n) (s := dispatching i s) hn.ne' hnone hroom]
    exact ⟨rfl, rfl⟩

/-- The posts of a scene's entries. -/
def scenePosts (es : List SceneEntry) (n : Nat) : List Post :=
  es.map fun e => crosspointPost e.source e.output e.level n .sequencer

theorem postScene_eq (es : List SceneEntry) (n : Nat) (s : State) : postScene es n s = postAll (scenePosts es n) s := by
  rw [postScene, postAll, scenePosts, List.foldl_map]

theorem mem_scenePosts {es : List SceneEntry} {n : Nat} {p : Post} (hp : p ∈ scenePosts es n) :
    p.plain ∧ p.time = n ∧ ∃ i o, p.target = .crosspoint i o := by
  obtain ⟨e, -, rfl⟩ := List.mem_map.mp hp
  exact ⟨⟨rfl, nofun⟩, rfl, _, _, rfl⟩

theorem nodup_sceneTargets {es : List SceneEntry} (h : (es.map fun e => (e.source, e.output)).Nodup) (n : Nat) :
    ((scenePosts es n).map (·.target)).Nodup := by
  have targets : (scenePosts es n).map (·.target) =
      (es.map fun e => (e.source, e.output)).map fun q => FadeTarget.crosspoint q.1 q.2 := by
    rw [scenePosts, List.map_map, List.map_map]
    rfl
  rw [targets]
  exact h.map fun a b hab => by
    injection hab with h1 h2
    exact Prod.ext h1 h2

theorem ranOne_scene {id n : Nat} :
    (∀ sc, n = 0 → sceneOf id s = some sc → (sc.entries.map fun e => (e.source, e.output)).Nodup →
      ∀ e ∈ sc.entries, (ranOne i (.scene id n) s).mix.xpts[e.output][e.source] = e.level) ∧
    (∀ sc, 0 < n → sceneOf id s = some sc → (sc.entries.map fun e => (e.source, e.output)).Nodup →
      s.fades.length + sc.entries.length ≤ 256 →
      (ranOne i (.scene id n) s).mix = s.mix ∧
      ∀ e ∈ sc.entries, fadeFor (.crosspoint e.source e.output) (ranOne i (.scene id n) s) = some {
        target := .crosspoint e.source e.output, start := s.mix.xpts[e.output][e.source], goal := e.level, n := n,
        k := 0, due := false, action := .nothing, poster := .sequencer }) ∧
    (sceneOf id s = none → Raised { kind := .actionFault, inst := .ofNat 8 i.id, cue := i.cue, aux1 := 1, reason := 20 }
      (ranOne i (.scene id n) s)) := by
  have found : ∀ {sc}, sceneOf id s = some sc →
      dispatchAction i 1 (.scene id n) (dispatching i s) = postAll (scenePosts sc.entries n) (dispatching i s) := by
    intro sc h
    rw [dispatchAction, show sceneOf id (dispatching i s) = some sc from h, ← postScene_eq]
  have posted : ∀ {es : List SceneEntry} {e}, e ∈ es →
      crosspointPost e.source e.output e.level n .sequencer ∈ scenePosts es n := fun he => List.mem_map_of_mem he
  refine ⟨fun sc hn hsc hnodup e he => ?_, fun sc hn hsc hnodup hlen => ?_, fun hnone => ?_⟩
  · have written := (getLevel_postAll (fun p hp => ⟨(mem_scenePosts hp).1, (mem_scenePosts hp).2.1.trans hn⟩)
      (nodup_sceneTargets hnodup n) (dispatching i s)).1 _ (posted he) nofun
    rw [ranOne, settled_same, found hsc]
    exact written
  · obtain ⟨same, entries, -⟩ := postAll_over (s := dispatching i s) (nodup_sceneTargets hnodup n)
      (fun p hp => ⟨by rw [(mem_scenePosts hp).2.1]; exact hn, List.mem_map_of_mem hp⟩) (nodup_sceneTargets hnodup n)
      ((fadeLoad_le _ _).trans (by rw [List.length_map, scenePosts, List.length_map]; exact hlen))
    refine ⟨?_, fun e he => ?_⟩
    · rw [ranOne, settled_same, found hsc, same]
      rfl
    · rw [ranOne, fadeFor_settled, found hsc]
      exact entries _ (posted he)
  · refine Raised.settled ?_ i
    rw [dispatchAction, show sceneOf id (dispatching i s) = none from hnone]
    exact raised_raise _ _

/-! ### Foldback modes (R130) -/

theorem ranOne_foldbackMode {o : OutputNo} {m : FoldMode} :
    (s.mix.classes[o] = .foldback → (∀ n, m = .follow n → s.mix.classes[n] = .main) →
      (ranOne i (.foldbackMode o m) s).foldback = { s.foldback with modes := s.foldback.modes.set o m }) ∧
    (s.mix.classes[o] ≠ .foldback → (ranOne i (.foldbackMode o m) s).foldback = s.foldback ∧
      Raised { kind := .actionFault, inst := .ofNat 8 i.id, cue := i.cue, aux1 := 1, reason := 25 }
        (ranOne i (.foldbackMode o m) s)) ∧
    (∀ n, s.mix.classes[o] = .foldback → m = .follow n → s.mix.classes[n] ≠ .main →
      (ranOne i (.foldbackMode o m) s).foldback = s.foldback ∧
      Raised { kind := .actionFault, inst := .ofNat 8 i.id, cue := i.cue, aux1 := 1, reason := 16 }
        (ranOne i (.foldbackMode o m) s)) := by
  have faults : ∀ why : Result, modeFault o m (dispatching i s) = some why →
      (ranOne i (.foldbackMode o m) s).foldback = s.foldback ∧
      Raised { kind := .actionFault, inst := .ofNat 8 i.id, cue := i.cue, aux1 := 1, reason := .ofNat 8 why.code }
        (ranOne i (.foldbackMode o m) s) := by
    intro why h
    have dispatched : dispatchAction i 1 (.foldbackMode o m) (dispatching i s) = actionFault i 1 why (dispatching i s) := by
      rw [dispatchAction, h]
    rw [ranOne, dispatched]
    refine ⟨?_, (raised_raise _ _).settled i⟩
    rw [settled_same]
    rfl
  refine ⟨fun hclass hmain => ?_, fun hclass => faults .notFoldback (modeFault_notFoldback (s := dispatching i s) hclass m),
    fun n hclass hm hmain => faults .badReference ?_⟩
  · have dispatched : dispatchAction i 1 (.foldbackMode o m) (dispatching i s) = setMode o m (dispatching i s) := by
      rw [dispatchAction, modeFault_none (s := dispatching i s) hclass hmain]
    rw [ranOne, settled_same, dispatched]
    rfl
  · rw [hm]
    exact modeFault_notMain hclass hmain

/-! ### PLAY (R66 to R70) -/

theorem dispatching_mem (h : Dispatches i a s) : { i with phase := .dispatching } ∈ (dispatching i s).seq.instances := by
  obtain ⟨-, htable, hi, -, hwait, -⟩ := h
  rw [instances_dispatching htable hi]
  refine List.mem_map.mpr ⟨i, hi, ?_⟩
  rw [if_pos rfl, ← hwait]

theorem Dispatches.follow (h : Dispatches i a s) : i.follow = none := by
  obtain ⟨-, -, -, -, -, hfollow, -⟩ := h
  exact hfollow

/-- The request of a PLAY action. -/
abbrev playOf (i : CueInstance) (p : PlaySpec) : AllocReq := p.request (.inst i.id i.cue)

theorem dispatchPlay_some {p : PlaySpec} {r : State × VoiceNo} (h : allocateScan (playOf i p) s = some r) :
    dispatchAction i 1 (.play p) s = r.1 := by
  rw [dispatchAction, dispatchPlay, h]

/-- A PLAY action that finds a FREE voice (R66). -/
theorem ranOne_play_free {p : PlaySpec} {v : VoiceNo} {reg : Region} (h : Dispatches i (.play p) s)
    (hreg : s.smi.regions[p.region]? = some reg) (hlt : p.inWord < p.out.getD reg.len) (hv : (s.voice v).state = .free)
    (hfirst : ∀ w, w < v → (s.voice w).state ≠ .free) :
    (ranOne i (.play p) s).voice v = freshVoice p (.inst i.id i.cue) reg.len s.timing.showClock ∧
      ∃ j ∈ (ranOne i (.play p) s).seq.instances, j = { i with phase := .running } := by
  have taken : dispatchAction i 1 (.play p) (dispatching i s) = (dispatching i s).setVoice v
      (freshVoice p (.inst i.id i.cue) reg.len s.timing.showClock) :=
    (dispatchPlay_some (allocateScan_free (s := dispatching i s) hv hfirst)).trans
      (takeFree_play (s := dispatching i s) hreg hlt v)
  obtain ⟨t, ht⟩ : ∃ t, t = (dispatching i s).setVoice v
      (freshVoice p (.inst i.id i.cue) reg.len s.timing.showClock) := ⟨_, rfl⟩
  have fresh : t.voice v = freshVoice p (.inst i.id i.cue) reg.len s.timing.showClock :=
    ht ▸ State.voice_setVoice_self ..
  rw [ranOne, taken, ← ht]
  refine ⟨(voiceStands_settled i t v).1.trans fresh, settled_owns (v := v) ?_ ?_ h.follow⟩
  · rw [fresh]
    exact decide_eq_true rfl
  · rw [ht]
    exact dispatching_mem h

/-- A PLAY action that steals a voice which no call owns (R67, R68). -/
theorem ranOne_play_steals {p : PlaySpec} {v : VoiceNo} {reg : Region} (h : Dispatches i (.play p) s)
    (hreg : s.smi.regions[p.region]? = some reg) (hnone : ∀ w, (s.voice w).state ≠ .free)
    (hv : (s.voice v).candidate p.priority = true)
    (hbest : ∀ u, u ≠ v → (s.voice u).candidate p.priority = true → TakenBefore s v u)
    (howner : ∀ id, (s.voice v).owner ≠ .call id) :
    let t := ranOne i (.play p) s
    t.voice v = stolenVoice p (.inst i.id i.cue) reg.len s.timing.showClock (s.voice v) ∧
      fadeFor (.voice v) t = none ∧ (∃ j ∈ t.seq.instances, j = { i with phase := .running }) ∧
      ∀ j c, j ∈ s.seq.instances → j.id ≠ i.id → (s.voice v).owner = .inst j.id c → j.phase = .running →
        j.follow = none → (∀ u, u ≠ v → (s.voice u).ownedByInst j.id = false) →
        (∀ k ∈ t.seq.instances, k.id ≠ j.id) ∧
          Raised { kind := .cueEnded, inst := .ofNat 8 j.id, cue := j.cue, reason := if j.stopped then 1 else 0 } t := by
  obtain ⟨x, hx⟩ : ∃ x, x = stealVoice (playOf i p) v (dispatching i s) := ⟨_, rfl⟩
  have stolen := stealVoice_play (s := dispatching i s) (owner := .inst i.id i.cue) hreg v
  have voice : x.voice v = stolenVoice p (.inst i.id i.cue) reg.len s.timing.showClock (s.voice v) := by
    rw [hx, stolen]
    exact State.voice_setVoice_self (dispatching i s) v _
  have fades : fadeFor (.voice v) x = none := by
    rw [hx, stolen]
    exact fadeFor_removeFade_self (.voice v) (dispatching i s)
  have owns : (x.voice v).ownedByInst i.id = true := by
    rw [voice]
    exact decide_eq_true rfl
  have mem : { i with phase := .dispatching } ∈ x.seq.instances := by
    rw [hx]
    exact dispatching_mem h
  -- The old owner's end check leaves the voice and the dispatching instance.
  have checked : ∃ y, dispatchAction i 1 (.play p) (dispatching i s) = y ∧ VoiceStands v x y ∧
      { i with phase := .dispatching } ∈ y.seq.instances ∧
      ∀ id c, (s.voice v).owner = .inst id c → y = checkEnd id x := by
    cases hown : (s.voice v).owner with
    | orphan =>
      exact ⟨x, (dispatchPlay_some (allocateScan_orphan (s := dispatching i s) hnone hv hbest hown)).trans hx.symm,
        VoiceStands.refl v x, mem, nofun⟩
    | call id => exact absurd hown (howner id)
    | inst id c =>
      refine ⟨checkEnd id x, (dispatchPlay_some (allocateScan_inst (s := dispatching i s) hnone hv hbest hown)).trans
        (by rw [hx]), ?_, ?_, ?_⟩
      · rw [checkEnd_same]
        exact ⟨rfl, rfl⟩
      · by_cases hid : id = i.id
        · rw [hid, checkEnd_owns owns]
          exact mem
        · exact ((losesAtMost_checkEnd id x).mem_iff (i := { i with phase := .dispatching })
            fun e => hid e.symm).mpr mem
      · rintro id' c' heq
        injection heq with e
        rw [e]
  obtain ⟨y, hy, stands, present, told⟩ := checked
  rw [ranOne, hy]
  refine ⟨(voiceStands_settled i y v).1.trans (stands.1.trans voice), ?_, settled_owns (v := v) ?_ present h.follow,
    fun j c hj hne hown hphase hfollow honly => ?_⟩
  · rw [fadeFor_settled, stands.2]
    exact fades
  · rw [stands.1]
    exact owns
  · have alone : ∀ w, (x.voice w).ownedByInst j.id = false := by
      intro w
      by_cases hw : w = v
      · rw [hw, voice]
        exact decide_eq_false fun e => hne e.symm
      · rw [hx, voice_stealVoice_ne hw]
        exact honly w hw
    obtain ⟨-, htable, hi, -⟩ := h
    have table : TableOk x := by
      rw [hx]
      exact tableOk_dispatching htable i
    have there : j ∈ x.seq.instances := by
      rw [hx]
      exact (mem_dispatching_of_ne hne).mpr hj
    have ends : y = endInst j (if j.stopped then 1 else 0) x := by
      obtain ⟨-, hnodup, -⟩ := table
      rw [told j.id c hown]
      exact checkEnd_ends (instOf_eq hnodup there) hphase hfollow alone
    rw [ends]
    refine ⟨fun k hk hkj => ?_, Raised.settled ?_ i⟩
    · have gone : k ∈ x.seq.instances.filter fun l => l.id != j.id :=
        (mem_settled_of_ne (t := endInst j (if j.stopped then 1 else 0) x) fun e => hne (hkj.symm.trans e)).mp hk
      simpa [hkj] using (List.mem_filter.mp gone).2
    · have raised := raised_raise { instEvent .cueEnded j with reason := .ofNat 8 (if j.stopped then 1 else 0) }
        (removeInst j.id x)
      unfold endInst
      cases hstop : j.stopped <;> rw [hstop] at raised <;> exact raised

/-- A PLAY action that finds no voice (R70). -/
theorem ranOne_play_shortage {p : PlaySpec} (hnone : ∀ v, (s.voice v).state ≠ .free ∧
      (p.priority < (s.voice v).priority ∨ ∃ q d x c, (s.voice v).state = .reclaiming q d x c)) :
    Raised { kind := .voiceShortage, inst := .ofNat 8 i.id, cue := i.cue, aux1 := 1, aux2 := .ofNat 16 p.priority }
      (ranOne i (.play p) s) ∧ (ranOne i (.play p) s).stream = s.stream := by
  have uncandidate : ∀ v, ((dispatching i s).voice v).candidate p.priority = false := by
    intro v
    rw [voice_dispatching]
    obtain ⟨-, h⟩ := hnone v
    unfold Voice.candidate
    rcases h with h | ⟨q, d, x, c, h⟩
    · split
      · rfl
      · rfl
      · exact decide_eq_false (Nat.not_le.mpr h)
    · rw [h]
  have short : dispatchAction i 1 (.play p) (dispatching i s) = raise { instEvent .voiceShortage i with
      aux1 := .ofNat 16 1, aux2 := .ofNat 16 p.priority } (dispatching i s) := by
    rw [dispatchAction, dispatchPlay,
      allocateScan_none (r := p.request (.inst i.id i.cue)) (s := dispatching i s) (fun v => (hnone v).1) uncandidate]
  rw [ranOne, short]
  refine ⟨(raised_raise _ _).settled i, ?_⟩
  rw [settled_same]
  rfl

/-! ### Stops (R52) -/

theorem mem_voicesOfGroup {g : Nat} {v : VoiceNo} : v ∈ voicesOfGroup g s ↔ (s.voice v).state ≠ .free ∧ (s.voice v).group = g := by
  simp [voicesOfGroup, Voice.busy]

/-- The stop of a group reaches every voice of it, and no other (R52). -/
theorem ranOne_stop_group {g n : Nat} {v : VoiceNo} :
    ((s.voice v).group = g → StoppedVoice n (RoomForVoices s) v s (ranOne i (.stop (.group g) n) s)) ∧
    ((s.voice v).group ≠ g → (ranOne i (.stop (.group g) n) s).voice v = s.voice v) := by
  obtain ⟨t, ht⟩ : ∃ t, t = stopVoices (voicesOfGroup g (dispatching i s)) n (dispatching i s) := ⟨_, rfl⟩
  have ran : ranOne i (.stop (.group g) n) s = settled i t := by rw [ht]; rfl
  have nodup : (voicesOfGroup g (dispatching i s)).Nodup := (List.nodup_finRange 32).filter _
  have missed : v ∉ voicesOfGroup g (dispatching i s) → VoiceStands v s t := fun hv =>
    ht ▸ voiceStands_stopVoices hv n (dispatching i s)
  rw [ran]
  refine ⟨fun hg => ?_, fun hg => ?_⟩
  · by_cases hfree : (s.voice v).state = .free
    · have stands := (missed fun h => (mem_voicesOfGroup.mp h).1 hfree).trans (voiceStands_settled i t v)
      simp only [StoppedVoice, hfree]
      exact stands.1
    · have stop := stoppedVoice_stopVoices nodup (mem_voicesOfGroup.mpr ⟨hfree, hg⟩) n (dispatching i s)
      rw [← ht] at stop
      exact (StoppedVoice.of_stands (t := dispatching i s) ⟨rfl, rfl⟩ stop).stands (voiceStands_settled i t v)
        |>.mono fadeLoad_of_room
  · exact ((missed fun h => hg (mem_voicesOfGroup.mp h).2).trans (voiceStands_settled i t v)).1

/-- The instances that a dispatching instance stops: those that the target names, but not itself (R52). -/
def others (i : CueInstance) (p : CueInstance → Bool) (j : CueInstance) : Bool := j.id != i.id && p j

/-- What a stop of other instances leaves before the dispatching instance is settled. -/
structure OthersStopped (i : CueInstance) (p : CueInstance → Bool) (n : Nat) (s t : State) : Prop where
  stopped : InstancesStopped (others i p) n (dispatching i s) t
  raised : ∀ j ∈ s.seq.instances, others i p j = true → j.phase = .prewait →
    Raised { kind := .cueEnded, inst := .ofNat 8 j.id, cue := j.cue, reason := 1 } t

theorem raised_reachOthers (h : TableOk s) {p : CueInstance → Bool} {n : Nat} {j : CueInstance}
    (hj : j ∈ s.seq.instances) (hp : others i p j = true) (hphase : j.phase = .prewait) :
    Raised { kind := .cueEnded, inst := .ofNat 8 j.id, cue := j.cue, reason := 1 }
      (reachInsts n (otherInsts i.id p (dispatching i s)) (dispatching i s)) := by
  obtain ⟨-, hnodup, -⟩ := tableOk_dispatching h i
  have hne : j.id ≠ i.id := by
    intro e
    rw [others, e, bne_self_eq_false] at hp
    cases hp
  exact raised_reachInsts hnodup (fun k hk => (List.mem_filter.mp hk).1) (hnodup.sublist (List.filter_sublist.map _))
    (List.mem_filter.mpr ⟨(mem_dispatching_of_ne hne).mpr hj, hp⟩) hphase

theorem OthersStopped.settles {p : CueInstance → Bool} {n : Nat} (h : OthersStopped i p n s t) (htable : TableOk s)
    (hi : i ∈ s.seq.instances) (hphase : i.phase = .prewait) :
    (∀ v, Reached p v s → StoppedVoice n (RoomForVoices s) v s (settled i t)) ∧
    (∀ v, ¬ Reached p v s → (s.voice v).owner ≠ .orphan → (settled i t).voice v = s.voice v) ∧
    ∀ j ∈ s.seq.instances, j.id ≠ i.id →
      (p j = false → j ∈ (settled i t).seq.instances) ∧
      (p j = true → (∀ k ∈ (settled i t).seq.instances, k.id = j.id →
          j.phase ≠ .prewait ∧ k = { j with stopped := true, follow := none }) ∧
        (j.phase = .prewait →
          Raised { kind := .cueEnded, inst := .ofNat 8 j.id, cue := j.cue, reason := 1 } (settled i t))) := by
  obtain ⟨-, hnodup, -⟩ := htable
  obtain ⟨stand, left, voices, unreached, -⟩ := h.stopped
  have picked : ∀ j : CueInstance, j.id ≠ i.id → others i p j = p j := fun j hne => by
    rw [others, bne_iff_ne.mpr hne, Bool.true_and]
  have reached : ∀ v, Reached (others i p) v (dispatching i s) ↔ Reached p v s := by
    intro v
    refine exists_congr fun j => ?_
    by_cases hid : j.id = i.id
    · have self : others i p j = false := by rw [others, hid, bne_self_eq_false, Bool.false_and]
      refine ⟨fun hj => ?_, fun ⟨hj, _, hrun, _⟩ => ?_⟩
      · rw [self] at hj
        cases hj.2.1
      · rw [List.inj_on_of_nodup_map hnodup hj hi hid] at hrun
        exact absurd hphase hrun
    · rw [mem_dispatching_of_ne hid, picked j hid, voice_dispatching]
  refine ⟨fun v hv => ?_, fun v hv hown => ?_, fun j hj hne => ⟨fun hp => ?_, fun hp => ⟨fun k hk hkj => ?_, fun hpre => ?_⟩⟩⟩
  · exact (StoppedVoice.of_stands (t := dispatching i s) ⟨rfl, rfl⟩ (voices v ((reached v).mpr hv))).stands
      (voiceStands_settled i t v)
  · exact (voiceStands_settled i t v).1.trans (unreached v (fun hr => hv ((reached v).mp hr)) hown)
  · exact (mem_settled_of_ne hne).mpr (stand j ((mem_dispatching_of_ne hne).mpr hj) ((picked j hne).trans hp))
  · have hkne : k.id ≠ i.id := fun e => hne (hkj.symm.trans e)
    obtain ⟨l, hl, hcase⟩ := left k ((mem_settled_of_ne hkne).mp hk)
    have lid : l.id = j.id := by
      rcases hcase with ⟨-, rfl⟩ | ⟨-, -, rfl⟩ <;> exact hkj
    have hls := (mem_dispatching_of_ne (fun e => hne (lid.symm.trans e))).mp hl
    rw [List.inj_on_of_nodup_map hnodup hls hj lid] at hcase
    rcases hcase with ⟨hno, -⟩ | ⟨-, hrun, hmark⟩
    · rw [picked j hne, hp] at hno
      cases hno
    · exact ⟨hrun, hmark⟩
  · exact (h.raised j hj ((picked j hne).trans hp) hpre).settled i

/-- The stop of other instances, and where it takes them all also of the orphans (R52). -/
theorem ranOne_stop_others {target : StopTarget} {n : Nat} {p : CueInstance → Bool} (h : Dispatches i (.stop target n) s)
    (hp : (∃ m, target = .cue m ∧ p = fun j => j.cue == m) ∨ (target = .all ∧ p = fun _ => true)) :
    let t := ranOne i (.stop target n) s
    (∀ v, Reached p v s → StoppedVoice n (RoomForVoices s) v s t) ∧
    (∀ v, ¬ Reached p v s → (s.voice v).owner ≠ .orphan → t.voice v = s.voice v) ∧
    (∀ v, (s.voice v).owner = .orphan → (target = .all → StoppedVoice n (RoomForVoices s) v s t) ∧
      (target ≠ .all → t.voice v = s.voice v)) ∧
    ∀ j ∈ s.seq.instances, j.id ≠ i.id →
      (p j = false → j ∈ t.seq.instances) ∧
      (p j = true → (∀ k ∈ t.seq.instances, k.id = j.id →
          j.phase ≠ .prewait ∧ k = { j with stopped := true, follow := none }) ∧
        (j.phase = .prewait →
          Raised { kind := .cueEnded, inst := .ofNat 8 j.id, cue := j.cue, reason := 1 } t)) := by
  obtain ⟨-, htable, hi, hphase, -⟩ := h
  have table := tableOk_dispatching htable i
  obtain ⟨r, hr⟩ : ∃ r, r = reachInsts n (otherInsts i.id p (dispatching i s)) (dispatching i s) := ⟨_, rfl⟩
  have raised : ∀ j ∈ s.seq.instances, others i p j = true → j.phase = .prewait →
      Raised { kind := .cueEnded, inst := .ofNat 8 j.id, cue := j.cue, reason := 1 } r := fun j hj hpj hpre =>
    hr ▸ raised_reachOthers htable hj hpj hpre
  have inst : ∀ v, (s.voice v).owner = .orphan → VoiceStands v s r := fun v hv =>
    hr ▸ (instsReached_filter table (others i p) n).orphan (s := dispatching i s) hv
  rcases hp with ⟨m, rfl, rfl⟩ | ⟨rfl, rfl⟩
  · have ran : ranOne i (.stop (.cue m) n) s = settled i r := by rw [hr]; rfl
    have stops : OthersStopped i (fun j => j.cue == m) n s r :=
      ⟨hr ▸ instancesStopped_reachInsts table _ n, raised⟩
    obtain ⟨voices, unreached, table⟩ := stops.settles htable hi hphase
    rw [ran]
    exact ⟨voices, unreached, fun v hv => ⟨nofun, fun _ => ((inst v hv).trans (voiceStands_settled i r v)).1⟩, table⟩
  · obtain ⟨t, ht⟩ : ∃ t, t = stopVoices (orphans (dispatching i s)) n r := ⟨_, rfl⟩
    have ran : ranOne i (.stop .all n) s = settled i t := by rw [ht, hr]; rfl
    obtain ⟨stopped, orphaned⟩ := instancesStopped_andOrphans table (others i fun _ => true) n
    have same : stopVoices (orphans (dispatching i s)) n (reachInsts n (((dispatching i s).seq.instances.filter
        (others i fun _ => true)).map (·.id)) (dispatching i s)) = t := by rw [ht, hr]; rfl
    rw [same] at stopped orphaned
    have stops : OthersStopped i (fun _ => true) n s t :=
      ⟨stopped, fun j hj hpj hpre => ht ▸ (raised j hj hpj hpre).within (Within.refl 0 r).stopVoices⟩
    obtain ⟨voices, unreached, table⟩ := stops.settles htable hi hphase
    rw [ran]
    refine ⟨voices, unreached, fun v hv => ⟨fun _ => ?_, fun hne => absurd rfl hne⟩, table⟩
    exact (StoppedVoice.of_stands (t := dispatching i s) ⟨rfl, rfl⟩ (orphaned v hv)).stands (voiceStands_settled i t v)

/-! ### Voice fades (R86) -/

/-- A voice that a voice fade reaches is reached in a state in which it stands, and stands as that leaves it. -/
theorem ranOne_voiceFade {g n : Nat} {goal : Level} {stopAtEnd : Bool} {v : VoiceNo} (hg : (s.voice v).group = g)
    (hstate : (s.voice v).state = .playing ∨ (s.voice v).state = .starved ∨ ∃ f, (s.voice v).state = .starting f) :
    ∃ u, VoiceStands v s u ∧ fadeLoad voiceTargets u ≤ fadeLoad voiceTargets s ∧
      VoiceStands v (fadeOneVoice goal n stopAtEnd v u) (ranOne i (.voiceFade g goal n stopAtEnd) s) := by
  obtain ⟨u, hu, hload, hlast⟩ := (fadeVoices_at (v := v) (nodup_fadeableVoices g (dispatching i s)) goal n stopAtEnd
    (dispatching i s)).2 (mem_fadeableVoices.mpr ⟨hg, hstate⟩)
  exact ⟨u, hu, hload, hlast.trans (voiceStands_settled i _ v)⟩

/-- A voice fade leaves every voice that it does not reach. -/
theorem ranOne_voiceFade_stands {g n : Nat} {goal : Level} {stopAtEnd : Bool} {v : VoiceNo}
    (hstate : ¬ ((s.voice v).state = .playing ∨ (s.voice v).state = .starved ∨ ∃ f, (s.voice v).state = .starting f)) :
    (ranOne i (.voiceFade g goal n stopAtEnd) s).voice v = s.voice v := by
  have stands := (fadeVoices_at (v := v) (nodup_fadeableVoices g (dispatching i s)) goal n stopAtEnd
    (dispatching i s)).1 fun h => hstate (mem_fadeableVoices.mp h).2
  exact (stands.trans (voiceStands_settled i _ v)).1

/-- Only a STARTING voice loses a pending fade-in to a voice fade. -/
theorem fadeIn_dropped {x : Voice} (h : x.state = .playing ∨ x.state = .starved) :
    x = { x with state := match x.state with
      | .starting _ => .starting none
      | st => st } := by
  have same : (match x.state with
      | .starting _ => .starting none
      | st => st) = x.state := by
    split
    · next f hf => rcases h with h | h <;> cases h.symm.trans hf
    · rfl
  rw [same]

/-- A voice fade over a time without stop-at-end, where the list has room for the voices. -/
theorem ranOne_voiceFade_over {g n : Nat} {goal : Level} {v : VoiceNo} {f : Option Nat} (hroom : s.fades.length + 32 ≤ 256)
    (hn : 0 < n) (hg : (s.voice v).group = g)
    (hstate : (s.voice v).state = .playing ∨ (s.voice v).state = .starved ∨ (s.voice v).state = .starting f) :
    let t := ranOne i (.voiceFade g goal n false) s
    fadeFor (.voice v) t = some { target := .voice v, start := (s.voice v).level, goal := goal, n := n, k := 0,
                                  due := false, action := .nothing, poster := .stream } ∧
      t.voice v = { s.voice v with state := match (s.voice v).state with
        | .starting _ => .starting none
        | st => st } := by
  obtain ⟨u, ⟨hvoice, -⟩, hload, hlast⟩ := ranOne_voiceFade (i := i) (goal := goal) (n := n) (stopAtEnd := false) hg
    (hstate.imp_right fun h => h.imp_right fun h => ⟨f, h⟩)
  have room : ∀ w : State, w.fades = u.fades → (fadeFor (.voice v) w).isSome = true ∨ w.fades.length < 256 := by
    intro w hw
    have within : fadeLoad voiceTargets u ≤ 256 := hload.trans (fadeLoad_of_room hroom)
    exact room_of_fadeLoad ((fadeLoad_congr hw).le.trans within) (mem_voiceTargets v)
  have posts : ∀ (w : State) (x : Voice), w.fades = u.fades → w.voice v = x → x.level = (s.voice v).level →
      fadeFor (.voice v) (post (voiceFade v goal n .nothing) w) = some {
        target := .voice v, start := (s.voice v).level, goal := goal, n := n, k := 0, due := false, action := .nothing,
        poster := .stream } ∧ (post (voiceFade v goal n .nothing) w).voice v = x := by
    intro w x hw hx hlevel
    refine ⟨?_, ?_⟩
    · refine (fadeFor_post_entry (p := voiceFade v goal n .nothing) hn (room w hw)).trans (congrArg some ?_)
      rw [Post.entry, ← hlevel, ← hx]
      rfl
    · rw [post_over (p := voiceFade v goal n .nothing) hn (room w hw)]
      exact hx
  have steady : (s.voice v).state = .playing ∨ (s.voice v).state = .starved →
      fadeOneVoice goal n false v u = post (voiceFade v goal n .nothing) u := by
    unfold fadeOneVoice
    rw [hvoice]
    rintro (h | h) <;> rw [h] <;> rfl
  rcases hstate with h | h | h
  · obtain ⟨entry, voice⟩ := posts u (s.voice v) rfl hvoice rfl
    rw [steady (.inl h)] at hlast
    exact ⟨hlast.2.trans entry, hlast.1.trans (voice.trans (fadeIn_dropped (.inl h)))⟩
  · obtain ⟨entry, voice⟩ := posts u (s.voice v) rfl hvoice rfl
    rw [steady (.inr h)] at hlast
    exact ⟨hlast.2.trans entry, hlast.1.trans (voice.trans (fadeIn_dropped (.inr h)))⟩
  · have starting : fadeOneVoice goal n false v u =
        post (voiceFade v goal n .nothing) (u.setVoice v { s.voice v with state := .starting none }) := by
      unfold fadeOneVoice
      rw [hvoice, h]
      rfl
    obtain ⟨entry, voice⟩ := posts (u.setVoice v { s.voice v with state := .starting none })
      { s.voice v with state := .starting none } rfl (State.voice_setVoice_self ..) rfl
    rw [starting] at hlast
    refine ⟨hlast.2.trans entry, hlast.1.trans (voice.trans ?_)⟩
    rw [h]

/-- A voice fade of time 0 without stop-at-end writes the level of a sounding voice. -/
theorem ranOne_voiceFade_now {g : Nat} {goal : Level} {v : VoiceNo} (hg : (s.voice v).group = g)
    (hstate : (s.voice v).state = .playing ∨ (s.voice v).state = .starved) :
    (ranOne i (.voiceFade g goal 0 false) s).voice v = { s.voice v with level := goal } ∧
      fadeFor (.voice v) (ranOne i (.voiceFade g goal 0 false) s) = none := by
  obtain ⟨u, ⟨hvoice, -⟩, -, hlast⟩ := ranOne_voiceFade (i := i) (goal := goal) (n := 0) (stopAtEnd := false) hg
    (hstate.imp_right .inl)
  have faded : fadeOneVoice goal 0 false v u = post (voiceFade v goal 0 .nothing) u := by
    unfold fadeOneVoice
    rw [hvoice]
    rcases hstate with h | h <;> rw [h] <;> rfl
  rw [faded] at hlast
  refine ⟨hlast.1.trans ?_, hlast.2.trans (fadeFor_post_atOnce (p := voiceFade v goal 0 .nothing) rfl)⟩
  rw [post_now (p := voiceFade v goal 0 .nothing) ⟨rfl, nofun⟩ rfl, ← hvoice]
  exact State.voice_setVoice_self u v _

/-- A voice fade with stop-at-end, by the state of the voice. -/
theorem ranOne_voiceFade_stops {g n : Nat} {goal : Level} {v : VoiceNo} (hg : (s.voice v).group = g) :
    let t := ranOne i (.voiceFade g goal n true) s
    ((∃ f, (s.voice v).state = .starting f) → t.voice v = Voice.freeRecord) ∧
      ((s.voice v).state = .playing ∨ (s.voice v).state = .starved →
        (n = 0 → t.voice v = (s.voice v).ramping) ∧
        (0 < n → RoomForVoices s ∨ (fadeFor (.voice v) s).isSome = true → StopFading v goal n s t)) ∧
      ((s.voice v).stopping = true ∨ (∃ q d x c, (s.voice v).state = .reclaiming q d x c) → t.voice v = s.voice v) := by
  refine ⟨fun ⟨f, hf⟩ => ?_, fun hstate => ?_, fun hstate => ranOne_voiceFade_stands ?_⟩
  · obtain ⟨u, ⟨hvoice, -⟩, -, hlast⟩ := ranOne_voiceFade (i := i) (goal := goal) (n := n) (stopAtEnd := true) hg
      (.inr (.inr ⟨f, hf⟩))
    have freed : fadeOneVoice goal n true v u = freeAndCheck v u := by
      unfold fadeOneVoice
      rw [hvoice, hf]
      rfl
    rw [freed, freeAndCheck, checkOwner_same] at hlast
    exact hlast.1.trans (voice_freeVoice_self v u)
  · obtain ⟨u, hu, hload, hlast⟩ := ranOne_voiceFade (i := i) (goal := goal) (n := n) (stopAtEnd := true) hg
      (hstate.imp_right .inl)
    have faded : fadeOneVoice goal n true v u =
        if n = 0 then startRamp v u else postStopFade (voiceFade v goal n .stopVoice) v u := by
      unfold fadeOneVoice
      rw [hu.1]
      rcases hstate with h | h <;> rw [h] <;> rfl
    rw [faded] at hlast
    refine ⟨fun hn => ?_, fun hn hroom => ?_⟩
    · rw [if_pos hn] at hlast
      refine hlast.1.trans ((voice_startRamp (s := u) fun p hp => ?_).trans (by rw [hu.1]))
      rw [hu.1] at hp
      rcases hstate with h | h <;> · rw [h] at hp; cases hp
    · rw [if_neg hn.ne'] at hlast
      have room : (fadeFor (.voice v) u).isSome = true ∨ u.fades.length < 256 := by
        rcases hroom with hroom | hroom
        · exact room_of_fadeLoad (hload.trans (fadeLoad_of_room hroom)) (mem_voiceTargets v)
        · exact .inl (by rw [hu.2]; exact hroom)
      have fading := stopFading_postStopFade_level hn room goal
      unfold StopFading at fading ⊢
      rw [hlast.1, hlast.2]
      rw [hu.1] at fading
      exact fading
  · rintro (h | h | ⟨f, h⟩) <;> unfold Voice.stopping at hstate <;> rw [h] at hstate <;> simp at hstate

/-! ### Calls (R147) -/

theorem ranOne_relay : (ranOne i a s).relay = (dispatchAction i 1 a (dispatching i s)).relay := by
  rw [ranOne, settled_same]

/-- A CALL action by the zones present, the room in the queue, and an empty relay (R147, R149, R150). -/
theorem ranOne_call {c : CallSpec} :
    let t := ranOne i (.call c) s
    (∀ z, c.zones.getLsbD z = true → s.relay.zones.length ≤ z →
      t.relay = s.relay ∧
      Raised { kind := .actionFault, inst := .ofNat 8 i.id, cue := i.cue, aux1 := 1, reason := 26 } t) ∧
    ((∀ z, c.zones.getLsbD z = true → z < s.relay.zones.length) →
      (8 ≤ s.relay.waiting.countP (fun d => d.source != .announce) →
        t.relay = s.relay ∧
        Raised { kind := .callDropped, inst := .ofNat 8 i.id, cue := i.cue, aux1 := 1, reason := 27 } t) ∧
      (s.relay.waiting = [] → s.relay.playing = [] → (∀ zn ∈ s.relay.zones, zn.carried = none) →
        (∃ v, (s.voice v).state = .free) →
        ∃ d, t.relay.playing = [d] ∧ t.relay.waiting = [] ∧ d.id = s.relay.nextId ∧
          d.source = .recorded c.region c.inWord c.out ∧ d.zones = c.zones ∧ d.page = c.page ∧
          d.depth = c.depth ∧ d.origin = .cue i.id i.cue 1)) := by
  refine ⟨fun z hz habsent => ?_, fun hpresent => ?_⟩
  · have small : z < 16 := by
      by_contra hge
      rw [BitVec.getLsbD_of_ge _ _ (Nat.le_of_not_lt hge)] at hz
      cases hz
    have absent : (absentZone c.zones (dispatching i s)).isSome = true := by
      rw [absentZone, List.find?_isSome]
      exact ⟨⟨z, small⟩, mem_members.mpr hz, decide_eq_true habsent⟩
    have faults : dispatchAction i 1 (.call c) (dispatching i s) = actionFault i 1 .noSuchZone (dispatching i s) := by
      rw [dispatchAction, dispatchCall, if_pos absent]
    rw [ranOne_relay, ranOne, faults]
    exact ⟨rfl, (raised_raise _ _).settled i⟩
  have present : ¬ (absentZone c.zones (dispatching i s)).isSome = true := by
    rw [absentZone_none (s := dispatching i s) fun z hz => hpresent z hz]
    exact Bool.false_ne_true
  refine ⟨fun hfull => ?_, fun hwaiting hplaying hclear hfree => ?_⟩
  · have drops : dispatchAction i 1 (.call c) (dispatching i s) = raise { instEvent .callDropped i with
        aux1 := .ofNat 16 1, reason := .ofNat 8 Result.queueFull.code } (dispatching i s) := by
      have full : Config.maxWaiting ≤ waitingCount (dispatching i s) := hfull
      rw [dispatchAction, dispatchCall, if_neg present, if_pos full]
    rw [ranOne_relay, ranOne, drops]
    exact ⟨rfl, (raised_raise _ _).settled i⟩
  · obtain ⟨c₀, hc₀⟩ : ∃ c₀, c₀ = newCall c.priority (.recorded c.region c.inWord c.out) c.zones c.page c.depth
        (.cue i.id i.cue 1) := ⟨_, rfl⟩
    obtain ⟨u, hu⟩ : ∃ u, u = dispatching i s := ⟨_, rfl⟩
    have relay : u.relay = s.relay := hu ▸ rfl
    have empty : waitingCount u = 0 := by
      rw [waitingCount, relay, hwaiting]
      rfl
    have accepts : dispatchAction i 1 (.call c) u = (acceptCall c₀ u).1 := by
      rw [dispatchAction, dispatchCall, if_neg (hu ▸ present), if_neg (by rw [empty]; decide), hc₀]
    have accepted := acceptCall_alone (c := c₀) (s := u) (by rw [relay]; exact hwaiting)
      (by rw [relay, hplaying]; exact fun d hd => absurd hd List.not_mem_nil)
    have id : takeCallId u = s.relay.nextId := by
      rw [takeCallId_eq (by rw [relay]; exact hwaiting)
        (by rw [relay, hplaying]; exact fun d hd => absurd hd List.not_mem_nil), relay]
    obtain ⟨d, hd⟩ : ∃ d : Call, d = { c₀ with id := takeCallId u, arrival := u.relay.arrivals } := ⟨_, rfl⟩
    have queue : (queued c₀ u).relay.waiting = [d] := by rw [hd, queued]
    have playing : (queued c₀ u).relay.playing = [] := by
      show u.relay.playing = []
      rw [relay]
      exact hplaying
    have may : mayStart d 0 (queued c₀ u) = true := mayStart_iff.mpr fun z zn _ hzn =>
      hclear zn (by rw [← relay]; exact List.mem_of_getElem? hzn)
    obtain ⟨w, hw⟩ := freeVoiceNo_isSome (s := queued c₀ u) (by rw [hu]; exact hfree)
    have begun := begun_scan_recorded queue (by rw [playing]; exact fun e he => absurd he List.not_mem_nil) may
      (region := c.region) (inWord := c.inWord) (out := c.out) (by rw [hd, hc₀]; rfl) hw
    rw [ranOne_relay, ← hu, accepts, accepted]
    refine ⟨{ d with gate := startGate d (takeFree (callAlloc d.id c.region c.inWord c.out) w (queued c₀ u)) },
      begun.playing.trans ?_, begun.waiting, ?_⟩
    · rw [takeFree_same]
      show (queued c₀ u).relay.playing ++ _ = _
      rw [playing, List.nil_append]
    · rw [hd, hc₀]
      exact ⟨id, rfl, rfl, rfl, rfl, rfl⟩

end Dispatched

end Sys2Proof.Machine

namespace Sys2Proof.Proofs
open Sys2Proof.Machine

/-- Settles O42: the end of a pre-wait hands the action over between the dispatching and the settling of its instance,
and each kind of action is a lemma of its own. -/
theorem actionsDispatched : Obligations.ActionsDispatched := by
  intro s i a h
  have within : Within 2 s (ranOne i a s) :=
    Within.checkEnd ((Within.dispatchAction ((Within.refl 2 s).modifyInst.raiseAny)).modifyInst)
  refine ⟨ranOne i a s, exec_prewaitEnd_dispatches h, within.store, within.timing, ?_⟩
  refine ⟨fun src o g n ha => ?_, fun o g n ha => ?_, fun id n ha => ?_, fun o m ha => ?_, fun p ha => ?_,
    fun g n ha => ?_, fun target n p ha hp => ?_, fun g goal n ha hroom hn v f hg hstate => ?_,
    fun g goal ha v hg hstate => ?_, fun g goal n ha v hg => ?_, fun c ha => ?_⟩ <;> subst ha
  · exact ranOne_post (T := .crosspoint src o) nofun fun u => rfl
  · exact ranOne_post (T := .trim o) nofun fun u => rfl
  · exact ranOne_scene
  · exact ranOne_foldbackMode
  · exact ⟨fun v reg hreg hlt hv hfirst => ranOne_play_free h hreg hlt hv hfirst,
      fun v reg hreg hnone hv hbest howner => ranOne_play_steals h hreg hnone hv hbest howner,
      ranOne_play_shortage⟩
  · exact ⟨fun v hg => ranOne_stop_group.1 hg, fun v hg => ranOne_stop_group.2 hg⟩
  · exact ranOne_stop_others h hp
  · exact ranOne_voiceFade_over hroom hn hg hstate
  · exact ranOne_voiceFade_now hg hstate
  · exact ranOne_voiceFade_stops hg
  · exact ranOne_call

end Sys2Proof.Proofs
end

section
/-! SUPPORT. The steps of a detach (R173): the link, its load, the edit hold, and the ends of the prompt link's live calls
(R153); then the obligation of DETACH and of presence expiry. -/

namespace Sys2Proof.Machine

/-! ### A DETACHED link -/

theorem Link.append_detached {k : Link} (h : k.attached = false) (e : Event) : Link.append e k = k := by
  rcases Link.append_cases e k with ⟨hatt, -⟩ | ⟨hatt, -⟩ | ⟨-, same⟩
  · rw [h] at hatt
    cases hatt
  · rw [h] at hatt
    cases hatt
  · exact same

theorem Link.receives_detached {k : Link} (h : k.attached = false) (now : BitVec 32) (es : List Event) :
    k.receives now es = k := by
  induction es with
  | nil => rfl
  | cons e es ih =>
    rw [Link.receives, List.foldl_cons, Link.append_detached h]
    exact ih

/-! ### The link, its load and the edit hold (steps 1 to 3 of R173) -/

/-- The records of the end of a detaching link's load. -/
def loadEvents (l : Role) (s : State) : List Event :=
  match s.smi.load with
  | some ld => if ld.link = l then [{ kind := .loadFailed, reason := 9, aux1 := .ofNat 16 ld.phase.code }] else []
  | none => []

/-- The records that steps 1 to 3 raise. -/
def letGoEvents (l : Role) (s : State) : List Event :=
  loadEvents l s ++ (if s.store.holder = some l then [{ kind := .holdChanged, reason := 0 }] else [])

/-- What steps 1 to 3 of a detach leave. -/
structure LetGo (l : Role) (s t : State) : Prop where
  own : t.link l = (s.link l).detach
  holder : t.store.holder = if s.store.holder = some l then none else s.store.holder
  aborted : ∀ ld, s.smi.load = some ld → ld.link = l → LoadAborted s t
  kept : (∀ ld, s.smi.load = some ld → ld.link ≠ l) → t.smi = s.smi ∧ t.mix = s.mix ∧
    t.store = { s.store with holder := t.store.holder } ∧ t.seq = s.seq
  rest : t = { s with smi := t.smi, store := t.store, mix := t.mix, links := t.links, seq :=
    { t.seq with instances := s.seq.instances } }
  links : ∀ r, r ≠ l → t.link r = (s.link r).receives s.timing.showClock (letGoEvents l s)

theorem loadsOn_iff {l : Role} {s : State} : loadsOn l s = true ↔ ∃ ld, s.smi.load = some ld ∧ ld.link = l := by
  unfold loadsOn
  cases s.smi.load <;> simp

/-- The abort of a load (R16, R18), with its record. -/
theorem loadAborted_abortLoad {s : State} {ld : Load} (hld : s.smi.load = some ld) :
    LoadAborted s (abortLoad s) ∧ (abortLoad s).store.holder = s.store.holder ∧
      abortLoad s = { s with smi := (abortLoad s).smi, store := (abortLoad s).store, mix := (abortLoad s).mix,
                             seq := { (abortLoad s).seq with instances := s.seq.instances },
                             links := (abortLoad s).links } ∧
      ∀ r, (abortLoad s).link r = Link.append
        { ({ kind := .loadFailed, reason := 9, aux1 := .ofNat 16 ld.phase.code } : Event) with clock := s.timing.showClock }
        (s.link r) := by
  have fails : failLoad .aborted s = raise (loadFailedEvent .aborted ld.phase) (clearShow s) := by
    unfold failLoad
    rw [hld]
  have eq := abortLoad_eq s
  rw [fails] at eq
  refine ⟨⟨?_, fun tr d htr huser => abortLoad_port_load htr huser, abortLoad_port_other, ?_, ?_, ?_⟩, ?_, ?_, fun r => ?_⟩
  all_goals rw [eq]
  · rfl
  · rfl
  · rfl
  · rfl
  · rfl
  · rfl
  · exact link_raise (loadFailedEvent .aborted ld.phase) (clearShow s) r

/-- The state after the first two steps, before the edit hold is let go. -/
def loadLetGo (l : Role) (s : State) : State :=
  let t := s.setLink l (s.link l).detach
  if loadsOn l t then abortLoad t else t

/-- What the first two steps of a detach leave. -/
structure LoadLetGo (l : Role) (s t : State) : Prop where
  own : t.link l = (s.link l).detach
  holder : t.store.holder = s.store.holder
  aborted : ∀ ld, s.smi.load = some ld → ld.link = l → LoadAborted s t
  kept : (∀ ld, s.smi.load = some ld → ld.link ≠ l) → t.smi = s.smi ∧ t.mix = s.mix ∧ t.store = s.store ∧ t.seq = s.seq
  rest : t = { s with smi := t.smi, store := t.store, mix := t.mix, links := t.links, seq :=
    { t.seq with instances := s.seq.instances } }
  links : ∀ r, r ≠ l → t.link r = (s.link r).receives s.timing.showClock (loadEvents l s)

theorem loadLetGo_spec (l : Role) (s : State) : LoadLetGo l s (loadLetGo l s) := by
  obtain ⟨u, hu⟩ : ∃ u, u = s.setLink l (s.link l).detach := ⟨_, rfl⟩
  have own : u.link l = (s.link l).detach := hu ▸ State.link_setLink_self ..
  have others : ∀ r, r ≠ l → u.link r = s.link r := fun r hr => hu ▸ State.link_setLink_ne s l r _ hr
  by_cases hload : ∃ ld, s.smi.load = some ld ∧ ld.link = l
  · obtain ⟨ld, hld, hlink⟩ := hload
    have goes : loadLetGo l s = abortLoad u := by
      rw [loadLetGo, ← hu]
      exact if_pos (loadsOn_iff.mpr ⟨ld, hu ▸ hld, hlink⟩)
    have loaded : u.smi.load = some ld := by rw [hu]; exact hld
    obtain ⟨aborted, holder, rest, links⟩ := loadAborted_abortLoad (s := u) loaded
    have records : loadEvents l s = [{ kind := .loadFailed, reason := 9, aux1 := .ofNat 16 ld.phase.code }] := by
      rw [loadEvents, hld]
      exact if_pos hlink
    rw [goes]
    exact {
      own := by
        rw [links, own]
        exact Link.append_detached rfl _
      holder := holder.trans (by rw [hu]; rfl)
      aborted := fun _ _ _ => by
        rw [hu] at aborted ⊢
        exact aborted
      kept := fun h => absurd hlink (h ld hld)
      rest := rest.trans (by rw [hu]; rfl)
      links := fun r hr => by
        rw [links, others r hr, records, hu]
        rfl }
  · have stays : loadLetGo l s = u := by
      rw [loadLetGo, ← hu]
      exact if_neg fun h => hload (by rw [hu] at h; exact loadsOn_iff.mp h)
    have records : loadEvents l s = [] := by
      rw [loadEvents]
      split
      · next ld hld => exact if_neg fun h => hload ⟨ld, hld, h⟩
      · rfl
    rw [stays]
    exact {
      own := own
      holder := by rw [hu]; rfl
      aborted := fun ld hld h => absurd ⟨ld, hld, h⟩ hload
      kept := fun _ => by rw [hu]; exact ⟨rfl, rfl, rfl, rfl⟩
      rest := by rw [hu]; rfl
      links := fun r hr => by rw [others r hr, records]; rfl }

theorem detachStore_spec (l : Role) (s : State) : LetGo l s (detachStore l s) := by
  obtain ⟨t, ht⟩ : ∃ t, t = loadLetGo l s := ⟨_, rfl⟩
  have spec : LoadLetGo l s t := ht ▸ loadLetGo_spec l s
  have goes : detachStore l s = if t.store.holder = some l then changeHolder none t else t := by rw [ht]; rfl
  have records : letGoEvents l s = loadEvents l s ++
      if s.store.holder = some l then [{ kind := .holdChanged, reason := 0 }] else [] := rfl
  by_cases hheld : s.store.holder = some l
  · rw [if_pos (spec.holder.trans hheld)] at goes
    rw [if_pos hheld] at records
    have links : ∀ r, (changeHolder none t).link r =
        (t.link r).receives s.timing.showClock [{ kind := .holdChanged, reason := 0 }] := fun r => by
      rw [changeHolder, link_raise, spec.rest]
      rfl
    rw [goes]
    exact {
      own := by rw [links, spec.own, Link.receives_detached rfl]
      holder := (if_pos hheld).symm
      aborted := fun ld hld h => by
        obtain ⟨hsmi, hin, hout, hstore, hseq, hmix⟩ := spec.aborted ld hld h
        refine ⟨hsmi, hin, hout, ?_, hseq, hmix⟩
        show { t.store with holder := none } = _
        rw [hstore]
        rfl
      kept := fun h => by
        obtain ⟨hsmi, hmix, hstore, hseq⟩ := spec.kept h
        refine ⟨hsmi, hmix, ?_, hseq⟩
        show { t.store with holder := none } = _
        rw [hstore]
        rfl
      rest := by
        unfold changeHolder raise
        dsimp only
        rw [spec.rest]
      links := fun r hr => by rw [links, spec.links r hr, records, Link.receives_append] }
  · rw [if_neg (by rw [spec.holder]; exact hheld)] at goes
    rw [if_neg hheld, List.append_nil] at records
    rw [goes]
    exact {
      own := spec.own
      holder := by rw [if_neg hheld, spec.holder]
      aborted := spec.aborted
      kept := fun h => by
        obtain ⟨hsmi, hmix, hstore, hseq⟩ := spec.kept h
        exact ⟨hsmi, hmix, by rw [hstore], hseq⟩
      rest := spec.rest
      links := fun r hr => by rw [records]; exact spec.links r hr }

/-! ### Calls that end one after another (R153) -/

section EndCalls

variable {s t : State} {reason : CallEnd}

/-- The end of a call takes every call of its id off the lists. -/
theorem calls_endCallCore (id : Nat) (reason : CallEnd) (s : State) :
    (endCallCore id reason s).relay.waiting = s.relay.waiting.filter (fun d => d.id != id) ∧
      (endCallCore id reason s).relay.playing = s.relay.playing.filter (fun d => d.id != id) := by
  cases hc : callOf id s with
  | some c =>
    rw [(callLeaves_endCallCore hc reason).same]
    exact ⟨rfl, rfl⟩
  | none =>
    have absent : ∀ d ∈ s.relay.playing ++ s.relay.waiting, d.id ≠ id := fun d hd => by
      simpa using List.find?_eq_none.mp hc d hd
    have stays : endCallCore id reason s = s := by
      unfold endCallCore
      rw [hc]
    rw [stays, eq_comm, List.filter_eq_self, eq_comm, List.filter_eq_self]
    exact ⟨fun d hd => by simpa using absent d (List.mem_append_right _ hd),
      fun d hd => by simpa using absent d (List.mem_append_left _ hd)⟩

theorem calls_endCallCores (ids : List Nat) (reason : CallEnd) (s : State) :
    let t := ids.foldl (fun s id => endCallCore id reason s) s
    t.relay.waiting = s.relay.waiting.filter (fun d => ids.all fun id => d.id != id) ∧
      t.relay.playing = s.relay.playing.filter (fun d => ids.all fun id => d.id != id) := by
  induction ids generalizing s with
  | nil => simp
  | cons id ids ih =>
    obtain ⟨waiting, playing⟩ := calls_endCallCore id reason s
    obtain ⟨waiting', playing'⟩ := ih (endCallCore id reason s)
    refine ⟨waiting'.trans ?_, playing'.trans ?_⟩
    · rw [waiting, List.filter_filter]
      exact List.filter_congr fun d _ => by rw [List.all_cons, Bool.and_comm]
    · rw [playing, List.filter_filter]
      exact List.filter_congr fun d _ => by rw [List.all_cons, Bool.and_comm]

/-- What the ends of calls of different ids leave, with room for the releases. -/
structure CallsLeave (cs : List Call) (reason : CallEnd) (s t : State) : Prop where
  same : t = { s with
    stream := { s.stream with voices := t.stream.voices }, fades := t.fades,
    relay := { s.relay with zones := t.relay.zones, waiting := t.relay.waiting, playing := t.relay.playing,
                            tails := t.relay.tails },
    links := t.links }
  links : ∀ r, t.link r = (s.link r).receives s.timing.showClock (cs.map (callEndedEvent · reason))
  released : ∀ c ∈ cs, c ∈ s.relay.playing → ∀ z : ZoneNo, c.zones.getLsbD z = true → ReleasedAt z s t
  stands : ∀ z : ZoneNo, (∀ c ∈ cs, c ∈ s.relay.playing → c.zones.getLsbD z = false) → ZoneStands z s t

theorem callsLeave_endCallCores {cs : List Call} (hload : fadeLoad duckTargets s ≤ 256)
    (hids : ((s.relay.playing ++ s.relay.waiting).map (·.id)).Nodup)
    (hcs : ∀ c ∈ cs, c ∈ s.relay.playing ++ s.relay.waiting) (hnodup : (cs.map (·.id)).Nodup) :
    CallsLeave cs reason s ((cs.map (·.id)).foldl (fun s id => endCallCore id reason s) s) := by
  induction cs generalizing s with
  | nil =>
    exact ⟨rfl, fun r => rfl, fun c hc => absurd hc List.not_mem_nil, fun z _ => ⟨rfl, rfl⟩⟩
  | cons c cs ih =>
    obtain ⟨hc, hcs⟩ := List.forall_mem_cons.mp hcs
    obtain ⟨hnew, hnodup⟩ := List.nodup_cons.mp hnodup
    obtain ⟨u, hu⟩ : ∃ u, u = endCallCore c.id reason s := ⟨_, rfl⟩
    have found : callOf c.id s = some c := by
      cases hfind : callOf c.id s with
      | none => exact absurd (List.find?_eq_none.mp hfind c hc) (by simp)
      | some d =>
        have hd := List.mem_of_find?_eq_some hfind
        have hid : d.id = c.id := by simpa using List.find?_some hfind
        rw [List.inj_on_of_nodup_map hids hd hc hid]
    have leaves : CallLeaves c.id c reason s u := hu ▸ callLeaves_endCallCore found reason
    have waiting : u.relay.waiting = s.relay.waiting.filter (fun d => d.id != c.id) := by rw [leaves.same]
    have playing : u.relay.playing = s.relay.playing.filter (fun d => d.id != c.id) := by rw [leaves.same]
    have release : u.relay.release = s.relay.release := by rw [leaves.same]
    have timing : u.timing = s.timing := by rw [leaves.same]
    have other : ∀ d ∈ cs, (d.id != c.id) = true := fun d hd => by
      rw [bne_iff_ne]
      exact fun e => hnew (List.mem_map.mpr ⟨d, hd, e⟩)
    have stillPlaying : ∀ d ∈ cs, (d ∈ u.relay.playing ↔ d ∈ s.relay.playing) := fun d hd => by
      rw [playing, List.mem_filter]
      exact and_iff_left (other d hd)
    have rest := ih (s := u) (leaves.load.trans hload)
      (by
        rw [playing, waiting, ← List.filter_append]
        exact hids.sublist (List.filter_sublist.map _))
      (fun d hd => by
        rw [playing, waiting, ← List.filter_append]
        exact List.mem_filter.mpr ⟨hcs d hd, other d hd⟩) hnodup
    have isPlaying : Machine.isPlaying c.id s = true ↔ c ∈ s.relay.playing := isPlaying_iff found
    obtain ⟨es, -, hes, hlinks⟩ := leaves.events
    obtain ⟨t, ht⟩ : ∃ t, t = (cs.map (·.id)).foldl (fun s id => endCallCore id reason s) u := ⟨_, rfl⟩
    rw [← ht] at rest
    rw [List.map_cons, List.foldl_cons, ← hu, ← ht]
    exact {
      same := rest.same.trans (by rw [leaves.same])
      links := fun r => by
        rw [rest.links, hlinks, hes hload, timing]
        rfl
      released := fun d hd hplays z hz => by
        have after : ReleasedAt z s u → ReleasedAt z s t := fun h => by
          by_cases hlater : ∃ e ∈ cs, e ∈ s.relay.playing ∧ e.zones.getLsbD z = true
          · obtain ⟨e, he, heplays, hez⟩ := hlater
            exact h.again release (rest.released e he ((stillPlaying e he).mpr heplays) z hez)
          · refine h.stands (rest.stands z fun e he heplays => ?_)
            rw [← Bool.not_eq_true]
            exact fun hez => hlater ⟨e, he, (stillPlaying e he).mp heplays, hez⟩
        by_cases hfirst : c ∈ s.relay.playing ∧ c.zones.getLsbD z = true
        · exact after (leaves.released (isPlaying.mpr hfirst.1) z hfirst.2)
        · have hmem : d ∈ cs := (List.mem_cons.mp hd).resolve_left fun e => hfirst ⟨e ▸ hplays, e ▸ hz⟩
          refine ReleasedAt.of_stands (leaves.stands z ?_) release leaves.load
            (rest.released d hmem ((stillPlaying d hmem).mpr hplays) z hz)
          rw [← Bool.not_eq_true, ← Bool.not_eq_true, isPlaying, ← not_and_or]
          exact hfirst
      stands := fun z hz => by
        refine ZoneStands.trans (leaves.stands z ?_) (rest.stands z fun d hd hplays =>
          hz d (List.mem_cons_of_mem c hd) ((stillPlaying d hd).mp hplays))
        rw [← Bool.not_eq_true, ← Bool.not_eq_true, isPlaying, ← not_and_or]
        rintro ⟨hplays, hbit⟩
        rw [hz c List.mem_cons_self hplays] at hbit
        cases hbit }

end EndCalls

/-! ### The scan starts no call that was not there (R149, R153) -/

/-- No live call of the prompt link waits or plays. -/
def NoPromptLive (s : State) : Prop := ∀ c ∈ s.relay.playing ++ s.relay.waiting, c.isPromptLive = false

section NoPromptLive

variable {s t : State} {c : Call}

theorem NoPromptLive.sublist (h : NoPromptLive s) (hplaying : t.relay.playing.Sublist s.relay.playing)
    (hwaiting : t.relay.waiting.Sublist s.relay.waiting) : NoPromptLive t :=
  fun c hc => h c ((hplaying.append hwaiting).mem hc)

theorem NoPromptLive.of_relay (h : NoPromptLive s) (hplaying : t.relay.playing = s.relay.playing)
    (hwaiting : t.relay.waiting = s.relay.waiting) : NoPromptLive t :=
  h.sublist (by rw [hplaying]) (by rw [hwaiting])

theorem NoPromptLive.endCallCore (h : NoPromptLive s) (id : Nat) (reason : CallEnd) :
    NoPromptLive (endCallCore id reason s) := by
  obtain ⟨waiting, playing⟩ := calls_endCallCore id reason s
  exact h.sublist (by rw [playing]; exact List.filter_sublist) (by rw [waiting]; exact List.filter_sublist)

theorem NoPromptLive.allocate (h : NoPromptLive s) {r : AllocReq} {a : Allocated} (ha : allocate r s = some a) :
    NoPromptLive a.state := by
  unfold Machine.allocate at ha
  split at ha
  · next v _ =>
    cases ha
    have same := takeFree_same r v s
    exact h.of_relay (by rw [same]) (by rw [same])
  · split at ha
    · next v _ =>
      cases ha
      show NoPromptLive (tellVictim (s.voice v) v (stealVoice r v s)).1
      have stolen : NoPromptLive (stealVoice r v s) := h.of_relay rfl rfl
      unfold tellVictim
      split
      · exact stolen
      · rw [checkEnd_same]
        exact stolen
      · split
        · refine NoPromptLive.endCallCore ?_ _ _
          exact stolen
        · exact stolen
    · cases ha

theorem NoPromptLive.beginCall (h : NoPromptLive s) (hc : c.isPromptLive = false) (v : Option VoiceNo) :
    NoPromptLive (beginCall c v s) := by
  have relay : ∀ u, (attackZones c.id c.depth c.zones u).relay.playing = u.relay.playing ∧
      (attackZones c.id c.depth c.zones u).relay.waiting = u.relay.waiting := fun u => by
    rw [(ducksMove_attackZones c.id c.depth c.zones u).relay]
    exact ⟨rfl, rfl⟩
  intro d hd
  obtain ⟨playing, waiting⟩ := relay { removeCall c.id s with relay := { (removeCall c.id s).relay with
    playing := (removeCall c.id s).relay.playing ++ [{ c with gate := startGate c s }] } }
  have hd : d ∈ (attackZones c.id c.depth c.zones _).relay.playing ++
    (attackZones c.id c.depth c.zones _).relay.waiting := hd
  rw [playing, waiting] at hd
  rcases List.mem_append.mp hd with hd | hd
  · rcases List.mem_append.mp hd with hd | hd
    · exact h d (List.mem_append_left _ (List.mem_filter.mp hd).1)
    · rw [List.mem_singleton.mp hd]
      exact hc
  · exact h d (List.mem_append_right _ (List.mem_filter.mp hd).1)

theorem NoPromptLive.startCall (h : NoPromptLive s) (hc : c.isPromptLive = false) :
    NoPromptLive (startCall c s).state := by
  unfold Machine.startCall
  split
  · split
    · next a ha => exact (h.allocate ha).beginCall hc _
    · exact h.endCallCore _ _
  · exact h.beginCall hc none

theorem NoPromptLive.scanOnce {cs : List Call} (hcs : ∀ c ∈ cs, c.isPromptLive = false) (h : NoPromptLive s)
    (claimed : BitVec 16) (again : Bool) : NoPromptLive (scanOnce cs claimed again s).1 := by
  induction cs generalizing s claimed again with
  | nil => exact h
  | cons c cs ih =>
    obtain ⟨hc, hcs⟩ := List.forall_mem_cons.mp hcs
    unfold Machine.scanOnce
    split
    · exact ih hcs (h.startCall hc) _ _
    · exact ih hcs h _ _

theorem NoPromptLive.scan (h : NoPromptLive s) : NoPromptLive (scan s) := by
  have fuel : ∀ (n : Nat) (u : State), NoPromptLive u → NoPromptLive (scanFuel n u) := by
    intro n
    induction n with
    | zero => exact fun u hu => hu
    | succ n ih =>
      intro u hu
      have once := NoPromptLive.scanOnce (fun c hc => hu c (List.mem_append_right _ hc)) hu 0 false
      unfold scanFuel
      dsimp only
      split
      · exact ih _ once
      · exact once
  exact fuel _ s h

end NoPromptLive

end Sys2Proof.Machine
end

section
/-! The settling of the obligation of DETACH and of presence expiry. -/

namespace Sys2Proof.Machine

section Detach

variable {l : Role} {s t w : State}

/-- `Detached` by its parts that name the link, the load and the edit hold, after what the calls or talk of the link
did. -/
theorem LetGo.carries (h : LetGo l s w) (g : Within 1 w t) :
    t.link l = (s.link l).detach ∧ t.store.holder = (if s.store.holder = some l then none else s.store.holder) ∧
    (∀ ld, s.smi.load = some ld → ld.link = l → LoadAborted s t) ∧
    ((∀ ld, s.smi.load = some ld → ld.link ≠ l) → t.smi = s.smi ∧ t.mix = s.mix ∧
      t.store = { s.store with holder := t.store.holder } ∧ t.seq = { s.seq with instances := t.seq.instances }) ∧
    t.showStop = s.showStop ∧ t.timing = s.timing := by
  obtain ⟨mix, -, showStop⟩ := g.levels (Nat.le_refl 1)
  have seq : t.seq = { w.seq with instances := t.seq.instances } := by
    have e := g.seq
    rw [g.ids (Nat.le_refl 1)] at e
    exact e
  obtain ⟨es, -, links⟩ := g.events
  refine ⟨?_, ?_, fun ld hld hlink => ?_, fun hnot => ?_, ?_, ?_⟩
  · rw [links, h.own]
    exact Link.receives_detached rfl _ _
  · rw [g.store]
    exact h.holder
  · obtain ⟨hsmi, hin, hout, hstore, hseq, hmix⟩ := h.aborted ld hld hlink
    unfold LoadAborted
    rw [g.smi, g.store, mix]
    refine ⟨hsmi, hin, hout, hstore, ?_, hmix⟩
    rw [seq, hseq]
  · obtain ⟨hsmi, hmix, hstore, hseq⟩ := h.kept hnot
    rw [g.smi, g.store, mix]
    refine ⟨hsmi, hmix, hstore, ?_⟩
    rw [seq, hseq]
  · rw [showStop, h.rest]
  · rw [g.timing, h.rest]

/-- The end of the prompt link's live calls leaves none of them (R153). -/
theorem noPromptLive_endCalls (w : State) : NoPromptLive (endCalls (promptCalls w) .linkLost w) := by
  have ids : ∀ c ∈ w.relay.playing ++ w.relay.waiting, c.isPromptLive = true → c.id ∈ promptCalls w := fun c hc hlive =>
    List.mem_map.mpr ⟨c, List.mem_filter.mpr ⟨hc, hlive⟩, rfl⟩
  unfold endCalls
  split
  · next hnone =>
    intro c hc
    rw [← Bool.not_eq_true]
    intro hlive
    have hmem := ids c hc hlive
    rw [hnone] at hmem
    cases hmem
  · obtain ⟨waiting, playing⟩ := calls_endCallCores (promptCalls w) .linkLost w
    refine NoPromptLive.scan fun c hc => ?_
    have gone : c ∈ w.relay.playing ++ w.relay.waiting ∧ c.id ∉ promptCalls w := by
      rw [playing, waiting, ← List.filter_append, List.mem_filter, List.all_eq_true] at hc
      exact ⟨hc.1, fun h => by simpa using hc.2 c.id h⟩
    rw [← Bool.not_eq_true]
    exact fun hlive => gone.2 (ids c gone.1 hlive)

/-- The end of the prompt link's live calls where no other call waits, with room for the releases (R152, R153). -/
theorem promptCallsEnded_endCalls (hwaiting : ∀ c ∈ w.relay.waiting, c.isPromptLive = true)
    (hids : ((w.relay.playing ++ w.relay.waiting).map (·.id)).Nodup) (hroom : w.fades.length + 16 ≤ 256) :
    let t := endCalls (promptCalls w) .linkLost w
    PromptCallsEnded w t ∧ ∀ r, t.link r = (w.link r).receives w.timing.showClock
      (((w.relay.playing ++ w.relay.waiting).filter Call.isPromptLive).map (callEnded · 6)) := by
  obtain ⟨cs, hcs⟩ : ∃ cs, cs = (w.relay.playing ++ w.relay.waiting).filter Call.isPromptLive := ⟨_, rfl⟩
  have ids : promptCalls w = cs.map (·.id) := by rw [hcs]; rfl
  obtain ⟨u, hu⟩ : ∃ u, u = (cs.map (·.id)).foldl (fun s id => endCallCore id .linkLost s) w := ⟨_, rfl⟩
  have mem : ∀ c, c ∈ cs ↔ c ∈ w.relay.playing ++ w.relay.waiting ∧ c.isPromptLive = true := fun c => by
    rw [hcs, List.mem_filter]
  have leaves : CallsLeave cs .linkLost w u := hu ▸ callsLeave_endCallCores
    ((fadeLoad_le duckTargets w).trans hroom) hids (fun c hc => ((mem c).mp hc).1)
    (by rw [hcs]; exact hids.sublist (List.filter_sublist.map _))
  obtain ⟨waiting, playing⟩ := calls_endCallCores (cs.map (·.id)) .linkLost w
  rw [← hu] at waiting playing
  -- A call is ended exactly where it is a live call of the prompt link: ids are not shared.
  have ended : ∀ c ∈ w.relay.playing ++ w.relay.waiting,
      ((cs.map (·.id)).all fun id => c.id != id) = !c.isPromptLive := by
    intro c hc
    cases hlive : c.isPromptLive with
    | true =>
      rw [Bool.not_true, List.all_eq_false]
      exact ⟨c.id, List.mem_map.mpr ⟨c, (mem c).mpr ⟨hc, hlive⟩, rfl⟩, by simp⟩
    | false =>
      rw [Bool.not_false, List.all_eq_true]
      intro id hid
      obtain ⟨d, hd, rfl⟩ := List.mem_map.mp hid
      obtain ⟨hd, hdlive⟩ := (mem d).mp hd
      rw [bne_iff_ne]
      intro e
      rw [List.inj_on_of_nodup_map hids hc hd e, hdlive] at hlive
      cases hlive
  have emptied : u.relay.waiting = [] := by
    rw [waiting, List.filter_eq_nil_iff]
    intro c hc
    rw [ended c (List.mem_append_right _ hc), hwaiting c hc]
    exact Bool.false_ne_true
  have taken : endCalls (promptCalls w) .linkLost w = u := by
    have scanned : endCalls (cs.map (·.id)) .linkLost w = scan u ∨ endCalls (cs.map (·.id)) .linkLost w = u := by
      rw [hu]
      unfold endCalls
      cases cs.map (·.id) with
      | nil => exact .inr rfl
      | cons id ids => exact .inl rfl
    rw [ids]
    exact scanned.elim (fun h => h.trans (scan_nil emptied)) id
  rw [taken]
  refine ⟨⟨emptied, ?_, fun c hc hlive z hz => ?_, fun z hz => ?_, ?_⟩, fun r => ?_⟩
  · rw [playing]
    exact List.filter_congr fun c hc => ended c (List.mem_append_left _ hc)
  · exact (leaves.released c ((mem c).mpr ⟨List.mem_append_left _ hc, hlive⟩) hc z hz).released
  · exact (leaves.stands z fun c hc hplays => hz c hplays ((mem c).mp hc).2).1
  · rw [leaves.same]
  · rw [leaves.links, ← hcs]
    rfl

/-- A detach has the effects of R173. -/
theorem detached_detachEffects (l : Role) (s : State) : Detached l s (detachEffects l s) := by
  obtain ⟨w, hw⟩ : ∃ w, w = detachStore l s := ⟨_, rfl⟩
  have spec : LetGo l s w := hw ▸ detachStore_spec l s
  have relay : w.relay = s.relay := by rw [spec.rest]
  have stream : w.stream = s.stream := by rw [spec.rest]
  have fades : w.fades = s.fades := by rw [spec.rest]
  have instances : w.seq.instances = s.seq.instances := by rw [spec.rest]
  have timing : w.timing = s.timing := by rw [spec.rest]
  have foldback : w.foldback = s.foldback := by rw [spec.rest]
  have records : detachEvents l s = letGoEvents l s ++ if l = .prompt then
      ((s.relay.playing ++ s.relay.waiting).filter Call.isPromptLive).map (callEnded · 6) else [] := rfl
  have quiet : l ≠ .prompt → ∀ r, r ≠ l → w.link r = (s.link r).receives s.timing.showClock (detachEvents l s) :=
    fun hl r hr => by rw [spec.links r hr, records, if_neg hl, List.append_nil]
  cases l with
  | console =>
    have goes : detachEffects .console s = w := by rw [hw]; rfl
    rw [goes]
    obtain ⟨own, holder, aborted, kept, showStop, clock⟩ := spec.carries (Within.refl 1 w)
    exact ⟨own, holder, aborted, kept, nofun, nofun, fun hl => ⟨relay, stream, instances, fades, quiet hl⟩, foldback,
      showStop, clock⟩
  | monitor =>
    have goes : detachEffects .monitor s = endTalk .linkLost w := by rw [hw]; rfl
    have ends : endTalk .linkLost w = { w with foldback := match s.foldback.talk with
        | some _ => { s.foldback with talk := none, lastEnd := some { cause := .linkLost, time := s.timing.showClock } }
        | none => s.foldback } := by
      unfold endTalk
      cases htalk : s.foldback.talk with
      | none =>
        rw [foldback, htalk]
        dsimp only
        rw [← foldback]
      | some k =>
        rw [foldback, htalk, timing]
    rw [goes, ends]
    obtain ⟨own, holder, aborted, kept, showStop, clock⟩ := spec.carries (Within.refl 1 w)
    refine ⟨own, holder, aborted, kept, nofun, nofun, fun hl => ⟨relay, stream, instances, fades, quiet hl⟩, ?_,
      showStop, clock⟩
    cases s.foldback.talk <;> rfl
  | prompt =>
    have goes : detachEffects .prompt s = endCalls (promptCalls w) .linkLost w := by rw [hw]; rfl
    have within : Within 1 w (endCalls (promptCalls w) .linkLost w) := (Within.refl 1 w).endCalls (Nat.le_refl 1)
    rw [goes]
    obtain ⟨own, holder, aborted, kept, showStop, clock⟩ := spec.carries within
    refine ⟨own, holder, aborted, kept, fun _ => noPromptLive_endCalls w, fun _ hwaiting hids hroom => ?_,
      fun h => absurd rfl h, ?_, showStop, clock⟩
    · obtain ⟨⟨emptied, playing, released, stands, table⟩, links⟩ := promptCallsEnded_endCalls (w := w)
        (by rw [relay]; exact hwaiting) (by rw [relay]; exact hids) (by rw [fades]; exact hroom)
      refine ⟨⟨emptied, by rw [playing, relay], fun c hc hlive z hz => ?_, fun z hz => ?_, by rw [table, instances]⟩,
        fun r hr => ?_⟩
      · exact (released c (by rw [relay]; exact hc) hlive z hz).of_eq relay fades
      · exact (stands z (by rw [relay]; exact hz)).trans (zone?_congr (by rw [relay]))
      · rw [links, spec.links r hr, timing, relay, records, if_pos rfl, Link.receives_append]
    · exact (within.levels (Nat.le_refl 1)).2.1.trans foldback

/-- The presence reload of the request does not outlive the detach. -/
theorem detachEffects_reloadPresence (l : Role) (s : State) :
    detachEffects l (reloadPresence l s) = detachEffects l s := by
  have same : (reloadPresence l s).setLink l ((reloadPresence l s).link l).detach = s.setLink l (s.link l).detach := by
    unfold reloadPresence
    split
    · rw [State.setLink_setLink, State.link_setLink_self]
      rfl
    · rfl
  unfold detachEffects
  rw [same]

end Detach

end Sys2Proof.Machine

namespace Sys2Proof.Proofs
open Sys2Proof.Machine

/-- Settles O19: both rows run the effects of a detach, which `detached_detachEffects` says. -/
theorem linkDetaches : Obligations.LinkDetaches := by
  intro l s hrun hatt
  refine ⟨fun tag => ⟨detachEffects l s, ?_, detached_detachEffects l s⟩, fun hout => ⟨detachEffects l s, ?_,
    detached_detachEffects l s⟩, fun hleft => ?_⟩
  · have serves : Serves l 0x02 s := ⟨hrun, hatt, by cases l <;> decide⟩
    refine next_serve_of_serves serves tag ?_
    rw [detachEffects_reloadPresence]
    rfl
  · refine congrArg Host.Outcome.next ((occur_running _ s hrun).trans ?_)
    exact if_pos ⟨hatt, hout⟩
  · refine congrArg Host.Outcome.next ((occur_running _ s hrun).trans ?_)
    exact if_neg fun h => hleft h.2

end Sys2Proof.Proofs
end

section
/-! SUPPORT. The reading of a show image: the words of a completed read taken into the load, the records judged, and the
phases ended (R12, R15, R16); then the obligations of load reads. -/

namespace Sys2Proof.Machine

/-! ### Records placed beside the others (R22, R25) -/

/-- A cue whose number is not in the list joins it, whatever its order. -/
theorem placeCue_new_perm {c : Cue} {cs : List Cue} (h : ∀ d ∈ cs, d.num ≠ c.num) : (placeCue c cs).Perm (c :: cs) := by
  induction cs with
  | nil => exact List.Perm.refl _
  | cons d ds ih =>
    obtain ⟨hd, hds⟩ := List.forall_mem_cons.mp h
    unfold placeCue
    split
    · exact List.Perm.refl _
    · rw [if_neg hd.symm]
      exact ((ih hds).cons d).trans (List.Perm.swap c d ds)

theorem placeScene_new_perm {sc : Scene} {ss : List Scene} (h : ∀ d ∈ ss, d.id ≠ sc.id) :
    (placeScene sc ss).Perm (sc :: ss) := by
  induction ss with
  | nil => exact List.Perm.refl _
  | cons d ds ih =>
    obtain ⟨hd, hds⟩ := List.forall_mem_cons.mp h
    unfold placeScene
    split
    · exact List.Perm.refl _
    · rw [if_neg hd.symm]
      exact ((ih hds).cons d).trans (List.Perm.swap sc d ds)

theorem cueOf_none_iff {n : CueNum} {s : State} : cueOf n s = none ↔ ∀ d ∈ s.store.cues, d.num ≠ n := by
  rw [cueOf, List.find?_eq_none]
  simp

theorem sceneOf_none_iff {id : Nat} {s : State} : sceneOf id s = none ↔ ∀ d ∈ s.store.scenes, d.id ≠ id := by
  rw [sceneOf, List.find?_eq_none]
  simp

theorem actionTotal_placeCue {c : Cue} {cs : List Cue} (h : ∀ d ∈ cs, d.num ≠ c.num) :
    (placeCue c cs).length = cs.length + 1 ∧ actionTotal (placeCue c cs) = actionTotal cs + c.actions.length := by
  have perm := placeCue_new_perm h
  refine ⟨perm.length_eq, ?_⟩
  rw [actionTotal_perm perm, actionTotal_cons, Nat.add_comm]

theorem entryTotal_placeScene {sc : Scene} {ss : List Scene} (h : ∀ d ∈ ss, d.id ≠ sc.id) :
    (placeScene sc ss).length = ss.length + 1 ∧ entryTotal (placeScene sc ss) = entryTotal ss + sc.entries.length := by
  have perm := placeScene_new_perm h
  refine ⟨perm.length_eq, ?_⟩
  rw [entryTotal_perm perm, entryTotal_cons, Nat.add_comm]

/-! ### A read that completes (R6, R15) -/

section Reads

variable {s t u : State} {ld l : Load} {words : List Word} {h : Header} {phase : LoadPhase}

/-- The state in which a load stands after a read of it has left the port. -/
def reading (l : Load) (s : State) : State := { s with smi := { s.smi with port := .idle, load := some l } }

/-- A load that has taken words. -/
def Load.taking (ld : Load) (words : List Word) : Load :=
  { ld with words := ld.words ++ words, next := ld.next + words.length, remaining := ld.remaining - words.length }

/-- A read of the load that completes takes its words into the phase and ends the phases that have none left. -/
theorem exec_loadReadComplete_taken {tr : Transfer} (hrun : s.timing.inReset = false) (hport : s.smi.port = .fetch tr)
    (hphase : tr.phase = .transfer) (hlen : words.length = tr.len) (huser : tr.user = .load false)
    (hld : s.smi.load = some ld) :
    exec (.loadReadComplete words) s = .next (endPhases 4 (takeRecords (reading (ld.taking words) s))) := by
  refine congrArg Host.Outcome.next ((occur_running _ s hrun).trans ?_)
  rw [completeLoadRead, hport]
  dsimp only
  rw [if_pos ⟨hphase, hlen⟩, huser]
  show endPhases 4 (takeRecords (takeWords words { s with smi := { s.smi with port := .idle } })) = _
  rw [takeWords]
  dsimp only
  rw [hld]
  rfl

theorem endPhases_none (hld : t.smi.load = none) (n : Nat) : endPhases n t = t := by
  cases n with
  | zero => rfl
  | succ n => rw [endPhases, hld]

/-- A phase with words to read goes on. -/
theorem endPhases_reads (hld : t.smi.load = some l) (hleft : l.remaining ≠ 0) (n : Nat) : endPhases n t = t := by
  cases n with
  | zero => rfl
  | succ n =>
    rw [endPhases, hld]
    exact if_neg hleft

theorem endPhases_ends (hld : t.smi.load = some l) (hleft : l.remaining = 0) (n : Nat) :
    endPhases (n + 1) t = endPhases n (endPhase l t) := by
  rw [endPhases, hld]
  exact if_pos hleft

theorem failLoad_load (why : LoadFailure) (t : State) : (failLoad why t).smi.load = none := by
  rcases failLoad_cases why t with ⟨h, e⟩ | ⟨ld, -, e⟩
  · rw [e, h]
  · rw [e]
    rfl

/-- A load that failed has no phase to end. -/
theorem endPhases_failLoad (why : LoadFailure) (t : State) (n : Nat) : endPhases n (failLoad why t) = failLoad why t :=
  endPhases_none (failLoad_load why t) n

theorem LoadOnly.reading (l : Load) (s : State) : LoadOnly s (reading l s) := ⟨rfl, rfl, rfl, rfl, rfl, rfl, rfl, rfl, rfl⟩

theorem takeRecords_waits (hphase : l.phase = .header ∨ l.phase = .regions) : takeRecords (reading l s) = reading l s := by
  show (match l.phase, l.header with
    | .header, _ => reading l s
    | .regions, _ => reading l s
    | _, none => reading l s
    | _, some h => _) = _
  rcases hphase with e | e <;> rw [e]

/-- In SCENES and CUES the records wholly taken are judged (R15). -/
theorem takeRecords_judges (hphase : phase = .scenes ∨ phase = .cues) (hl : l.phase = phase) (hheader : l.header = some h)
    (hended : l.ended = false) : takeRecords (reading l s) =
      match judgeRecords phase h l.regions (l.words.length + 1) (l.words.length + l.remaining) l.words (reading l s) with
      | .error why => failLoad why (reading l s)
      | .ok r => setLoad { l with words := r.2.1, ended := r.2.2 } r.1 := by
  unfold takeRecords
  show (match l.phase, l.header with
    | .header, _ => reading l s
    | .regions, _ => reading l s
    | _, none => reading l s
    | phase, some h =>
      if l.ended then setLoad { l with words := [] } (reading l s)
      else match judgeRecords phase h l.regions (l.words.length + 1) (l.words.length + l.remaining) l.words (reading l s) with
        | .error why => failLoad why (reading l s)
        | .ok r => setLoad { l with words := r.2.1, ended := r.2.2 } r.1) = _
  rcases hphase with rfl | rfl <;> rw [hl, hheader, hended] <;> rfl

/-! ### Records judged (R12, R15) -/

variable {regions : List Region} {ws : List Word} {left n : Nat}

/-- A record that would go past the block's end. -/
theorem judgeRecords_short (hws : ws ≠ []) (hleft : left < statedLength ws) (n : Nat) (s : State) :
    judgeRecords phase h regions (n + 1) left ws s =
      if recordsDone phase h s then .ok (s, [], true) else .error .badRecord := by
  cases ws with
  | nil => exact absurd rfl hws
  | cons w ws =>
    rw [judgeRecords]
    exact if_pos hleft

/-- A record not wholly taken waits for more words. -/
theorem judgeRecords_waits (hws : ws ≠ []) (hleft : statedLength ws ≤ left) (hlen : ws.length < statedLength ws) (n : Nat)
    (s : State) : judgeRecords phase h regions (n + 1) left ws s = .ok (s, ws, false) := by
  cases ws with
  | nil => exact absurd rfl hws
  | cons w ws =>
    rw [judgeRecords]
    exact (if_neg (Nat.not_lt.mpr hleft)).trans (if_pos hlen)

/-- A record wholly taken is judged, and the words after it next. -/
theorem judgeRecords_whole {rec rest : List Word} (hrec : rec ≠ []) (hstated : statedLength (rec ++ rest) = rec.length)
    (hleft : rec.length ≤ left) (n : Nat) (s : State) :
    judgeRecords phase h regions (n + 1) left (rec ++ rest) s =
      match judgeRecord phase h regions rec s with
      | .error why => if recordsDone phase h s ∧ why = .badRecord then .ok (s, [], true) else .error why
      | .ok t => judgeRecords phase h regions n (left - rec.length) rest t := by
  cases rec with
  | nil => exact absurd rfl hrec
  | cons w rec =>
    rw [List.cons_append, judgeRecords]
    rw [← List.cons_append, hstated, if_neg (Nat.not_lt.mpr hleft),
      if_neg (by rw [List.length_append]; exact Nat.not_lt.mpr (Nat.le_add_right _ _)), List.take_left, List.drop_left]
      <;> rfl

theorem judgeRecords_nil (n left : Nat) (s : State) :
    judgeRecords phase h regions n left [] s = .ok (s, [], false) := by
  cases n <;> rfl

theorem judgeScene_duplicate {sc : Scene} (hread : readSceneRecord ws = .ok sc) (hdup : (sceneOf sc.id s).isSome = true) :
    judgeScene h ws s = .error .duplicate := by
  rw [judgeScene, hread]
  exact if_pos hdup

theorem judgeScene_new {sc : Scene} (hread : readSceneRecord ws = .ok sc) (hnew : sceneOf sc.id s = none) :
    judgeScene h ws s =
      if h.sceneCount < s.store.scenes.length + 1 ∨ h.entryCount < entryTotal s.store.scenes + sc.entries.length then
        .error .countMismatch
      else .ok { s with store := { s.store with scenes := placeScene sc s.store.scenes } } := by
  rw [judgeScene, hread]
  exact if_neg (by rw [hnew]; exact Bool.false_ne_true)

theorem judgeCue_duplicate {c : Cue} (hread : readCueRecord regions ws = .ok c) (hdup : (cueOf c.num s).isSome = true) :
    judgeCue h regions ws s = .error .duplicate := by
  rw [judgeCue, hread]
  exact if_pos hdup

theorem firstFailing_some {ok : Action → Bool} {as : List Action} (h : ∃ a ∈ as, ok a = false) (pos : Nat) :
    (firstFailing ok pos as).isSome = true := by
  induction as generalizing pos with
  | nil =>
    obtain ⟨a, ha, -⟩ := h
    cases ha
  | cons b as ih =>
    unfold firstFailing
    split
    · next hb =>
      obtain ⟨a, ha, hbad⟩ := h
      refine ih ⟨a, (List.mem_cons.mp ha).resolve_left fun e => ?_, hbad⟩ _
      rw [e, hb] at hbad
      cases hbad
    · rfl

theorem judgeCue_badReference {c : Cue} (hread : readCueRecord regions ws = .ok c) (hnew : cueOf c.num s = none)
    (hbad : ∃ a ∈ c.actions, referenceCheck regions s.store.scenes a = false) :
    judgeCue h regions ws s = .error .badReference := by
  rw [judgeCue, hread]
  exact (if_neg (by rw [hnew]; exact Bool.false_ne_true)).trans (if_pos (firstFailing_some hbad 1))

theorem judgeCue_new {c : Cue} (hread : readCueRecord regions ws = .ok c) (hnew : cueOf c.num s = none)
    (hrefs : ∀ a ∈ c.actions, referenceCheck regions s.store.scenes a = true) :
    judgeCue h regions ws s =
      if h.cueCount < s.store.cues.length + 1 ∨ h.actionCount < actionTotal s.store.cues + c.actions.length then
        .error .countMismatch
      else .ok { s with store := { s.store with cues := placeCue c s.store.cues } } := by
  rw [judgeCue, hread]
  exact (if_neg (by rw [hnew]; exact Bool.false_ne_true)).trans
    (if_neg (by rw [firstFailing_none hrefs]; exact Bool.false_ne_true))

/-! ### One record, wholly taken -/

/-- The records of a phase taken where the words are one whole record. -/
theorem takeRecords_one (hphase : phase = .scenes ∨ phase = .cues) (hl : l.phase = phase) (hheader : l.header = some h)
    (hended : l.ended = false) (hws : l.words ≠ []) (hstated : statedLength l.words = l.words.length) :
    (∀ why, judgeRecord phase h l.regions l.words (reading l s) = .error why →
      (recordsDone phase h s = false ∨ why ≠ .badRecord) → takeRecords (reading l s) = failLoad why (reading l s)) ∧
    ∀ t, judgeRecord phase h l.regions l.words (reading l s) = .ok t →
      takeRecords (reading l s) = setLoad { l with words := [], ended := false } t := by
  have judged := judgeRecords_whole (phase := phase) (h := h) (regions := l.regions) (rest := [])
    (left := l.words.length + l.remaining) hws (by rw [List.append_nil]; exact hstated) (Nat.le_add_right _ _)
    l.words.length (reading l s)
  have taken := takeRecords_judges (s := s) hphase hl hheader hended
  rw [List.append_nil] at judged
  rw [judged] at taken
  refine ⟨fun why hwhy hreal => ?_, fun t ht => ?_⟩
  · rw [taken, hwhy]
    dsimp only
    rw [if_neg fun hc => ?_]
    rcases hreal with hreal | hreal
    · rw [show recordsDone phase h (reading l s) = recordsDone phase h s by cases phase <;> rfl, hreal] at hc
      exact Bool.false_ne_true hc.1
    · exact hreal hc.2
  · rw [taken, ht]
    dsimp only
    rw [judgeRecords_nil]

end Reads

end Sys2Proof.Machine
end

section
/-! The settling of the obligation of a load read, phase by phase. -/

namespace Sys2Proof.Machine

section Phases

variable {s t u : State} {ld l : Load} {words : List Word} {h : Header} {phase : LoadPhase} {why : LoadFailure}

/-- The failure of a load, from a state that moved nothing but the load and the store (R16). -/
theorem loadFailed_failLoad (hu : LoadOnly s u) (hl : u.smi.load = some l) (hphase : l.phase = phase) (why : LoadFailure) :
    LoadFailed why phase s (failLoad why u) :=
  hphase ▸ hu.failed hl why

/-- The end of HEADER (R15). -/
theorem endPhases_header (hphase : l.phase = .header) (hleft : l.remaining = 0) (s : State) :
    (∀ why, readHeader l.words = .error why → endPhases 4 (reading l s) = failLoad why (reading l s)) ∧
    ∀ h, readHeader l.words = .ok h → endPhases 4 (reading l s) = endPhases 3 (reading (startPhase .regions h l) s) := by
  have ended := endPhases_ends (t := reading l s) rfl hleft 3
  unfold endPhase at ended
  rw [hphase] at ended
  refine ⟨fun why hw => ?_, fun h hh => ?_⟩
  · rw [ended, hw]
    exact endPhases_failLoad _ _ 3
  · rw [ended, hh]
    rfl

/-- The end of REGIONS (R15). -/
theorem endPhases_regions (hphase : l.phase = .regions) (hheader : l.header = some h) (hleft : l.remaining = 0) (n : Nat)
    (s : State) :
    (readRegions l.words = none → endPhases (n + 1) (reading l s) = failLoad .pastEnd (reading l s)) ∧
    ∀ rs, readRegions l.words = some rs → endPhases (n + 1) (reading l s) =
      endPhases n (reading (startPhase .scenes h { l with regions := rs }) s) := by
  have ended := endPhases_ends (t := reading l s) rfl hleft n
  unfold endPhase at ended
  rw [hphase, hheader] at ended
  refine ⟨fun hr => ?_, fun rs hr => ?_⟩
  · rw [ended, hr]
    exact endPhases_failLoad _ _ n
  · rw [ended, hr]
    rfl

/-- The end of SCENES or CUES with words left excess or other counts than the header's (R12). -/
theorem endPhases_mismatch (hphase : phase = .scenes ∨ phase = .cues) (hl : l.phase = phase) (hheader : l.header = some h)
    (hleft : l.remaining = 0) (ht : t.smi.load = some l)
    (hbad : l.ended = true ∨
      phase = .scenes ∧ (t.store.scenes.length ≠ h.sceneCount ∨ entryTotal t.store.scenes ≠ h.entryCount) ∨
      phase = .cues ∧ (t.store.cues.length ≠ h.cueCount ∨ actionTotal t.store.cues ≠ h.actionCount)) (n : Nat) :
    endPhases (n + 1) t = failLoad .countMismatch t := by
  have ended := endPhases_ends ht hleft n
  rw [ended, endPhase, hl, hheader]
  rcases hphase with rfl | rfl
  · have excess : l.ended = true ∨ t.store.scenes.length ≠ h.sceneCount ∨ entryTotal t.store.scenes ≠ h.entryCount := by
      rcases hbad with hb | ⟨-, hb⟩ | ⟨hb, -⟩
      · exact .inl hb
      · exact .inr hb
      · cases hb
    exact (congrArg (endPhases n) (if_pos excess)).trans (endPhases_failLoad _ _ n)
  · have excess : l.ended = true ∨ t.store.cues.length ≠ h.cueCount ∨ actionTotal t.store.cues ≠ h.actionCount := by
      rcases hbad with hb | ⟨hb, -⟩ | ⟨-, hb⟩
      · exact .inl hb
      · cases hb
      · exact .inr hb
    exact (congrArg (endPhases n) (if_pos excess)).trans (endPhases_failLoad _ _ n)

/-- The end of SCENES with the header's counts (R15). -/
theorem endPhases_scenes (hl : l.phase = .scenes) (hheader : l.header = some h) (hended : l.ended = false)
    (hleft : l.remaining = 0) (ht : t.smi.load = some l) (hscenes : t.store.scenes.length = h.sceneCount)
    (hentries : entryTotal t.store.scenes = h.entryCount) (n : Nat) :
    endPhases (n + 1) t = endPhases n (setLoad (startPhase .cues h l) t) := by
  rw [endPhases_ends ht hleft n, endPhase, hl, hheader, hended]
  refine congrArg (endPhases n) (if_neg ?_)
  rintro (hb | hb | hb)
  · cases hb
  · exact hb hscenes
  · exact hb hentries

theorem recordsDone_iff (hphase : phase = .scenes ∨ phase = .cues) : recordsDone phase h s = true ↔
    phase = .scenes ∧ h.sceneCount ≤ s.store.scenes.length ∨ phase = .cues ∧ h.cueCount ≤ s.store.cues.length := by
  rcases hphase with rfl | rfl <;> simp [recordsDone]

theorem recordsDone_reading (phase : LoadPhase) (h : Header) (l : Load) (s : State) :
    recordsDone phase h (reading l s) = recordsDone phase h s := by
  cases phase <;> rfl

/-- A scene of the image is placed, or fails with its reason (R12, R15). -/
theorem takeRecords_scene {sc : Scene} (hl : l.phase = .scenes) (hheader : l.header = some h) (hended : l.ended = false)
    (hsc : SceneOk sc) (hwords : l.words = sc.words) :
    ((sceneOf sc.id s).isSome = true → takeRecords (reading l s) = failLoad .duplicate (reading l s)) ∧
    (sceneOf sc.id s = none →
      (h.sceneCount < s.store.scenes.length + 1 ∨ h.entryCount < entryTotal s.store.scenes + sc.entries.length →
        takeRecords (reading l s) = failLoad .countMismatch (reading l s)) ∧
      (s.store.scenes.length + 1 ≤ h.sceneCount → entryTotal s.store.scenes + sc.entries.length ≤ h.entryCount →
        takeRecords (reading l s) = { reading { l with words := [] } s with
          store := { s.store with scenes := placeScene sc s.store.scenes } })) := by
  have read : readSceneRecord l.words = .ok sc := hwords ▸ readSceneRecord_words hsc
  obtain ⟨-, -, -, hentries, -, -⟩ := hsc
  have stated : statedLength l.words = l.words.length := hwords ▸ statedLength_scene (hentries.trans (by decide))
  have some_words : l.words ≠ [] := by
    rw [← List.length_pos_iff, hwords, Scene.length_words]
    omega
  obtain ⟨fails, places⟩ := takeRecords_one (s := s) (.inl rfl) hl hheader hended some_words stated
  refine ⟨fun hdup => fails _ (judgeScene_duplicate (s := reading l s) read hdup) (.inr nofun), fun hnew => ?_⟩
  have judged := judgeScene_new (h := h) (s := reading l s) read hnew
  refine ⟨fun hbad => fails _ (judged.trans (if_pos hbad)) (.inr nofun), fun hcount htotal => ?_⟩
  rw [places _ (judged.trans (if_neg fun hb => hb.elim (fun h => absurd h (Nat.not_lt.mpr hcount))
    fun h => absurd h (Nat.not_lt.mpr htotal))), ← hended]
  rfl

/-- A cue of the image is placed, or fails with its reason (R12, R15). -/
theorem takeRecords_cue {c : Cue} (hl : l.phase = .cues) (hheader : l.header = some h) (hended : l.ended = false)
    (hc : CueOk c) (hwords : l.words = c.words) (hchecks : ∀ a ∈ c.actions, wordCheck l.regions a = true) :
    ((cueOf c.num s).isSome = true → takeRecords (reading l s) = failLoad .duplicate (reading l s)) ∧
    (cueOf c.num s = none →
      ((∃ a ∈ c.actions, referenceCheck l.regions s.store.scenes a = false) →
        takeRecords (reading l s) = failLoad .badReference (reading l s)) ∧
      ((∀ a ∈ c.actions, referenceCheck l.regions s.store.scenes a = true) →
        (h.cueCount < s.store.cues.length + 1 ∨ h.actionCount < actionTotal s.store.cues + c.actions.length →
          takeRecords (reading l s) = failLoad .countMismatch (reading l s)) ∧
        (s.store.cues.length + 1 ≤ h.cueCount → actionTotal s.store.cues + c.actions.length ≤ h.actionCount →
          takeRecords (reading l s) = { reading { l with words := [] } s with
            store := { s.store with cues := placeCue c s.store.cues } }))) := by
  have read : readCueRecord l.regions l.words = .ok c := hwords ▸ readCueRecord_words hc hchecks
  obtain ⟨-, hlabel, -, -, -, -, hactions, -⟩ := hc
  have stated : statedLength l.words = l.words.length := hwords ▸ statedLength_cue hlabel hactions
  have some_words : l.words ≠ [] := by
    rw [← List.length_pos_iff, hwords, Cue.length_words hlabel]
    omega
  obtain ⟨fails, places⟩ := takeRecords_one (s := s) (.inr rfl) hl hheader hended some_words stated
  refine ⟨fun hdup => fails _ (judgeCue_duplicate (s := reading l s) read hdup) (.inr nofun), fun hnew =>
    ⟨fun hbad => fails _ (judgeCue_badReference (s := reading l s) read hnew hbad) (.inr nofun), fun hrefs => ?_⟩⟩
  have judged := judgeCue_new (h := h) (s := reading l s) read hnew hrefs
  refine ⟨fun hbad => fails _ (judged.trans (if_pos hbad)) (.inr nofun), fun hcount htotal => ?_⟩
  rw [places _ (judged.trans (if_neg fun hb => hb.elim (fun h => absurd h (Nat.not_lt.mpr hcount))
    fun h => absurd h (Nat.not_lt.mpr htotal))), ← hended]
  rfl

/-! ### What a completed read leaves, phase by phase -/

/-- The state after a read whose words the load has taken. -/
def afterRead (l : Load) (s : State) : State := endPhases 4 (takeRecords (reading l s))

theorem loadFailed_afterRead (h : afterRead l s = failLoad why (reading l s)) (hphase : l.phase = phase) :
    LoadFailed why phase s (afterRead l s) := by
  rw [h]
  exact loadFailed_failLoad (LoadOnly.reading l s) rfl hphase why

/-- A phase whose words are not all read yet goes on, where no record is judged. -/
theorem afterRead_fills (hphase : l.phase = .regions) (hleft : l.remaining ≠ 0) : afterRead l s = reading l s := by
  rw [afterRead, takeRecords_waits (.inr hphase), endPhases_reads (l := l) rfl hleft]

theorem afterRead_header (hphase : l.phase = .header) (hleft : l.remaining = 0) :
    (∀ why, readHeader l.words = .error why → LoadFailed why .header s (afterRead l s)) ∧
    ∀ h, readHeader l.words = .ok h →
      (0 < h.regionCount → afterRead l s = reading (startPhase .regions h l) s) ∧
      (h.regionCount = 0 → 0 < h.sceneLen →
        afterRead l s = reading (startPhase .scenes h { startPhase .regions h l with regions := [] }) s) := by
  have waits := takeRecords_waits (s := s) (.inl hphase)
  obtain ⟨bad, good⟩ := endPhases_header hphase hleft s
  refine ⟨fun why hwhy => loadFailed_afterRead (by rw [afterRead, waits, bad why hwhy]) hphase,
    fun h hh => ⟨fun hpos => ?_, fun hzero hscenes => ?_⟩⟩
  · rw [afterRead, waits, good h hh,
      endPhases_reads (l := startPhase .regions h l) rfl (show 2 * h.regionCount ≠ 0 by omega)]
  · obtain ⟨-, none⟩ := endPhases_regions (l := startPhase .regions h l) rfl rfl
      (show 2 * h.regionCount = 0 by omega) 2 s
    rw [afterRead, waits, good h hh, none [] rfl,
      endPhases_reads (l := startPhase .scenes h { startPhase .regions h l with regions := [] }) rfl
        (show h.sceneLen ≠ 0 by omega)]

theorem afterRead_regions (hphase : l.phase = .regions) (hheader : l.header = some h) (hleft : l.remaining = 0) :
    (readRegions l.words = none → LoadFailed .pastEnd .regions s (afterRead l s)) ∧
    ∀ rs, readRegions l.words = some rs →
      (0 < h.sceneLen → afterRead l s = reading (startPhase .scenes h { l with regions := rs }) s) ∧
      (h.sceneLen = 0 → s.store.scenes = [] →
        (h.sceneCount = 0 → h.entryCount = 0 → 0 < h.cueLen →
          afterRead l s = reading (startPhase .cues h (startPhase .scenes h { l with regions := rs })) s) ∧
        (h.sceneCount ≠ 0 ∨ h.entryCount ≠ 0 → LoadFailed .countMismatch .scenes s (afterRead l s))) := by
  have waits := takeRecords_waits (s := s) (.inr hphase)
  obtain ⟨bad, good⟩ := endPhases_regions hphase hheader hleft 3 s
  refine ⟨fun hnone => loadFailed_afterRead (by rw [afterRead, waits, bad hnone]) hphase,
    fun rs hrs => ⟨fun hpos => ?_, fun hzero hscenes => ?_⟩⟩
  · rw [afterRead, waits, good rs hrs, endPhases_reads (l := startPhase .scenes h { l with regions := rs }) rfl
      (show h.sceneLen ≠ 0 by omega)]
  · obtain ⟨m, hm⟩ : ∃ m, m = startPhase .scenes h { l with regions := rs } := ⟨_, rfl⟩
    have mleft : m.remaining = 0 := by rw [hm]; exact hzero
    have mphase : m.phase = .scenes := by rw [hm]; rfl
    have mheader : m.header = some h := by rw [hm]; rfl
    have mscenes : (reading m s).store.scenes = [] := hscenes
    rw [afterRead, waits, good rs hrs, ← hm]
    refine ⟨fun hcount hentry hcues => ?_, fun hcount => ?_⟩
    · rw [endPhases_scenes mphase mheader (by rw [hm]; rfl) mleft rfl (by rw [mscenes, hcount]; rfl)
        (by rw [mscenes, hentry]; rfl) 2, endPhases_reads (l := startPhase .cues h m) rfl (show h.cueLen ≠ 0 by omega)]
      rfl
    · rw [endPhases_mismatch (t := reading m s) (.inl rfl) mphase mheader mleft rfl (.inr (.inl ⟨rfl, by
        rw [mscenes]
        exact hcount.imp Ne.symm Ne.symm⟩)) 2]
      exact loadFailed_failLoad (LoadOnly.reading m s) rfl mphase _

/-- In SCENES and CUES: a record past the block's end, a record that does not read, and one not wholly taken. -/
theorem afterRead_records (hphase : phase = .scenes ∨ phase = .cues) (hl : l.phase = phase) (hheader : l.header = some h)
    (hended : l.ended = false) (hwords : l.words ≠ []) :
    (l.words.length + l.remaining < statedLength l.words →
      (recordsDone phase h s = false → LoadFailed .badRecord phase s (afterRead l s)) ∧
      (recordsDone phase h s = true → l.remaining = 0 → LoadFailed .countMismatch phase s (afterRead l s))) ∧
    (statedLength l.words = l.words.length → recordsDone phase h s = false →
      judgeRecord phase h l.regions l.words (reading l s) = .error .badRecord →
        LoadFailed .badRecord phase s (afterRead l s)) ∧
    (l.words.length < statedLength l.words → statedLength l.words ≤ l.words.length + l.remaining →
      afterRead l s = reading l s) := by
  have judges := takeRecords_judges (s := s) hphase hl hheader hended
  refine ⟨fun hshort => ⟨fun hnot => loadFailed_afterRead ?_ hl, fun hdone hleft => ?_⟩,
    fun hstated hnot hbad => loadFailed_afterRead ?_ hl, fun hlonger hfits => ?_⟩
  · rw [afterRead, judges, judgeRecords_short hwords hshort, recordsDone_reading, hnot]
    exact endPhases_failLoad _ _ 4
  · have excess : takeRecords (reading l s) = reading { l with words := [], ended := true } s := by
      rw [judges, judgeRecords_short hwords hshort, recordsDone_reading, hdone]
      rfl
    rw [afterRead, excess, endPhases_mismatch (l := { l with words := [], ended := true }) (h := h) hphase hl hheader hleft
      rfl (.inl rfl) 3]
    exact loadFailed_failLoad (LoadOnly.reading { l with words := [], ended := true } s) rfl hl _
  · obtain ⟨bad, -⟩ := takeRecords_one (s := s) hphase hl hheader hended hwords hstated
    rw [afterRead, bad _ hbad (.inl hnot)]
    exact endPhases_failLoad _ _ 4
  · have more : l.remaining ≠ 0 := by
      intro h0
      rw [h0] at hfits
      omega
    rw [afterRead, judges, judgeRecords_waits hwords hfits hlonger, ← hended]
    exact endPhases_reads rfl more 4

theorem afterRead_scene {sc : Scene} (hl : l.phase = .scenes) (hheader : l.header = some h) (hended : l.ended = false)
    (hsc : SceneOk sc) (hwords : l.words = sc.words) :
    ((sceneOf sc.id s).isSome = true → LoadFailed .duplicate .scenes s (afterRead l s)) ∧
    (sceneOf sc.id s = none → ∀ n m, n = s.store.scenes.length + 1 → m = entryTotal s.store.scenes + sc.entries.length →
      (h.sceneCount < n ∨ h.entryCount < m → LoadFailed .countMismatch .scenes s (afterRead l s)) ∧
      (n ≤ h.sceneCount → m ≤ h.entryCount → ∀ placed : State → State,
        (placed = fun t => { t with store := { s.store with scenes := placeScene sc s.store.scenes } }) →
        (l.remaining ≠ 0 → afterRead l s = placed (reading { l with words := [] } s)) ∧
        (l.remaining = 0 →
          (n ≠ h.sceneCount ∨ m ≠ h.entryCount → LoadFailed .countMismatch .scenes s (afterRead l s)) ∧
          (n = h.sceneCount → m = h.entryCount → 0 < h.cueLen →
            afterRead l s = placed (reading (startPhase .cues h { l with words := [] }) s))))) := by
  obtain ⟨dup, new⟩ := takeRecords_scene (s := s) hl hheader hended hsc hwords
  refine ⟨fun hdup => loadFailed_afterRead (by rw [afterRead, dup hdup]; exact endPhases_failLoad _ _ 4) hl,
    fun hnew n m hn hm => ?_⟩
  subst hn hm
  obtain ⟨counts, places⟩ := new hnew
  obtain ⟨lengths, totals⟩ := entryTotal_placeScene (sceneOf_none_iff.mp hnew)
  refine ⟨fun hbad => loadFailed_afterRead (by rw [afterRead, counts hbad]; exact endPhases_failLoad _ _ 4) hl,
    fun hcount htotal placed hplaced => ?_⟩
  obtain ⟨u, hu⟩ : ∃ u : State, u = { reading { l with words := [] } s with
      store := { s.store with scenes := placeScene sc s.store.scenes } } := ⟨_, rfl⟩
  have uload : u.smi.load = some { l with words := [] } := by rw [hu]; rfl
  have uscenes : u.store.scenes = placeScene sc s.store.scenes := by rw [hu]
  rw [afterRead, places hcount htotal, hplaced, ← hu]
  refine ⟨fun hleft => ?_, fun hleft => ⟨fun hbad => ?_, fun hn hm hcues => ?_⟩⟩
  · rw [endPhases_reads (l := { l with words := [] }) uload hleft, hu]
  · rw [endPhases_mismatch (l := { l with words := [] }) (h := h) (.inl rfl) hl hheader hleft uload
      (.inr (.inl ⟨rfl, by rw [uscenes, lengths, totals]; exact hbad⟩)) 3]
    exact loadFailed_failLoad (by rw [hu]; exact ⟨rfl, rfl, rfl, rfl, rfl, rfl, rfl, rfl, rfl⟩) uload hl _
  · rw [endPhases_scenes (l := { l with words := [] }) (h := h) hl hheader hended hleft uload
      (by rw [uscenes]; exact lengths.trans hn) (by rw [uscenes]; exact totals.trans hm) 3,
      endPhases_reads (l := startPhase .cues h { l with words := [] }) rfl (show h.cueLen ≠ 0 by omega), hu]
    rfl

theorem afterRead_cue {c : Cue} (hl : l.phase = .cues) (hheader : l.header = some h) (hended : l.ended = false)
    (hc : CueOk c) (hwords : l.words = c.words) (hchecks : ∀ a ∈ c.actions, wordCheck l.regions a = true) :
    ((cueOf c.num s).isSome = true → LoadFailed .duplicate .cues s (afterRead l s)) ∧
    (cueOf c.num s = none →
      ((∃ a ∈ c.actions, referenceCheck l.regions s.store.scenes a = false) →
        LoadFailed .badReference .cues s (afterRead l s)) ∧
      ((∀ a ∈ c.actions, referenceCheck l.regions s.store.scenes a = true) → ∀ n m, n = s.store.cues.length + 1 →
        m = actionTotal s.store.cues + c.actions.length →
        (h.cueCount < n ∨ h.actionCount < m → LoadFailed .countMismatch .cues s (afterRead l s)) ∧
        (l.remaining = 0 → n ≠ h.cueCount ∨ m ≠ h.actionCount → LoadFailed .countMismatch .cues s (afterRead l s)) ∧
        (n ≤ h.cueCount → m ≤ h.actionCount → l.remaining ≠ 0 →
          afterRead l s = { reading { l with words := [] } s with
            store := { s.store with cues := placeCue c s.store.cues } }))) := by
  obtain ⟨dup, new⟩ := takeRecords_cue (s := s) hl hheader hended hc hwords hchecks
  refine ⟨fun hdup => loadFailed_afterRead (by rw [afterRead, dup hdup]; exact endPhases_failLoad _ _ 4) hl, fun hnew => ?_⟩
  obtain ⟨bad, good⟩ := new hnew
  refine ⟨fun hbad => loadFailed_afterRead (by rw [afterRead, bad hbad]; exact endPhases_failLoad _ _ 4) hl,
    fun hrefs n m hn hm => ?_⟩
  subst hn hm
  obtain ⟨counts, places⟩ := good hrefs
  have excess : h.cueCount < s.store.cues.length + 1 ∨ h.actionCount < actionTotal s.store.cues + c.actions.length →
      LoadFailed .countMismatch .cues s (afterRead l s) := fun hbad =>
    loadFailed_afterRead (by rw [afterRead, counts hbad]; exact endPhases_failLoad _ _ 4) hl
  refine ⟨excess, fun hleft hbad => ?_, fun hcount htotal hleft => ?_⟩
  · by_cases hover : h.cueCount < s.store.cues.length + 1 ∨ h.actionCount < actionTotal s.store.cues + c.actions.length
    · exact excess hover
    · obtain ⟨lengths, totals⟩ := actionTotal_placeCue (cueOf_none_iff.mp hnew)
      obtain ⟨u, hu⟩ : ∃ u : State, u = { reading { l with words := [] } s with
          store := { s.store with cues := placeCue c s.store.cues } } := ⟨_, rfl⟩
      have uload : u.smi.load = some { l with words := [] } := by rw [hu]; rfl
      rw [afterRead, places (by omega) (by omega), ← hu, endPhases_mismatch (l := { l with words := [] }) (h := h) (.inr rfl)
        hl hheader hleft uload (.inr (.inr ⟨rfl, by rw [hu]; dsimp only; rw [lengths, totals]; exact hbad⟩)) 3]
      exact loadFailed_failLoad (by rw [hu]; exact ⟨rfl, rfl, rfl, rfl, rfl, rfl, rfl, rfl, rfl⟩) uload hl _
  · rw [afterRead, places hcount htotal, endPhases_reads (l := { l with words := [] }) rfl hleft]

end Phases

end Sys2Proof.Machine

namespace Sys2Proof.Proofs
open Sys2Proof.Machine

/-- Settles O29: the words are taken, the records judged and the phases ended, clause by clause. -/
theorem loadReadTaken : Obligations.LoadReadTaken := by
  intro words s tr hrun hport
  refine ⟨fun hphase => ?_, fun hphase hlen => ⟨fun huser => ?_, ?_⟩⟩
  · refine congrArg Host.Outcome.next ((occur_running _ s hrun).trans ?_)
    rw [completeLoadRead, hport]
    exact if_neg fun h => by rw [hphase] at h; cases h.1
  · refine congrArg Host.Outcome.next ((occur_running _ s hrun).trans ?_)
    rw [completeLoadRead, hport]
    dsimp only
    rw [if_pos ⟨hphase, hlen⟩, huser]
    rfl
  intro ld huser hld next fails hnext hfails
  obtain ⟨l, hl⟩ : ∃ l, l = ld.taking words := ⟨_, rfl⟩
  have taken : exec (.loadReadComplete words) s = .next (afterRead l s) :=
    hl ▸ exec_loadReadComplete_taken hrun hport hphase hlen huser hld
  have failing : ∀ {why phase}, LoadFailed why phase s (afterRead l s) → fails why phase := fun h => by
    rw [hfails]
    exact ⟨_, taken, h⟩
  have nextTo : ∀ {t : State}, afterRead l s = t → exec (.loadReadComplete words) s = .next t := fun h =>
    taken.trans (congrArg _ h)
  have nexts : ∀ k, next k = reading k s := fun k => by rw [hnext]; rfl
  have lphase : l.phase = ld.phase := by rw [hl]; rfl
  have header : l.header = ld.header := by rw [hl]; rfl
  have ended : l.ended = ld.ended := by rw [hl]; rfl
  have regions : l.regions = ld.regions := by rw [hl]; rfl
  have lwords : l.words = ld.words ++ words := by rw [hl]; rfl
  have left : l.remaining = ld.remaining - words.length := by rw [hl]; rfl
  simp only [← lwords, nexts, ← regions]
  refine ⟨fun hp hlt => ?_, fun hp hall => ?_, fun h hp hheader hall => ?_,
    fun h phase hkind hp hheader hended hwords hle => ?_, fun h sc hp hheader hended hsc hrec hwords hle => ?_,
    fun h c hp hheader hended hc hrec hwords hle hchecks => ?_⟩
  · refine nextTo ((afterRead_fills (lphase.trans hp) (by omega)).trans ?_)
    rw [hl]
    rfl
  · obtain ⟨bad, good⟩ := afterRead_header (s := s) (lphase.trans hp) (by omega)
    refine ⟨fun why hwhy => failing (bad why hwhy), fun h hh => ?_⟩
    obtain ⟨some_regions, no_regions⟩ := good h hh
    refine ⟨fun hpos => nextTo ((some_regions hpos).trans ?_), fun hzero hscenes => nextTo ((no_regions hzero hscenes).trans ?_)⟩
    · rw [hl]
      rfl
    · rw [hl]
      rfl
  · obtain ⟨bad, good⟩ := afterRead_regions (s := s) (lphase.trans hp) (header.trans hheader) (by omega)
    refine ⟨fun hnone => failing (bad hnone), fun rs hrs => ?_⟩
    obtain ⟨some_scenes, no_scenes⟩ := good rs hrs
    refine ⟨fun hpos => nextTo ((some_scenes hpos).trans ?_), fun hzero hscenes => ?_⟩
    · rw [startPhase, hl, ← hheader]
      rfl
    · obtain ⟨counted, miscounted⟩ := no_scenes hzero hscenes
      refine ⟨fun hcount hentry hcues => nextTo ((counted hcount hentry hcues).trans ?_), fun hcount =>
        failing (miscounted hcount)⟩
      rw [hl, hheader]
      rfl
  · have total : l.words.length + l.remaining = ld.words.length + ld.remaining := by
      rw [lwords, left, List.length_append]
      omega
    obtain ⟨short, unread, waits⟩ := afterRead_records (s := s) hkind (lphase.trans hp) (header.trans hheader)
      (ended.trans hended) (by rw [lwords]; exact List.append_ne_nil_of_right_ne_nil _ hwords)
    rw [← total]
    refine ⟨fun done hdone => ?_, fun hlonger hfits => nextTo ((waits hlonger hfits).trans ?_)⟩
    · have undone : ¬ done → recordsDone phase h s = false := fun hnot => by
        rw [← Bool.not_eq_true, recordsDone_iff hkind]
        exact fun hd => hnot (hdone.mpr hd)
      refine ⟨fun hshort => ?_, fun hstated hnot => ?_⟩
      · obtain ⟨bad, excess⟩ := short hshort
        exact ⟨fun hnot => failing (bad (undone hnot)), fun hyes hall =>
          failing (excess ((recordsDone_iff hkind).mpr (hdone.mp hyes)) (by omega))⟩
      · refine ⟨fun hscenes item herr => failing (unread hstated (undone hnot) ?_), fun hcues item herr =>
          failing (unread hstated (undone hnot) ?_)⟩
        · rw [hscenes]
          show judgeScene h l.words (reading l s) = _
          rw [judgeScene, herr]
        · rw [hcues]
          show judgeCue h l.regions l.words (reading l s) = _
          rw [judgeCue, herr]
    · rw [hl]
      rfl
  · obtain ⟨dup, new⟩ := afterRead_scene (s := s) (lphase.trans hp) (header.trans hheader) (ended.trans hended) hsc hrec
    refine ⟨fun hdup => failing (dup hdup), fun hnew n m hn hm => ?_⟩
    obtain ⟨counts, places⟩ := new hnew n m hn hm
    refine ⟨fun hbad => failing (counts hbad), fun hcount htotal placed hplaced => ?_⟩
    obtain ⟨fills, ends⟩ := places hcount htotal placed hplaced
    refine ⟨fun hlt => nextTo ((fills (by omega)).trans ?_), fun hall => ?_⟩
    · rw [hl]
      rfl
    · obtain ⟨miscounted, counted⟩ := ends (by omega)
      refine ⟨fun hbad => failing (miscounted hbad), fun hn hm hcues => nextTo ((counted hn hm hcues).trans ?_)⟩
      rw [hl, hheader, hended]
      rfl
  · obtain ⟨dup, new⟩ := afterRead_cue (s := s) (lphase.trans hp) (header.trans hheader) (ended.trans hended) hc hrec hchecks
    refine ⟨fun hdup => failing (dup hdup), fun hnew => ?_⟩
    obtain ⟨bad, good⟩ := new hnew
    refine ⟨fun hbad => failing (bad hbad), fun hrefs n m hn hm => ?_⟩
    obtain ⟨counts, miscounted, fills⟩ := good hrefs n m hn hm
    refine ⟨fun hbad => failing (counts hbad), fun hall hbad => failing (miscounted (by omega) hbad),
      fun hcount htotal hlt => nextTo ((fills hcount htotal (by omega)).trans ?_)⟩
    rw [hl]
    rfl

end Sys2Proof.Proofs
end

section
/-! SUPPORT. A block of well-formed cues placed one after another (R12, R15), and the effects of a load's success (R17);
then the obligation of the load that succeeds. -/

namespace Sys2Proof.Machine

section Blocks

variable {s : State} {h : Header} {regions : List Region} {cs : List Cue} {c : Cue}

theorem Cue.words_ne_nil (hc : CueOk c) : c.words ≠ [] := by
  obtain ⟨-, hlabel, -⟩ := hc
  rw [← List.length_pos_iff, Cue.length_words hlabel]
  omega

theorem statedLength_cue_append (hc : CueOk c) (rest : List Word) :
    statedLength (c.words ++ rest) = c.words.length := by
  have first : statedLength (c.words ++ rest) = statedLength c.words := by
    have some_words := Cue.words_ne_nil hc
    cases hw : c.words with
    | nil => exact absurd hw some_words
    | cons w ws => rfl
  obtain ⟨-, hlabel, -, -, -, -, hactions, -⟩ := hc
  rw [first, statedLength_cue hlabel hactions]

/-- The cues placed among those of a store, in block order. -/
def placeCues (cs : List Cue) (ds : List Cue) : List Cue := cs.foldl (fun ds c => placeCue c ds) ds

theorem placeCues_perm {ds : List Cue} (hnodup : (cs.map (·.num)).Nodup) (hnew : ∀ c ∈ cs, ∀ d ∈ ds, d.num ≠ c.num) :
    (placeCues cs ds).Perm (cs ++ ds) := by
  induction cs generalizing ds with
  | nil => exact List.Perm.refl _
  | cons c cs ih =>
    obtain ⟨hfresh, hnodup⟩ := List.nodup_cons.mp hnodup
    obtain ⟨hc, hcs⟩ := List.forall_mem_cons.mp hnew
    have placed := placeCue_new_perm hc
    refine (ih (ds := placeCue c ds) hnodup fun e he d hd => ?_).trans ?_
    · rcases List.mem_cons.mp (placed.mem_iff.mp hd) with rfl | hd
      · exact fun heq => hfresh (List.mem_map.mpr ⟨e, he, heq.symm⟩)
      · exact hcs e he d hd
    · exact (placed.append_left cs).trans List.perm_middle

theorem pairwise_placeCues {ds : List Cue} (hds : ds.Pairwise fun a b => a.num.toNat < b.num.toNat) :
    (placeCues cs ds).Pairwise fun a b => a.num.toNat < b.num.toNat := by
  induction cs generalizing ds with
  | nil => exact hds
  | cons c cs ih => exact ih (pairwise_placeCue hds)

/-- The state with the cues of a block placed. -/
def withCues (cs : List Cue) (s : State) : State :=
  { s with store := { s.store with cues := placeCues cs s.store.cues } }

/-- Well-formed cues of new numbers, whose counts the header allows, are placed to the end of the block (R12, R15). -/
theorem judgeRecords_cues {n : Nat} (hn : (cs.flatMap Cue.words).length < n) (hok : ∀ c ∈ cs, CueOk c)
    (hnodup : (cs.map (·.num)).Nodup) (hnew : ∀ c ∈ cs, ∀ d ∈ s.store.cues, d.num ≠ c.num)
    (hchecks : ∀ c ∈ cs, ∀ a ∈ c.actions, wordCheck regions a = true ∧ referenceCheck regions s.store.scenes a = true)
    (hcount : s.store.cues.length + cs.length ≤ h.cueCount)
    (htotal : actionTotal s.store.cues + actionTotal cs ≤ h.actionCount) :
    judgeRecords .cues h regions n (cs.flatMap Cue.words).length (cs.flatMap Cue.words) s =
      .ok (withCues cs s, [], false) := by
  induction cs generalizing s n with
  | nil => exact judgeRecords_nil n 0 s
  | cons c cs ih =>
    obtain ⟨hc, hok⟩ := List.forall_mem_cons.mp hok
    obtain ⟨hfresh, hnodup⟩ := List.nodup_cons.mp hnodup
    obtain ⟨hcnew, hnew⟩ := List.forall_mem_cons.mp hnew
    obtain ⟨hcchecks, hchecks⟩ := List.forall_mem_cons.mp hchecks
    rw [List.length_cons] at hcount
    rw [actionTotal_cons] at htotal
    rw [List.flatMap_cons, List.length_append] at hn ⊢
    obtain ⟨n, rfl⟩ : ∃ m, n = m + 1 := ⟨n - 1, by omega⟩
    obtain ⟨t, ht⟩ : ∃ t : State, t = { s with store := { s.store with cues := placeCue c s.store.cues } } := ⟨_, rfl⟩
    have tcues : t.store.cues = placeCue c s.store.cues := by rw [ht]
    have placed : judgeRecord .cues h regions c.words s = .ok t := by
      refine (judgeCue_new (readCueRecord_words hc fun a ha => (hcchecks a ha).1) (cueOf_none_iff.mpr hcnew)
        fun a ha => (hcchecks a ha).2).trans ((if_neg ?_).trans (by rw [ht]))
      omega
    obtain ⟨lengths, totals⟩ := actionTotal_placeCue hcnew
    have some_words := List.length_pos_iff.mpr (Cue.words_ne_nil hc)
    have rest := ih (s := t) (n := n) (by omega) hok hnodup (fun e he d hd => by
        rw [tcues] at hd
        rcases List.mem_cons.mp ((placeCue_new_perm hcnew).mem_iff.mp hd) with rfl | hd
        · exact fun heq => hfresh (List.mem_map.mpr ⟨e, he, heq.symm⟩)
        · exact hnew e he d hd)
      (by rw [ht]; exact hchecks) (by rw [tcues, lengths]; omega) (by rw [tcues, totals]; omega)
    rw [judgeRecords_whole (Cue.words_ne_nil hc) (statedLength_cue_append hc _) (Nat.le_add_right _ _), placed]
    dsimp only
    rw [Nat.add_sub_cancel_left, rest, ht]
    rfl

end Blocks

/-! ### The zones of a new image (R17, R140, R156) -/

section Zones

variable {s : State} {h : Header} {regions : List Region} {c : Call}

theorem zonesOf_outputs (classes : Vector OutClass 32) :
    (zonesOf classes).map (·.output) = (List.finRange 32).filter fun o => classes[o] == .relay := by
  rw [zonesOf, List.map_map]
  exact List.map_id _

theorem zonesPresent_bit {z : ZoneNo} (hz : z.val < s.relay.zones.length) : (zonesPresent s).getLsbD z = true := by
  rw [zonesPresent, BitVec.getLsbD_ofNat, Nat.testBit_two_pow_sub_one]
  simp [hz]

/-- The state of a load that has succeeded, before its record and the show-stop call (R17). -/
def imageInForce (h : Header) (regions : List Region) (s : State) : State :=
  { s with smi := { s.smi with load := none, regions := regions },
           store := { s.store with state := .ready },
           seq := { s.seq with playhead := firstGo s, standby := false },
           mix := { s.mix with classes := h.classes, xpts := Vector.replicate 32 (Vector.replicate 40 .off),
                               trims := Vector.replicate 32 (.db 0) },
           foldback := { s.foldback with modes := Vector.replicate 32 .independent,
                                         offsets := Vector.replicate 32 (Vector.replicate 40 0),
                                         ceilings := Vector.replicate 32 0 },
           relay := { s.relay with zones := zonesOf h.classes } }

theorem succeedLoad_eq (h : Header) (regions : List Region) (s : State) : succeedLoad h regions s =
    if s.showStop.state = .stopped then
      joinShowStopCall (raise (loadDoneEvent (imageInForce h regions s)) (imageInForce h regions s))
    else raise (loadDoneEvent (imageInForce h regions s)) (imageInForce h regions s) := rfl

/-- The zones that join the show-stop call are ducked and carry it; nothing else of the image moves (R156). -/
theorem joinShowStopCall_spec (s : State) :
    (joinShowStopCall s = { s with
      fades := (joinShowStopCall s).fades, links := (joinShowStopCall s).links,
      relay := { s.relay with zones := (joinShowStopCall s).relay.zones, playing := (joinShowStopCall s).relay.playing } }) ∧
    (joinShowStopCall s).relay.zones.map (·.output) = s.relay.zones.map (·.output) ∧
    ∀ c, s.relay.playing.find? (fun d => d.source == .announce) = some c →
      ∀ z zn, (joinShowStopCall s).zone? z = some zn → zn.carried = some c.id ∧ zn.phase = .ducked := by
  cases hfind : findShowStopCall s with
  | none =>
    have stays : joinShowStopCall s = s := by
      unfold joinShowStopCall
      rw [hfind]
    rw [stays]
    refine ⟨rfl, rfl, fun c hc => ?_⟩
    rw [show s.relay.playing.find? (fun d => d.source == .announce) = none from hfind] at hc
    cases hc
  | some c =>
    obtain ⟨u, hu⟩ : ∃ u : State, u = { s with relay := { s.relay with
        playing := s.relay.playing.map fun d => if d.id == c.id then { d with zones := zonesPresent s } else d } } := ⟨_, rfl⟩
    have zones : u.relay.zones = s.relay.zones := by rw [hu]
    have joins : joinShowStopCall s = attackZones c.id c.depth (zonesPresent s) u := by
      unfold joinShowStopCall
      rw [hfind, hu]
    have moved := ducksMove_attackZones c.id c.depth (zonesPresent s) u
    have within : Within 1 u (attackZones c.id c.depth (zonesPresent s) u) :=
      (Within.refl 1 u).attackZones (Nat.le_refl 1)
    rw [joins]
    obtain ⟨t, ht⟩ : ∃ t, t = attackZones c.id c.depth (zonesPresent s) u := ⟨_, rfl⟩
    have outputs : t.relay.zones.map (·.output) = s.relay.zones.map (·.output) := by
      have pairs := congrArg (List.map Prod.fst) within.outputs
      rw [List.map_map, List.map_map, zones, ← ht] at pairs
      exact pairs
    rw [← ht] at moved ⊢
    refine ⟨?_, outputs, fun d hd z zn hzn => ?_⟩
    · refine moved.same.trans ?_
      rw [moved.relay, hu]
    · rw [show s.relay.playing.find? (fun d => d.source == .announce) = some c from hfind] at hd
      obtain rfl := Option.some.inj hd
      have present : z.val < s.relay.zones.length := by
        have lengths := congrArg List.length outputs
        rw [List.length_map, List.length_map] at lengths
        rw [← lengths]
        exact (List.getElem?_eq_some_iff.mp hzn).1
      obtain ⟨b, hb, -, hcarried, hphase, -⟩ := attackedAt_attackZones (zonesPresent_bit present) c.id c.depth u
        (s.relay.zones[z.val]) (by rw [State.zone?, zones]; exact List.getElem?_eq_getElem present)
      rw [← ht, hzn] at hb
      obtain rfl := Option.some.inj hb
      exact ⟨hcarried, hphase⟩

/-- The success of a load (R17). -/
theorem succeedLoad_spec (h : Header) (regions : List Region) (s : State) :
    let t := succeedLoad h regions s
    (t = { imageInForce h regions s with
      fades := t.fades, links := t.links,
      relay := { s.relay with zones := t.relay.zones, playing := t.relay.playing } }) ∧
    t.relay.zones.map (·.output) = ((List.finRange 32).filter fun o => h.classes[o] == .relay) ∧
    (s.showStop.state ≠ .stopped → t.relay.zones = zonesOf h.classes ∧ t.fades = s.fades ∧
      Newest (loadDoneEvent (imageInForce h regions s)) t) ∧
    ∀ c, s.showStop.state = .stopped → s.relay.playing.find? (fun d => d.source == .announce) = some c →
      ∀ z zn, t.zone? z = some zn → zn.carried = some c.id ∧ zn.phase = .ducked := by
  obtain ⟨u, hu⟩ : ∃ u, u = raise (loadDoneEvent (imageInForce h regions s)) (imageInForce h regions s) := ⟨_, rfl⟩
  have same : u = { imageInForce h regions s with links := u.links } := by rw [hu]; rfl
  have zones : u.relay.zones = zonesOf h.classes := by rw [hu]; rfl
  by_cases hstop : s.showStop.state = .stopped
  · have joins : succeedLoad h regions s = joinShowStopCall u := by
      rw [succeedLoad_eq, if_pos hstop, hu]
    obtain ⟨moved, outputs, carried⟩ := joinShowStopCall_spec u
    rw [joins]
    refine ⟨moved.trans ?_, ?_, fun h => absurd hstop h, fun c _ hc => carried c (by rw [hu]; exact hc)⟩
    · rw [same]
      rfl
    · rw [outputs, zones, zonesOf_outputs]
  · have done : succeedLoad h regions s = u := by
      rw [succeedLoad_eq, if_neg hstop, hu]
    rw [done]
    refine ⟨?_, by rw [zones, zonesOf_outputs], fun _ => ⟨zones, by rw [hu]; rfl, hu ▸ newest_raise _ _⟩,
      fun c h => absurd h hstop⟩
    rw [hu]
    rfl

end Zones

end Sys2Proof.Machine

namespace Sys2Proof.Proofs
open Sys2Proof.Machine

/-- Settles O30: the block's cues are all placed, and the end of CUES finds the header's counts. -/
theorem loadPlacesTheImage : Obligations.LoadPlacesTheImage := by
  intro s tr ld h cs hrun hport hphase huser hlen hld hcues hheader hended hwords hleft hstore hok hnodup hchecks hcount
    htotal
  obtain ⟨l, hl⟩ : ∃ l, l = ld.taking (cs.flatMap Cue.words) := ⟨_, rfl⟩
  have taken := exec_loadReadComplete_taken hrun hport hphase hlen.symm huser hld
  rw [← hl] at taken
  have lwords : l.words = cs.flatMap Cue.words := by
    rw [hl, Load.taking, hwords]
    rfl
  have lempty : l.remaining = 0 := by
    rw [hl]
    show ld.remaining - _ = 0
    rw [hleft, hlen, Nat.sub_self]
  have lphase : l.phase = .cues := by rw [hl]; exact hcues
  have lheader : l.header = some h := by rw [hl]; exact hheader
  have lended : l.ended = false := by rw [hl]; exact hended
  have lregions : l.regions = ld.regions := by rw [hl]; rfl
  -- Every cue of the block is placed.
  have judged := judgeRecords_cues (s := reading l s) (h := h) (regions := l.regions) (cs := cs)
    (n := (cs.flatMap Cue.words).length + 1) (Nat.lt_succ_self _) hok hnodup
    (by
      show ∀ c ∈ cs, ∀ d ∈ s.store.cues, d.num ≠ c.num
      rw [hstore]
      exact fun c _ d hd => absurd hd List.not_mem_nil)
    (by rw [lregions]; exact hchecks)
    (by
      show s.store.cues.length + cs.length ≤ _
      rw [hstore, hcount, List.length_nil, Nat.zero_add])
    (by
      show actionTotal s.store.cues + actionTotal cs ≤ _
      rw [hstore, htotal]
      exact (Nat.zero_add _).le)
  obtain ⟨m, hm⟩ : ∃ m : Load, m = { l with words := [], ended := false } := ⟨_, rfl⟩
  obtain ⟨u, hu⟩ : ∃ u, u = withCues cs (reading m s) := ⟨_, rfl⟩
  have records : takeRecords (reading l s) = u := by
    have left : l.words.length + l.remaining = (cs.flatMap Cue.words).length := by
      rw [lwords, lempty]
      exact Nat.add_zero _
    rw [takeRecords_judges (.inr rfl) lphase lheader lended, left, lwords, judged, hu, hm]
    rfl
  have ucues : u.store.cues = placeCues cs [] := by
    rw [hu, ← hstore]
    rfl
  have perm : (placeCues cs []).Perm cs := by
    have p := placeCues_perm (ds := []) hnodup fun c _ d hd => absurd hd List.not_mem_nil
    rwa [List.append_nil] at p
  -- The phase ends with the header's counts.
  have ended : endPhases 4 (takeRecords (reading l s)) = succeedLoad h ld.regions u := by
    have uload : u.smi.load = some m := by rw [hu]; rfl
    have mphase : m.phase = .cues := by rw [hm]; exact lphase
    have mheader : m.header = some h := by rw [hm]; exact lheader
    have mregions : m.regions = ld.regions := by rw [hm]; exact lregions
    have succeeds : endPhase m u = succeedLoad h ld.regions u := by
      rw [endPhase, mphase, mheader]
      refine (if_neg ?_).trans (by rw [mregions])
      rw [ucues, perm.length_eq, actionTotal_perm perm, hm]
      rintro (hb | hb | hb)
      · cases hb
      · exact hb hcount.symm
      · exact hb htotal.symm
    rw [records, endPhases_ends uload (by rw [hm]; exact lempty) 3, succeeds]
    exact endPhases_none (by rw [(succeedLoad_spec h ld.regions u).1]; rfl) 3
  obtain ⟨same, outputs, running, stopped⟩ := succeedLoad_spec h ld.regions u
  obtain ⟨t, ht⟩ : ∃ t, t = succeedLoad h ld.regions u := ⟨_, rfl⟩
  rw [← ht] at same outputs running stopped
  have tcues : t.store.cues = placeCues cs [] := by
    rw [same]
    exact ucues
  have showStop : u.showStop = s.showStop := by rw [hu]; rfl
  refine ⟨t, taken.trans (by rw [ended, ht]), ?_, ?_, ?_, fun c => ?_, ?_, ?_, ?_, outputs, ?_, ?_, fun hnot => ?_,
    fun c hstop hc => stopped c (by rw [showStop]; exact hstop) (by rw [hu]; exact hc)⟩
  · rw [same, hu]
    rfl
  · rw [same, hu]
    rfl
  · rw [tcues]
    exact pairwise_placeCues .nil
  · rw [tcues]
    exact perm.mem_iff
  · rw [same, hu]
    rfl
  · rw [same, hu]
    rfl
  · rw [same, hu]
    rfl
  · rw [same, hu]
    rfl
  · rw [same, hu]
    rfl
  · obtain ⟨zones, fades, newest⟩ := running (by rw [showStop]; exact hnot)
    refine ⟨fun zn hzn => ?_, by rw [fades, hu]; rfl, ?_⟩
    · rw [zones] at hzn
      obtain ⟨o, -, rfl⟩ := List.mem_map.mp hzn
      rfl
    · have record : loadDoneEvent (imageInForce h ld.regions u) = {
          kind := .loadDone, aux1 := .ofNat 16 cs.length, aux2 := .ofNat 16 s.store.scenes.length,
          zones := .ofNat 16 ld.regions.length } := by
        show ({ kind := .loadDone, aux1 := .ofNat 16 u.store.cues.length, aux2 := .ofNat 16 u.store.scenes.length,
                zones := .ofNat 16 ld.regions.length } : Event) = _
        rw [ucues, perm.length_eq, hu]
        rfl
      rw [record] at newest
      exact newest

end Sys2Proof.Proofs
end

section
/-! SUPPORT. What the monitor link may reach: an output that a command spares keeps its levels, its blanking and its
foldback settings, and gains no fade (section 7.6). -/

namespace Sys2Proof.Machine

/-- The fade targets of an output. -/
def FadesOutput (o : OutputNo) (T : FadeTarget) : Prop := T = .trim o ∨ ∃ i, T = .crosspoint i o

/-- From `s` to `t` an output keeps its levels, blanking and foldback settings, and gains no fade. -/
structure Spares (o : OutputNo) (s t : State) : Prop where
  xpts : t.mix.xpts[o] = s.mix.xpts[o]
  trims : t.mix.trims[o] = s.mix.trims[o]
  blanking : t.mix.blanking[o] = s.mix.blanking[o]
  modes : t.foldback.modes[o] = s.foldback.modes[o]
  offsets : t.foldback.offsets[o] = s.foldback.offsets[o]
  ceilings : t.foldback.ceilings[o] = s.foldback.ceilings[o]
  fades : ∀ e ∈ t.fades, FadesOutput o e.target → e ∈ s.fades

namespace Spares

variable {o q : OutputNo} {s t u : State}

/-- What writes neither the Mix Matrix, the Foldback Controller nor the fade list spares every output. -/
theorem of_eq (hmix : t.mix = s.mix) (hfold : t.foldback = s.foldback) (hfades : t.fades = s.fades) : Spares o s t where
  xpts := by rw [hmix]
  trims := by rw [hmix]
  blanking := by rw [hmix]
  modes := by rw [hfold]
  offsets := by rw [hfold]
  ceilings := by rw [hfold]
  fades e he _ := hfades ▸ he

theorem refl (o : OutputNo) (s : State) : Spares o s s := of_eq rfl rfl rfl

theorem trans (h : Spares o s t) (g : Spares o t u) : Spares o s u where
  xpts := g.xpts.trans h.xpts
  trims := g.trims.trans h.trims
  blanking := g.blanking.trans h.blanking
  modes := g.modes.trans h.modes
  offsets := g.offsets.trans h.offsets
  ceilings := g.ceilings.trans h.ceilings
  fades e he hT := h.fades e (g.fades e he hT) hT

/-! ### Operations that name no output -/

theorem endTalk (cause : TalkCause) (s : State) : Spares o s (endTalk cause s) := by
  unfold Machine.endTalk
  split
  · exact refl o s
  · exact { refl o s with }

theorem failLoad (why : LoadFailure) (s : State) : Spares o s (failLoad why s) := by
  rcases failLoad_cases why s with ⟨-, e⟩ | ⟨ld, -, e⟩
  · rw [e]
    exact refl o s
  · rw [e]
    exact { refl o s with }

theorem abortLoad (s : State) : Spares o s (abortLoad s) := by
  rw [abortLoad_eq]
  exact { failLoad .aborted s with }

theorem changeHolder (h : Option Role) (s : State) : Spares o s (changeHolder h s) := of_eq rfl rfl rfl

theorem acceptLoad (l : Role) (s : State) : Spares o s (acceptLoad l s) := by
  refine trans ?_ (endTalk .load _)
  exact { refl o s with fades := fun e he _ => (List.mem_filter.mp he).1 }

theorem detachStore (l : Role) (s : State) : Spares o s (detachStore l s) :=
  detachStore_keeps (P := Spares o s) (fun _ _ _ h => h.trans (of_eq rfl rfl rfl)) (fun u h => h.trans (abortLoad u))
    (fun k u h => h.trans (changeHolder k u)) (refl o s) l

/-- A detaching monitor link ends its load, its hold and its talk, none of which reaches an output. -/
theorem detachEffects (s : State) : Spares o s (detachEffects .monitor s) :=
  (detachStore .monitor s).trans (endTalk _ _)

/-! ### Operations on another output -/

theorem ne_of_class {o q : OutputNo} {s : State} (ho : s.mix.classes[o] ≠ .foldback) (hq : s.mix.classes[q] = .foldback) :
    q ≠ o := fun e => ho (e ▸ hq)

/-- A post on another output's level. -/
theorem post {p : Post} (hT : FadesOutput q p.target) (hne : q ≠ o) (hact : p.action = .nothing) (s : State) :
    Spares o s (post p s) := by
  have other : ∀ e : FadeEntry, FadesOutput o e.target → e.target ≠ p.target := by
    rintro e (he | ⟨i, he⟩) heq <;> rcases hT with hp | ⟨j, hp⟩ <;> simp_all
  have val : q.val ≠ o.val := fun e => hne (Fin.ext e)
  -- the level written is that of the other output
  have written : Spares o s { Machine.setLevel p.target p.goal s with fades := s.fades } := by
    rcases hT with hp | ⟨j, hp⟩
    · rw [hp]
      exact { refl o s with trims := by simp [Machine.setLevel, Vector.getElem_set_ne _ _ val] }
    · rw [hp]
      exact { refl o s with xpts := by simp [Machine.setLevel, Vector.getElem_set_ne _ _ val] }
  have gained : ∀ e ∈ (Machine.post p s).fades, FadesOutput o e.target → e ∈ s.fades := by
    intro e he ho
    have hpe : (p.entry s).target = p.target := rfl
    rw [post_fades] at he
    split at he
    · exact (List.mem_filter.mp he).1
    split at he
    · obtain ⟨d, hd, rfl⟩ := List.mem_map.mp he
      by_cases hd' : d.target = p.target
      · rw [if_pos (beq_iff_eq.mpr hd')] at ho
        exact absurd hpe (other _ ho)
      · rw [if_neg (by simpa using hd')]
        exact hd
    split at he
    · rcases List.mem_append.mp he with he | he
      · exact he
      · exact absurd (List.mem_singleton.mp he ▸ hpe) (other e ho)
    · exact he
  have report : ∀ u, reportTarget p.target u = u := by
    rcases hT with hp | ⟨j, hp⟩ <;> exact fun u => by rw [hp]; rfl
  have complete : ∀ u, completeAtOnce p u = u := fun u => by rw [completeAtOnce, hact]
  have fold : (Machine.setLevel p.target p.goal s).foldback = s.foldback := by
    rcases hT with hp | ⟨j, hp⟩ <;> rw [hp] <;> rfl
  obtain ⟨hmix, hfold⟩ : ((Machine.post p s).mix = (Machine.setLevel p.target p.goal s).mix ∨
      (Machine.post p s).mix = s.mix) ∧ (Machine.post p s).foldback = s.foldback := by
    rcases postFade_cases p s with ⟨-, e⟩ | ⟨-, -, e⟩ | ⟨-, -, -, e⟩ | ⟨-, -, -, e⟩
    · rw [Machine.post, e, report, complete]
      exact ⟨.inl rfl, fold⟩
    · rw [Machine.post, e]
      exact ⟨.inr rfl, rfl⟩
    · rw [Machine.post, e]
      exact ⟨.inr rfl, rfl⟩
    · rw [Machine.post, e, snapFade, if_neg (by simp [hact]), report, complete]
      exact ⟨.inl rfl, fold⟩
  rcases hmix with e | e
  · exact ⟨e ▸ written.xpts, e ▸ written.trims, e ▸ written.blanking, by rw [hfold], by rw [hfold], by rw [hfold], gained⟩
  · exact ⟨by rw [e], by rw [e], by rw [e], by rw [hfold], by rw [hfold], by rw [hfold], gained⟩

/-- The foldback settings and the blanking state of another output. -/
theorem setMode (hne : q ≠ o) (m : FoldMode) (s : State) : Spares o s (setMode q m s) :=
  { refl o s with modes := Vector.getElem_set_ne q.isLt _ fun e => hne (Fin.ext e) }

theorem setOffset (hne : q ≠ o) (i : SourceNo) (x : Int) (s : State) : Spares o s (setOffset i q x s) :=
  { refl o s with offsets := Vector.getElem_set_ne q.isLt _ fun e => hne (Fin.ext e) }

theorem setCeiling (hne : q ≠ o) (x : Int) (s : State) : Spares o s (setCeiling q x s) :=
  { refl o s with ceilings := Vector.getElem_set_ne q.isLt _ fun e => hne (Fin.ext e) }

theorem setBlanking (hne : q ≠ o) (b : Blanking) (s : State) : Spares o s (setBlanking q b s) :=
  { refl o s with blanking := Vector.getElem_set_ne q.isLt _ fun e => hne (Fin.ext e) }

/-! ### The bodies of the monitor link's requests -/

/-- A request spares an output where its body, if the permissions table grants it, does. -/
theorem serve {l : Role} {code tag : Byte} {body : State → State × Reply}
    (hbody : permitted code l = true → ∀ u, u.mix = s.mix → Spares o u (body u).1) :
    Spares o s (serve l code tag body s) := by
  have reloaded : Spares o s (reloadPresence l s) := of_eq (by simp) (by simp) (by simp)
  have answered : ∀ u r, Spares o s u → Spares o s (respond l code tag r u) := fun _ _ h => h.trans (of_eq rfl rfl rfl)
  unfold Machine.serve
  split
  · exact refl o s
  split
  · exact answered _ _ (refl o s)
  split
  · exact answered _ _ reloaded
  · next hperm =>
    exact answered _ _ (reloaded.trans (hbody (by simpa using hperm) _ (by simp)))

theorem edit {l : Role} {body : State → State × Reply} (hbody : Spares o s (body s).1) : Spares o s (edit l body s).1 := by
  unfold Machine.edit
  split
  · exact refl o s
  · exact hbody

theorem framed {l : Role} {code tag : Byte} {words : List Word} {take : State → State} (htake : Spares o s (take s)) :
    Spares o s (framed l code tag words take s) := by
  unfold Machine.framed occur
  split
  · exact htake
  split
  · exact refl o s
  · exact of_eq rfl rfl rfl

theorem putCueBody (words : List Word) (s : State) : Spares o s (putCueBody words s).1 := by
  unfold Machine.putCueBody
  split
  · exact refl o s
  split
  · exact refl o s
  split
  · exact refl o s
  split
  · exact refl o s
  · exact of_eq rfl rfl rfl

theorem deleteCueBody (n : CueNum) (s : State) : Spares o s (deleteCueBody n s).1 := by
  unfold Machine.deleteCueBody
  split
  · exact refl o s
  split
  · exact refl o s
  dsimp only [acceptCueEdit, acceptWith]
  split
  · exact of_eq rfl rfl rfl
  · exact of_eq rfl rfl rfl

theorem putSceneBody (words : List Word) (s : State) : Spares o s (putSceneBody words s).1 := by
  unfold Machine.putSceneBody
  split
  · exact refl o s
  split
  · exact refl o s
  · exact of_eq rfl rfl rfl

theorem deleteSceneBody (id : Nat) (s : State) : Spares o s (deleteSceneBody id s).1 := by
  unfold Machine.deleteSceneBody
  split
  · exact refl o s
  · exact of_eq rfl rfl rfl

/-- An output that is refused to MONITOR is not one that MONITOR reaches (R99, R100, R116). -/
theorem monitor_ne (ho : s.mix.classes[o] ≠ .foldback) (h : ¬ monitorRefused .monitor q s = true) : q ≠ o := by
  rintro rfl
  exact h (by simpa [monitorRefused] using ho)

theorem setLevelBody (ho : s.mix.classes[o] ≠ .foldback) (source output : Byte) (level : Half) (time : Word) :
    Spares o s (setLevelBody .monitor source output level time s).1 := by
  unfold Machine.setLevelBody
  split
  · exact refl o s
  split
  · next i q _ _ =>
    split
    · exact refl o s
    · next h => exact post (.inr ⟨i, rfl⟩) (monitor_ne ho h) rfl s
  · exact refl o s

theorem setTrimBody (ho : s.mix.classes[o] ≠ .foldback) (output : Byte) (level : Half) (time : Word) :
    Spares o s (setTrimBody .monitor output level time s).1 := by
  unfold Machine.setTrimBody
  split
  · exact refl o s
  split
  · split
    · exact refl o s
    · next h => exact post (.inl rfl) (monitor_ne ho h) rfl s
  · exact refl o s

theorem blankingBody (ho : s.mix.classes[o] ≠ .foldback) (f : Blanking → Blanking) (output : Byte) :
    Spares o s (blankingBody f .monitor output s).1 := by
  unfold Machine.blankingBody
  split
  · exact refl o s
  split
  · exact refl o s
  · next h => exact setBlanking (monitor_ne ho h) _ s

theorem setFollowBody (ho : s.mix.classes[o] ≠ .foldback) (output mode main : Byte) :
    Spares o s (setFollowBody output mode main s).1 := by
  unfold Machine.setFollowBody
  split
  · split
    · exact refl o s
    · next h =>
      refine setMode ?_ _ s
      rintro rfl
      rw [modeFault_notFoldback ho] at h
      cases h
  · exact refl o s

theorem setOffsetBody (ho : s.mix.classes[o] ≠ .foldback) (source output : Byte) (offset : Half) :
    Spares o s (setOffsetBody source output offset s).1 := by
  unfold Machine.setOffsetBody
  split
  · split
    · exact refl o s
    · next h => exact setOffset (ne_of_class ho (not_not.mp h)) _ _ s
  · exact refl o s

theorem setCeilingBody (ho : s.mix.classes[o] ≠ .foldback) (output : Byte) (ceiling : Half) :
    Spares o s (setCeilingBody output ceiling s).1 := by
  unfold Machine.setCeilingBody
  split
  · exact refl o s
  split
  · exact refl o s
  · next h => exact setCeiling (ne_of_class ho (not_not.mp h)) _ s

/-- Talk reaches outputs only while they are formed: TALK ON writes the talk record alone (R135). -/
theorem talkOnBody (input : Byte) (set : BitVec 32) (level : Half) (s : State) :
    Spares o s (talkOnBody input set level s).1 := by
  unfold Machine.talkOnBody
  split
  · exact refl o s
  split
  · exact refl o s
  split
  · exact refl o s
  split
  · exact refl o s
  · exact { refl o s with }

theorem attachBody (l : Role) (rev : Byte) (s : State) : Spares o s (attachBody l rev s).1 := by
  unfold Machine.attachBody
  split
  · exact refl o s
  split
  · exact refl o s
  · exact of_eq rfl rfl rfl

end Spares

/-- Every command that comes on the monitor link spares an output that is not FOLDBACK: the requests that reach an
output check its class, and the others are not granted to the link or write no output. -/
theorem exec_spares {c : Instr} {s t : State} {o : OutputNo} (hc : c.sender = some .monitor) (h : exec c s = .next t)
    (ho : s.mix.classes[o] ≠ .foldback) : Spares o s t := by
  have kept : ∀ {u : State}, u.mix = s.mix → u.mix.classes[o] ≠ .foldback := fun e => e ▸ ho
  have link : ∀ {f : State → State}, (f s).mix = s.mix → (f s).foldback = s.foldback → (f s).fades = s.fades →
      Spares o s (occur f s) := fun hm hf he => by
    unfold occur
    split
    · exact .refl o s
    · exact .of_eq hm hf he
  cases c
  case mhreqAsserted | mhend | smRdySeen | taccExpiry | arbitrate | voiceFetchComplete | loadReadComplete |
      showstopAsserted | showstopDeasserted | resetAsserted | resetReleased | referenceLost | lockAchieved |
      presenceExpiry | prewaitEnd | followExpiry | callGateExpiry | talkGateExpiry | millisecondTick | fadeComplete |
      audioFrame | windowEnd | declickRampEnd | reclaimRampEnd | blankingRampEnd | voiceNaturalEnd | enterPlaying |
      enterStarved | returnToPlaying | decoderRun | referencePresentAndInRange => cases hc
  all_goals
    obtain rfl := Option.some.inj hc
    obtain rfl := Host.Outcome.next.inj h
  case readResponse => exact link rfl rfl rfl
  case badFrame => exact link rfl rfl rfl
  case unknownRequest => exact link (by simp) (by simp) (by simp)
  case attach => exact .serve fun _ u _ => .attachBody _ _ u
  case detach => exact .serve fun _ u _ => .detachEffects u
  case setPresence | setEventMask | readEvents | readStatus | readRunning | readVoices | readCalls =>
    exact .serve fun _ u _ => .of_eq rfl rfl rfl
  case readMeters => exact .serve fun _ u _ => { Spares.refl o u with }
  case readCue =>
    refine .serve fun _ u _ => ?_
    split
    · exact .refl o u
    · split <;> exact .refl o u
  case readScene =>
    refine .serve fun _ u _ => ?_
    split
    · exact .refl o u
    · split <;> exact .refl o u
  case readLevels =>
    refine .serve fun _ u _ => ?_
    split <;> exact .refl o u
  case editHold =>
    refine .serve fun _ u _ => ?_
    split
    · exact .changeHolder _ u
    · split <;> exact .refl o u
  case editRelease =>
    refine .serve fun _ u _ => ?_
    split
    · exact .refl o u
    split
    · exact .refl o u
    · exact .changeHolder _ u
  case putCue => exact .framed (.serve fun _ u _ => .edit (.putCueBody _ u))
  case deleteCue => exact .serve fun _ u _ => .edit (.deleteCueBody _ u)
  case putScene => exact .framed (.serve fun _ u _ => .edit (.putSceneBody _ u))
  case deleteScene => exact .serve fun _ u _ => .edit (.deleteSceneBody _ u)
  case loadShow =>
    refine .serve fun _ u _ => ?_
    split
    · exact .refl o u
    · exact .acceptLoad _ u
  case loadAbort =>
    refine .serve fun _ u _ => ?_
    split
    · exact .refl o u
    split
    · exact .abortLoad u
    · exact .refl o u
  case setLevel => exact .serve fun _ u hu => .setLevelBody (kept hu) _ _ _ _
  case setTrim => exact .serve fun _ u hu => .setTrimBody (kept hu) _ _ _
  case blank => exact .serve fun _ u hu => .blankingBody (kept hu) _ _
  case openOutput => exact .serve fun _ u hu => .blankingBody (kept hu) _ _
  case setFollow => exact .serve fun _ u hu => .setFollowBody (kept hu) _ _ _
  case setOffset => exact .serve fun _ u hu => .setOffsetBody (kept hu) _ _ _
  case setCeiling => exact .serve fun _ u hu => .setCeilingBody (kept hu) _ _
  case talkOn => exact .serve fun _ u _ => .talkOnBody _ _ _ u
  case talkOff => exact .serve fun _ u _ => .endTalk _ u
  -- the permissions table grants the monitor link none of the others
  all_goals exact .serve fun hperm => absurd hperm (by decide)

end Sys2Proof.Machine
end

section
/-! What the monitor link may reach. -/

namespace Sys2Proof.Proofs

open Sys2Proof.Machine

/-- Settles O11: every command of the monitor link spares an output that is not FOLDBACK. -/
theorem monitorReachesFoldbackOnly : Obligations.MonitorReachesFoldbackOnly := by
  unfold Obligations.MonitorReachesFoldbackOnly
  intro c s t o hc h ho
  obtain ⟨xpts, trims, blanking, modes, offsets, ceilings, fades⟩ := exec_spares hc h ho
  exact ⟨xpts, trims, blanking, modes, offsets, ceilings, fades⟩

end Sys2Proof.Proofs
end

section
/-! SUPPORT. The voices of a frame (R65, R76, R79, R85): a voice that does not deliver leaves the frame alone, and one
that delivers takes its head and gives one sample. -/

namespace Sys2Proof.Machine

section Voices

variable {s t : State} {v : VoiceNo} {x : Voice} {smp out : Int} {rest : List FifoEntry} {d : Dest} {st : VoiceState}

/-! ### A voice with nothing left to decode -/

theorem ran_idle (hbuf : x.buf = []) (hsilence : x.silence = 0) : ∃ f, x.ran = { x with fetch := f } := by
  have decoded : x.decoded = { entries := [], buf := [], pos := x.bufPos, silence := 0, fault := none } := by
    simp [Voice.decoded, hbuf, hsilence, decodeWords, Decoded.before, zeroFrames]
  have after : x.afterDecoder = x := by
    cases x
    simp_all [Voice.afterDecoder]
  exact ⟨_, by rw [Voice.ran, after]⟩

/-- Such a voice's decoder writes its fetch state alone, where it posts the next request (R74). -/
theorem runDecoder_idle (hbuf : (s.voice v).buf = []) (hsilence : (s.voice v).silence = 0) :
    ∃ f, runDecoder v s = s.setVoice v { s.voice v with fetch := f } := by
  cases hd : (s.voice v).decodes with
  | false =>
    refine ⟨(s.voice v).fetch, ?_⟩
    rw [runDecoder, if_neg (by rw [hd]; decide)]
    exact (State.setVoice_voice s v).symm
  | true =>
    have fault : (s.voice v).decoded.fault = none := by
      simp [Voice.decoded, hbuf, hsilence, decodeWords, Decoded.before]
    obtain ⟨f, hran⟩ := ran_idle hbuf hsilence
    rw [runDecoder_eq hd, fault, hran]
    exact ⟨f, rfl⟩

/-! ### Voices that do not deliver -/

theorem reportMarkers_silent (h : (s.voice v).delivers = false) (n : Nat) : reportMarkers v n s = s := by
  cases n with
  | zero => rfl
  | succ n =>
    unfold reportMarkers
    unfold Voice.delivers at h
    split at h <;> simp_all

/-- A voice that does not deliver takes nothing and gives nothing. -/
theorem playVoice_silent (h : (s.voice v).delivers = false) : playVoice v s = (s, none) := by
  unfold playVoice
  rw [reportMarkers_silent h]
  unfold Voice.delivers at h
  unfold dropMarkers
  split at h <;> simp_all [takeFrame]

theorem playVoices_silent {vs : List VoiceNo} (h : ∀ v ∈ vs, (s.voice v).delivers = false) : playVoices vs s = (s, []) := by
  induction vs with
  | nil => rfl
  | cons v vs ih =>
    rw [playVoices, playVoice_silent (h v List.mem_cons_self), ih fun w hw => h w (List.mem_cons_of_mem v hw)]
    rfl

/-- One delivering voice among others that do not. -/
theorem playVoices_one {vs : List VoiceNo} (hnodup : vs.Nodup) (hv : v ∈ vs) {dl : Delivery}
    (hplay : playVoice v s = (t, some dl)) (hsilent : ∀ w, w ≠ v → (s.voice w).delivers = false)
    (hothers : ∀ w, w ≠ v → t.voice w = s.voice w) : playVoices vs s = (t, [dl]) := by
  induction vs with
  | nil => cases hv
  | cons w vs ih =>
    obtain ⟨hnot, hnodup⟩ := List.nodup_cons.mp hnodup
    rw [playVoices]
    by_cases hw : w = v
    · subst hw
      have quiet : playVoices vs t = (t, []) := playVoices_silent fun u hu => by
        have hne : u ≠ w := fun e => hnot (e ▸ hu)
        rw [hothers u hne]
        exact hsilent u hne
      rw [hplay, quiet]
      rfl
    · rw [playVoice_silent (hsilent w hw), ih hnodup ((List.mem_cons.mp hv).resolve_left (Ne.symm hw))]
      rfl

/-- The frame takes every voice once (log 14). -/
theorem frameOrder_spec (first : List VoiceNo) : (frameOrder first).Nodup ∧ ∀ v, v ∈ frameOrder first := by
  unfold frameOrder
  induction first with
  | nil => exact ⟨List.nodup_finRange 32, List.mem_finRange⟩
  | cons w first ih =>
    obtain ⟨hnodup, hmem⟩ := ih
    rw [List.foldr_cons]
    refine ⟨List.nodup_cons.mpr ⟨by simp, hnodup.filter _⟩, fun v => ?_⟩
    by_cases hv : v = w
    · rw [hv]
      exact List.mem_cons_self
    · exact List.mem_cons_of_mem w (List.mem_filter.mpr ⟨hmem v, by simpa using hv⟩)

/-! ### A voice that delivers -/

/-- The head that a voice takes: the first frame of its FIFO, or silence where the FIFO is empty (R65). -/
def HasHead (x : Voice) (smp : Int) (rest : List FifoEntry) : Prop :=
  x.fifo = .frame smp :: rest ∨ x.fifo = [] ∧ smp = 0 ∧ rest = []

/-- What a sample taken by a voice becomes: its destination, the voice's next state and what it delivers (R65, R85). -/
def Sounds (x : Voice) (smp : Int) (d : Dest) (st : VoiceState) (out : Int) : Prop :=
  (x.state = .playing ∨ x.state = .stoppingFade) ∧ x.dest = d ∧ st = x.state ∧ out = product smp x.level.gain ∨
    (∃ p, x.state = .stoppingRamp p ∧ p < 240 ∧ x.dest = d ∧ st = .stoppingRamp (p + 1) ∧
      out = (product smp x.level.gain * (239 - p : Nat)).tdiv 240) ∨
    ∃ p g c, x.state = .reclaiming p d g c ∧ p < 240 ∧ st = .reclaiming (p + 1) d g c ∧
      out = (product smp g.gain * (239 - p : Nat)).tdiv 240

theorem rampNext_eq {p : Nat} (hp : p < 240) : rampNext p = p + 1 := Nat.min_eq_left hp

theorem rampFactor_eq (p : Nat) : rampFactor p = 239 - p := by
  show 240 - (p + 1) = 239 - p
  omega

theorem HasHead.takeHead (h : HasHead x smp rest) (st : VoiceState) :
    x.takeHead st = ({ x with state := st, fifo := rest }, smp) := by
  unfold Voice.takeHead
  rcases h with h | ⟨h, rfl, rfl⟩ <;> rw [h]

theorem HasHead.reportMarkers (h : HasHead (s.voice v) smp rest) (n : Nat) : reportMarkers v n s = s := by
  cases n with
  | zero => rfl
  | succ n =>
    unfold Machine.reportMarkers
    rcases h with h | ⟨h, -, -⟩ <;> simp [h]

theorem HasHead.dropMarkers (h : HasHead (s.voice v) smp rest) : dropMarkers v s = s := by
  unfold Machine.dropMarkers
  dsimp only
  split
  · have kept : (s.voice v).fifo.dropWhile (fun e => match e with
        | .marker _ => true
        | .frame _ => false) = (s.voice v).fifo := by
      rcases h with h | ⟨h, -, -⟩ <;> rw [h] <;> rfl
    refine Eq.trans ?_ (State.setVoice_voice s v)
    exact congrArg (fun f => s.setVoice v { s.voice v with fifo := f }) kept
  · rfl

/-- A delivering voice takes its head at its next state, and its sample goes to its destination. -/
theorem takeFrame_sounds (hx : x = s.voice v) (hbuf : x.buf = []) (hsilence : x.silence = 0) (hhead : HasHead x smp rest)
    (h : Sounds x smp d st out) :
    ∃ f, takeFrame v s = (s.setVoice v { x with state := st, fifo := rest, fetch := f },
      some { voice := v, dest := d, sample := out }) := by
  -- the decoder runs on the record whose head is taken
  have decoder : ∀ st, ∃ f, runDecoder v (s.setVoice v { x with state := st, fifo := rest }) =
      s.setVoice v { x with state := st, fifo := rest, fetch := f } := fun st => by
    obtain ⟨f, e⟩ := runDecoder_idle (s := s.setVoice v { x with state := st, fifo := rest }) (v := v)
      (by rw [State.voice_setVoice_self]; exact hbuf) (by rw [State.voice_setVoice_self]; exact hsilence)
    refine ⟨f, e.trans ?_⟩
    rw [State.voice_setVoice_self, State.setVoice_setVoice]
  unfold takeFrame
  dsimp only
  rw [← hx]
  rcases h with ⟨hst, rfl, rfl, rfl⟩ | ⟨p, hst, hp, rfl, rfl, rfl⟩ | ⟨p, g, c, hst, hp, rfl, rfl⟩
  · obtain ⟨f, e⟩ := decoder x.state
    refine ⟨f, ?_⟩
    rcases hst with hst | hst <;> rw [hst] at e ⊢ <;> dsimp only <;> rw [hhead.takeHead, e]
  · obtain ⟨f, e⟩ := decoder (.stoppingRamp (p + 1))
    refine ⟨f, ?_⟩
    rw [hst]
    dsimp only
    rw [rampNext_eq hp, rampFactor_eq, hhead.takeHead, e]
    rfl
  · refine ⟨x.fetch, ?_⟩
    rw [hst]
    dsimp only
    rw [rampNext_eq hp, rampFactor_eq, hhead.takeHead]
    rfl

theorem playVoice_sounds (hx : x = s.voice v) (hbuf : x.buf = []) (hsilence : x.silence = 0) (hhead : HasHead x smp rest)
    (h : Sounds x smp d st out) :
    ∃ f, playVoice v s = (s.setVoice v { x with state := st, fifo := rest, fetch := f },
      some { voice := v, dest := d, sample := out }) := by
  have head : HasHead (s.voice v) smp rest := hx ▸ hhead
  rw [playVoice, head.reportMarkers, head.dropMarkers]
  exact takeFrame_sounds hx hbuf hsilence hhead h

end Voices

end Sys2Proof.Machine
end

section
/-! SUPPORT. What a frame forms from the samples that its voices deliver (R112 to R117, R119, R151): the model's sums over
the deliveries are those over the stems' samples and the call voices' contributions. -/

namespace Sys2Proof.Machine

section Outputs

variable {s t : State} {ds : List Delivery} {stem : StemNo → Int} {voiced : Nat → Int}

/-! ### Contributions -/

theorem product_zero (g : Nat) : product 0 g = 0 := by
  show ((0 * (g : Int)) + 8192) / 16384 = 0
  rw [Int.zero_mul]
  decide

theorem contribution_zero (level : Int) : contribution 0 level = 0 := product_zero _

/-- The pair of a recorded call, where one voice alone delivers to the call destination (R151). -/
theorem carriedPair_recorded {v : VoiceNo} {out : Int} (hcall : ∀ w, callSample ds w = if w = v then out else 0) {c : Call}
    {r w : Nat} {o : Option Nat} (hsource : c.source = .recorded r w o) : carriedPair s ds c =
      if (s.voice v).reclaims then 0
      else if voiceOfCall s c.id = some v then product out (Level.db c.page).gain else 0 := by
  unfold carriedPair
  rw [hsource]
  dsimp only
  cases hw : voiceOfCall s c.id with
  | none => simp
  | some w =>
    dsimp only
    by_cases hv : w = v
    · rw [hcall, if_pos hv, hv, if_pos rfl]
      rfl
    · rw [hcall, if_neg hv, contribution_zero, if_neg (show ¬ some w = some v by simpa using hv), ite_self, ite_self]

theorem tailPairs_one {v : VoiceNo} {out : Int} (hcall : ∀ w, callSample ds w = if w = v then out else 0) (z : Nat) :
    tailPairs s ds z = ((s.relay.tails.filter fun tl => tl.voice == v && tl.zones.getLsbD z).map fun tl =>
      product out (Level.db tl.page).gain).sum := by
  unfold tailPairs
  induction s.relay.tails with
  | nil => rfl
  | cons tl tls ih =>
    cases hz : tl.zones.getLsbD z with
    | false =>
      rw [List.filter_cons_of_neg (by simp [hz]), List.filter_cons_of_neg (by simp [hz])]
      exact ih
    | true =>
      rw [List.filter_cons_of_pos (by simp [hz]), List.map_cons, List.sum_cons, ih, hcall]
      by_cases hv : tl.voice = v
      · rw [List.filter_cons_of_pos (by simp [hz, hv]), List.map_cons, List.sum_cons, if_pos hv]
        rfl
      · rw [List.filter_cons_of_neg (by simp [hv]), if_neg hv, contribution_zero, Int.zero_add]

/-- What one voice gives a zone, where it alone delivers to the call destination (R87, R151). -/
theorem zoneCalls_one {v : VoiceNo} {out : Int} (hcall : ∀ w, callSample ds w = if w = v then out else 0) {z : Nat}
    {zn : Zone} (hz : s.relay.zones[z]? = some zn) : zoneCalls s ds z zn = callPart s zn + voicePart s v out z := by
  unfold zoneCalls callPart voicePart
  rw [tailPairs_one hcall, hz, Option.bind_some]
  cases zn.carried.bind (callOf · s) with
  | none => simp
  | some c =>
    dsimp only
    cases hsource : c.source with
    | live i =>
      simp only [carriedPair, hsource, Int.zero_add]
      rfl
    | announce =>
      simp only [carriedPair, hsource, announcePair, Int.zero_add]
      cases s.showStop.announceIn <;> rfl
    | recorded r w o =>
      rw [carriedPair_recorded hcall hsource, Int.zero_add]
      unfold Voice.reclaims
      cases (s.voice v).state <;> rfl

theorem voicePart_zero (s : State) (v : VoiceNo) (z : Nat) : voicePart s v 0 z = 0 := by
  have tails : ∀ tls : List Tail, (tls.map fun tl => product 0 (Level.db tl.page).gain).sum = 0 := fun tls => by
    induction tls with
    | nil => rfl
    | cons tl tls ih => rw [List.map_cons, List.sum_cons, ih, product_zero]; rfl
  unfold voicePart
  rw [tails]
  split
  · split <;> simp [product_zero]
  · rfl

/-- No voice gives a zone anything where none delivers to the call destination. -/
theorem zoneCalls_none (hcall : ∀ w, callSample ds w = 0) {z : Nat} {zn : Zone} (hz : s.relay.zones[z]? = some zn) :
    zoneCalls s ds z zn = callPart s zn := by
  rw [zoneCalls_one (v := 0) (out := 0) (fun w => by rw [hcall, ite_self]) hz, voicePart_zero, Int.add_zero]

/-! ### The samples that a frame's deliveries make -/

/-- The deliveries of a frame make these stems and these contributions of call voices. -/
structure Feeds (s : State) (ds : List Delivery) (stem : StemNo → Int) (voiced : Nat → Int) : Prop where
  stems : ∀ k, sat24 (stemSum ds k) = stem k
  calls : ∀ z zn, s.relay.zones[z]? = some zn → zoneCalls s ds z zn = callPart s zn + voiced z

theorem feeds_none (s : State) : Feeds s [] (fun _ => 0) (fun _ => 0) where
  stems _ := rfl
  calls z zn hz := by rw [zoneCalls_none (fun _ => rfl) hz, Int.add_zero]

theorem feeds_stem (s : State) (v : VoiceNo) (k : StemNo) (out : Int) :
    Feeds s [{ voice := v, dest := .stem k, sample := out }] (fun j => if j = k then sat24 out else 0) (fun _ => 0) where
  stems j := by
    by_cases hj : j = k
    · simp [stemSum, hj]
    · have : ¬ k = j := Ne.symm hj
      simp [stemSum, hj, this]
      rfl
  calls z zn hz := by rw [zoneCalls_none (fun w => by simp [callSample]) hz, Int.add_zero]

theorem feeds_call (s : State) (v : VoiceNo) (out : Int) :
    Feeds s [{ voice := v, dest := .call, sample := out }] (fun _ => 0) (voicePart s v out) where
  stems _ := by simp [stemSum]; rfl
  calls z zn hz := zoneCalls_one (fun w => by
    by_cases hw : w = v
    · simp [callSample, hw]
    · have : ¬ v = w := Ne.symm hw
      simp [callSample, hw, this]) hz

namespace Feeds

variable (h : Feeds s ds stem voiced) (o : OutputNo)
include h

theorem programSum : programSum s ds o = frameProgram s stem o := by
  have source : ∀ i, sourceSample s ds i = frameSource s stem i := fun i => by
    unfold sourceSample frameSource
    split
    · exact h.stems _
    · rfl
  unfold Machine.programSum frameProgram
  simp only [source]

omit h in
theorem announcement_eq (s : State) : announcement s = announcePart s := by
  unfold announcement announcePart announcePair
  cases s.showStop.state <;> cases s.showStop.announceIn <;> rfl

theorem relaySum {zn : Zone} (hzn : s.relay.zones[s.relay.zones.findIdx fun z => z.output == o]? = some zn) :
    relaySum s ds o = product (frameProgram s stem o)
        ((((s.mix.trims[o]).add (.db zn.leveler)).add (.db zn.duck)).toDomain).gain + callPart s zn +
          voiced (s.relay.zones.findIdx fun zn => zn.output == o) := by
  obtain ⟨hlen, -⟩ := List.getElem?_eq_some_iff.mp hzn
  have zone : zoneOfOutput s o = some (s.relay.zones.findIdx fun z => z.output == o) := if_pos hlen
  unfold Machine.relaySum
  rw [zone]
  dsimp only
  rw [hzn]
  dsimp only
  rw [h.programSum, h.calls _ zn hzn, Int.add_assoc]
  rfl

omit h in
theorem relaySum_noZone (hnone : s.relay.zones[s.relay.zones.findIdx fun z => z.output == o]? = none) :
    Machine.relaySum s ds o = 0 := by
  have zone : zoneOfOutput s o = none := if_neg (Nat.not_lt.mpr (List.getElem?_eq_none_iff.mp hnone))
  unfold Machine.relaySum
  rw [zone]

theorem outputSum : outputSum s ds o = frameSum s stem voiced o := by
  unfold Machine.outputSum frameSum
  cases s.mix.classes[o] with
  | unused => rfl
  | main => dsimp only; rw [h.programSum, announcement_eq]; rfl
  | foldback => dsimp only; rw [h.programSum, announcement_eq]; rfl
  | relay =>
    dsimp only
    rw [List.find?_eq_getElem?_findIdx]
    cases hzn : s.relay.zones[s.relay.zones.findIdx fun z => z.output == o]? with
    | none => exact relaySum_noZone o hzn
    | some zn => exact h.relaySum o hzn

omit h in
theorem clampCeiling_eq (c y : Int) :
    clampCeiling c y = max (-(magnitudeOf c : Int)) (min (magnitudeOf c) y) := by
  unfold clampCeiling
  dsimp only
  split
  · omega
  · split <;> omega

theorem finished : finished s ds o = frameLimited s stem voiced o := by
  unfold Machine.finished frameLimited
  rw [h.outputSum]
  cases s.mix.classes[o] with
  | foldback => exact clampCeiling_eq _ _
  | unused => rfl
  | main => rfl
  | relay => rfl

theorem sent : sent s ds o =
    (frameLimited s stem voiced o * blankingNumerator s.mix.blanking[o]).tdiv 240 := by
  have factor : ∀ b : Blanking, b.factor = blankingNumerator b := fun b => by
    cases b with
    | closing c =>
      show 240 - (c + 1) = 239 - c
      omega
    | opened => rfl
    | blanked => rfl
    | opening p => rfl
  rw [Machine.sent, h.finished, factor]
  rfl

theorem clipsOf : clipsOf s ds o = frameClips s stem voiced o := by
  unfold Machine.clipsOf frameClips limited
  rw [h.outputSum, h.finished]
  by_cases hl : sat24 (frameSum s stem voiced o) = frameSum s stem voiced o <;>
    by_cases hc : frameLimited s stem voiced o = sat24 (frameSum s stem voiced o) <;> simp [hl, hc, bit]

theorem clipCause : clipCause s ds o =
    if sat24 (frameSum s stem voiced o) = frameSum s stem voiced o then 1 else 0 := by
  unfold Machine.clipCause limited
  rw [h.outputSum]
  split <;> split <;> simp_all

end Feeds

end Outputs

end Sys2Proof.Machine
end

section
/-! SUPPORT. What a frame leaves (R113 to R121, R137, R142, R155). -/

namespace Sys2Proof.Machine

section Frame

variable {s t r : State} {ds : List Delivery} {stem : StemNo → Int} {voiced : Nat → Int}

/-! ### CLIP (R119) -/

/-- Whether an output raises CLIP in a frame (R119). -/
def ClipsNow (s : State) (ds : List Delivery) (o : OutputNo) : Prop :=
  s.mix.classes[o] ≠ .unused ∧ 0 < clipsOf s ds o ∧ (s.mix.meters[o]).reported = false

/-- The CLIP record of an output (R119). -/
def clipEvent (s : State) (ds : List Delivery) (o : OutputNo) : Event :=
  { kind := .clip, output := .ofNat 8 o.val, aux1 := clipCause s ds o }

theorem reportClip_clips {o : OutputNo} (h : ClipsNow s ds o) (t : State) :
    reportClip s ds o t = raise (clipEvent s ds o) t := if_pos h

theorem reportClip_quiet {o : OutputNo} (h : ¬ ClipsNow s ds o) (t : State) : reportClip s ds o t = t := if_neg h

theorem Raised.raise {e : Event} (h : Raised e t) (f : Event) : Raised e (raise f t) :=
  h.receives (t := Machine.raise f t) (es := [f]) rfl fun r => link_raise f t r

theorem Raised.reportClip {e : Event} (h : Raised e t) (o : OutputNo) : Raised e (reportClip s ds o t) := by
  by_cases ho : ClipsNow s ds o
  · rw [reportClip_clips ho]
    exact h.raise _
  · rw [reportClip_quiet ho]
    exact h

theorem Raised.reportClips {e : Event} (h : Raised e t) (os : List OutputNo) :
    Raised e (os.foldl (fun u o => Machine.reportClip s ds o u) t) := by
  induction os generalizing t with
  | nil => exact h
  | cons o os ih => exact ih (h.reportClip o)

/-- Every output that clips raises its record. -/
theorem raised_reportClips {o : OutputNo} (h : ClipsNow s ds o) (t : State) :
    Raised (clipEvent s ds o) (reportClips s ds t) := by
  obtain ⟨before, after, hsplit⟩ := List.append_of_mem (List.mem_finRange o)
  have order : outputNos = before ++ o :: after := hsplit
  rw [reportClips, order, List.foldl_append, List.foldl_cons, reportClip_clips h]
  exact (raised_raise _ _).reportClips after

theorem reportClips_quiet (h : ∀ o, ¬ ClipsNow s ds o) (t : State) : reportClips s ds t = t := by
  unfold reportClips
  induction outputNos with
  | nil => rfl
  | cons o os ih => rw [List.foldl_cons, reportClip_quiet (h o), ih]

/-- Nothing but the links is touched by the records. -/
theorem reportClips_links (s : State) (ds : List Delivery) (t : State) :
    ∃ ls, reportClips s ds t = { t with links := ls } := by
  unfold reportClips
  induction outputNos generalizing t with
  | nil => exact ⟨t.links, rfl⟩
  | cons o os ih =>
    obtain ⟨ls, e⟩ := ih (reportClip s ds o t)
    refine ⟨ls, ?_⟩
    rw [List.foldl_cons, e]
    by_cases ho : ClipsNow s ds o
    · rw [reportClip_clips ho]
      rfl
    · rw [reportClip_quiet ho]

/-! ### The end of a frame -/

/-- What a frame leaves once its voices are taken. -/
def frameEnd (s : State) (ds : List Delivery) (live : Vector (BitVec 24) 16) (r : State) : State :=
  finishFrame s ds live (reportClips s ds (countStems ds r))

theorem exec_audioFrame (live : Vector (BitVec 24) 16) (first : List VoiceNo) (hreset : s.timing.inReset = false)
    (hplay : playVoices (frameOrder first) (runGates s) = (r, ds)) :
    exec (.audioFrame live first) s = .next (frameEnd s ds live r) := by
  refine congrArg Host.Outcome.next ((occur_running (audioFrame live first) s hreset).trans ?_)
  unfold audioFrame
  rw [hplay]
  rfl

/-- The parts of the state after a frame: all but the links are told by its voices and its deliveries. -/
theorem frameEnd_eq (s : State) (ds : List Delivery) (live : Vector (BitVec 24) 16) (r : State) :
    ∃ ls, frameEnd s ds live r = finishFrame s ds live { countStems ds r with links := ls } := by
  obtain ⟨ls, e⟩ := reportClips_links s ds (countStems ds r)
  exact ⟨ls, by rw [frameEnd, e]⟩

@[simp] theorem frameEnd_seq (s : State) (ds : List Delivery) (live : Vector (BitVec 24) 16) (r : State) :
    (frameEnd s ds live r).seq = r.seq := by
  obtain ⟨ls, e⟩ := frameEnd_eq s ds live r
  rw [e]
  rfl

@[simp] theorem frameEnd_fades (s : State) (ds : List Delivery) (live : Vector (BitVec 24) 16) (r : State) :
    (frameEnd s ds live r).fades = r.fades := by
  obtain ⟨ls, e⟩ := frameEnd_eq s ds live r
  rw [e]
  rfl

@[simp] theorem frameEnd_voice (s : State) (ds : List Delivery) (live : Vector (BitVec 24) 16) (r : State) (v : VoiceNo) :
    (frameEnd s ds live r).voice v = r.voice v := by
  obtain ⟨ls, e⟩ := frameEnd_eq s ds live r
  rw [e]
  rfl

/-- The stem saturation counts (R87). -/
theorem frameEnd_stemSat (s : State) (ds : List Delivery) (live : Vector (BitVec 24) 16) (r : State) (j : StemNo) :
    (frameEnd s ds live r).stream.stemSat[j] = if sat24 (stemSum ds j) ≠ stemSum ds j then
      min (r.stream.stemSat[j] + 1) 65535 else r.stream.stemSat[j] := by
  obtain ⟨ls, e⟩ := frameEnd_eq s ds live r
  rw [e]
  simp only [finishFrame, countStems, Fin.getElem_fin, getElem_tabulate, limited, bne_iff_ne, countUp]
  rfl

theorem Raised.frameEnd {e : Event} (h : Raised e r) (s : State) (ds : List Delivery) (live : Vector (BitVec 24) 16) :
    Raised e (frameEnd s ds live r) := by
  have counted : Raised e (countStems ds r) := h
  exact fun l => (counted.reportClips (s := s) (ds := ds) outputNos) l

/-- What a frame sends and measures, where its voices leave the Mix Matrix (R115, R117, R119, R121). -/
theorem Feeds.frameSent (h : Feeds s ds stem voiced) (hmix : r.mix = s.mix) (live : Vector (BitVec 24) 16) :
    FrameSentWith s stem voiced (frameEnd s ds live r) := by
  obtain ⟨ls, e⟩ := frameEnd_eq s ds live r
  rw [e]
  have sends : ∀ o : OutputNo, (finishFrame s ds live { countStems ds r with links := ls }).mix.txNext[o] =
      Machine.sent s ds o := fun o => by simp [finishFrame]
  have meters : ∀ o : OutputNo, (finishFrame s ds live { countStems ds r with links := ls }).mix.meters[o] =
      meterAfter s ds o s.mix.meters[o] := fun o => by simp [finishFrame, countStems, hmix]
  refine ⟨fun o => (sends o).trans (h.sent o), rfl, fun o => ⟨fun hclass => ?_, fun hclass => ?_⟩⟩
  · rw [meters, meterAfter, hclass]
  · have after : meterAfter s ds o s.mix.meters[o] =
        { peak := max s.mix.meters[o].peak (Machine.sent s ds o).natAbs,
          clips := countUp s.mix.meters[o].clips (Machine.clipsOf s ds o),
          reported := s.mix.meters[o].reported || decide (0 < Machine.clipsOf s ds o) } := by
      unfold meterAfter
      cases hc : s.mix.classes[o] with
      | unused => exact absurd hc hclass
      | main => rfl
      | foldback => rfl
      | relay => rfl
    rw [meters, sends, after, h.clipsOf]
    refine ⟨rfl, Nat.min_comm _ _, ?_⟩
    rw [Bool.or_eq_true, decide_eq_true_eq]

/-- The CLIP records of a frame whose voices raise nothing (R119). -/
theorem Feeds.clipsReported (h : Feeds s ds stem fun _ => 0) (hlinks : r.links = s.links)
    (live : Vector (BitVec 24) 16) : ClipsReported s stem (frameEnd s ds live r) := by
  refine ⟨fun o hclass hclips hrep => ?_, fun hquiet => ?_⟩
  · have now : ClipsNow s ds o := ⟨hclass, by rw [h.clipsOf]; exact hclips, hrep⟩
    have raised := raised_reportClips now (countStems ds r)
    rw [clipEvent, h.clipCause] at raised
    exact fun l => raised l
  · have none : ∀ o, ¬ ClipsNow s ds o := by
      rintro o ⟨hclass, hclips, hrep⟩
      rw [h.clipsOf] at hclips
      rw [hquiet o hclass hclips] at hrep
      cases hrep
    rw [frameEnd, reportClips_quiet none]
    exact hlinks

/-- An unheld zone's window peak (R113, R142). -/
theorem Feeds.measured (h : Feeds s ds stem voiced) (zn : Zone) : zn.measured s ds =
    if zn.duck < 0 ∨ s.showStop.state ≠ .normal then zn else
      { zn with peak := max zn.peak (min 8388608 (product (frameProgram s stem zn.output)
        (((s.mix.trims[zn.output]).add (.db zn.leveler)).toDomain).gain).natAbs) } := by
  have held : zoneHeld s zn = true ↔ zn.duck < 0 ∨ s.showStop.state ≠ .normal := by simp [zoneHeld]
  unfold Zone.measured
  by_cases hz : zn.duck < 0 ∨ s.showStop.state ≠ .normal
  · rw [if_pos (held.mpr hz), if_pos hz]
  · rw [if_neg (mt held.mp hz), if_neg hz, measure, h.programSum, Nat.min_comm]
    rfl

/-- A frame in which one voice with an empty buffer delivers its head: the voices' part writes that voice alone, and the
frame's end is over its one delivery. -/
theorem exec_audioFrame_sounds (live : Vector (BitVec 24) 16) (first : List VoiceNo) {v : VoiceNo} {x : Voice}
    {smp out : Int} {rest : List FifoEntry} {d : Dest} {st : VoiceState} (hreset : s.timing.inReset = false)
    (hx : x = s.voice v) (hbuf : x.buf = []) (hsilence : x.silence = 0)
    (hsilent : ∀ u, u ≠ v → (s.voice u).delivers = false) (hhead : HasHead x smp rest) (hsounds : Sounds x smp d st out) :
    ∃ r f, exec (.audioFrame live first) s = .next (frameEnd s [{ voice := v, dest := d, sample := out }] live r) ∧
      r.voice v = { x with state := st, fifo := rest, fetch := f } ∧ (∀ u, u ≠ v → r.voice u = s.voice u) ∧
      r.mix = s.mix ∧ r.seq = s.seq ∧ r.fades = s.fades ∧ r.stream.stemSat = s.stream.stemSat := by
  obtain ⟨f, played⟩ := playVoice_sounds (s := runGates s) hx hbuf hsilence hhead hsounds
  have others : ∀ u, u ≠ v → ((runGates s).setVoice v { x with state := st, fifo := rest, fetch := f }).voice u =
      s.voice u := fun u hu => State.voice_setVoice_ne _ v u _ hu
  obtain ⟨hnodup, hmem⟩ := frameOrder_spec first
  exact ⟨_, f, exec_audioFrame live first hreset (playVoices_one hnodup (hmem v) played hsilent others),
    State.voice_setVoice_self .., others, rfl, rfl, rfl, rfl⟩

/-! ### The TDM slots (R121) -/

theorem tdmOut_eq {line : Fin 4} {slot : Fin 8} {o : OutputNo} (ho : o.val = 8 * line.val + slot.val) (t : State) :
    tdmOut t line slot = BitVec.ofInt 24 t.mix.tx[o] ++ 0#8 := by
  have : outputOfSlot line slot = o := Fin.ext ho.symm
  exact congrArg (fun q : OutputNo => slotWord t.mix.tx[q]) this

theorem liveOfLines_eq {line : Fin 2} {slot : Fin 8} {i : LiveNo} (hi : i.val = 8 * line.val + slot.val)
    (lines : Vector (Vector (BitVec 32) 8) 2) :
    (liveOfLines lines)[i] = (lines[line][slot]).extractLsb' 8 24 := by
  have hline : i.val / 8 = line.val := by omega
  have hslot : i.val % 8 = slot.val := by omega
  simp [liveOfLines, slotSample, hline, hslot]

end Frame

end Sys2Proof.Machine
end

section
/-! The frames that send what no voice, and what a call voice, delivers. -/

namespace Sys2Proof.Proofs

open Sys2Proof.Machine

/-- Settles O52: the frame's end, over no delivery and over one delivery to the call destination. -/
theorem audioFrameOutputs : Obligations.AudioFrameOutputs := by
  unfold Obligations.AudioFrameOutputs
  refine ⟨fun live first s hreset hsilent => ?_, fun live first s v x smp rest out st hreset hx hbuf hsilence hsilent
    hhead hsounds => ?_⟩
  · have plays : playVoices (frameOrder first) (runGates s) = (runGates s, []) :=
      playVoices_silent fun v _ => hsilent v
    have feeds := feeds_none s
    obtain ⟨ls, e⟩ := frameEnd_eq s [] live (runGates s)
    refine ⟨frameEnd s [] live (runGates s), exec_audioFrame live first hreset plays, feeds.frameSent (r := runGates s) rfl live,
      feeds.clipsReported (r := runGates s) rfl live, ?_⟩
    rw [e]
    refine ⟨fun i => ?_, fun line slot o ho => tdmOut_eq ho _, ?_, rfl, rfl, fun o => ?_, ?_, ?_, ?_, rfl, rfl, rfl, rfl,
      rfl, rfl, rfl, rfl, rfl, rfl⟩
    · simp [finishFrame]
    · rintro lines line slot i rfl hi
      rw [← liveOfLines_eq hi]
      simp [finishFrame]
    · have advanced : (finishFrame s [] live { countStems [] (runGates s) with links := ls }).mix.blanking[o] =
          (s.mix.blanking[o]).advance := by simp [finishFrame, countStems, runGates]
      rw [advanced]
      cases s.mix.blanking[o] <;> rfl
    · exact List.map_congr_left fun zn _ => feeds.measured zn
    · intro gate hgate
      have gates : gate = GateTimer.atFrame s := by
        rw [hgate]
        funext i g
        simp only [GateTimer.atFrame, gateOpen, decide_eq_true_eq]
      rw [gates]
      refine ⟨rfl, List.map_congr_left fun c _ => ?_⟩
      unfold Call.atFrame
      cases c.source <;> rfl
    · have kept : (tabulate 24 fun k => if limited (stemSum [] k) then countUp s.stream.stemSat[k] 1
          else s.stream.stemSat[k]) = s.stream.stemSat := Vector.ext fun k hk => by
        rw [getElem_tabulate]
        rfl
      exact congrArg (fun n => { s.stream with stemSat := n }) kept
  · have sounds : Sounds x smp .call st out := hsounds
    have head : HasHead x smp rest := hhead.imp_right fun ⟨h0, h1, h2, _⟩ => ⟨h0, h1, h2⟩
    obtain ⟨r, f, runs, voice, others, hmix, -, -, hsat⟩ :=
      exec_audioFrame_sounds live first hreset hx hbuf hsilence hsilent head sounds
    refine ⟨_, runs, (feeds_call s v out).frameSent hmix live, ?_, fun u hu => ?_, ?_⟩
    · rw [frameEnd_voice, voice]
    · rw [frameEnd_voice, others u hu]
    · refine Vector.ext fun k hk => ?_
      have counted := frameEnd_stemSat s [{ voice := v, dest := .call, sample := out }] live r ⟨k, hk⟩
      have sum : stemSum [{ voice := v, dest := .call, sample := out }] ⟨k, hk⟩ = 0 := by simp [stemSum]
      rw [sum, hsat] at counted
      exact counted

end Sys2Proof.Proofs
end

section
/-! SUPPORT. A marker at the head of a delivering voice (R56, R76, R79). -/

namespace Sys2Proof.Machine

namespace Within

variable {s t : State}

theorem runDecoder (h : Within 2 s t) {v : VoiceNo} : Within 2 s (Machine.runDecoder v t) := by
  unfold Machine.runDecoder
  dsimp only
  split
  · split
    · split
      · exact h.setVoice.postFetch
      · exact h.setVoice.raiseAny.postFetch
    · exact h.setVoice.postFetch
  · exact h

theorem fireMarkerCues (h : Within 2 s t) (cs : List Cue) :
    Within 2 s (cs.foldl (fun u c => Machine.fireMarkerCue c u) t) := foldl (fun _ _ hu => hu.fireMarkerCue) cs h

theorem reportMarker (h : Within 2 s t) {v : VoiceNo} {id : Byte} : Within 2 s (Machine.reportMarker v id t) := by
  unfold Machine.reportMarker
  dsimp only
  split
  · exact h.raiseAny.fireMarkerCues _
  · exact h.raiseAny

theorem reportMarkers (h : Within 2 s t) {v : VoiceNo} (n : Nat) : Within 2 s (Machine.reportMarkers v n t) := by
  induction n generalizing t with
  | zero => exact h
  | succ n ih =>
    unfold Machine.reportMarkers
    dsimp only
    split
    · exact ih h.setVoice.runDecoder.reportMarker
    · exact ih h.setVoice.runDecoder.reportMarker
    · exact ih h.setVoice.runDecoder.reportMarker
    · exact h

theorem dropMarkers (h : Within 2 s t) {v : VoiceNo} : Within 2 s (Machine.dropMarkers v t) := by
  unfold Machine.dropMarkers
  dsimp only
  split
  · exact h.setVoice
  · exact h

theorem takeFrame (h : Within 2 s t) {v : VoiceNo} : Within 2 s (Machine.takeFrame v t).1 := by
  unfold Machine.takeFrame
  dsimp only
  split
  · exact h.setVoice.runDecoder
  · exact h.setVoice.runDecoder
  · exact h.setVoice.runDecoder
  · exact h.setVoice
  · exact h

theorem playVoices (h : Within 2 s t) (vs : List VoiceNo) : Within 2 s (Machine.playVoices vs t).1 := by
  induction vs generalizing t with
  | nil => exact h
  | cons v vs ih => exact ih (h.reportMarkers _).dropMarkers.takeFrame

end Within

section Marker

variable {s r : State} {v : VoiceNo} {x : Voice} {smp : Int} {rest : List FifoEntry} {id : Byte}

/-- The state in which a marker at the head is reported: the marker is gone, and the decoder has run on an empty buffer. -/
theorem reportMarkers_marker (hx : x = s.voice v) (hstate : x.state = .playing)
    (hfifo : x.fifo = .marker id :: .frame smp :: rest) (hbuf : x.buf = []) (hsilence : x.silence = 0) (n : Nat) :
    ∃ f, reportMarkers v (n + 1) s =
      reportMarkers v n (reportMarker v id (s.setVoice v { x with fifo := .frame smp :: rest, fetch := f })) := by
  obtain ⟨f, decoder⟩ := runDecoder_idle (s := s.setVoice v { x with fifo := .frame smp :: rest }) (v := v)
    (by rw [State.voice_setVoice_self]; exact hbuf) (by rw [State.voice_setVoice_self]; exact hsilence)
  rw [State.voice_setVoice_self, State.setVoice_setVoice] at decoder
  refine ⟨f, ?_⟩
  rw [reportMarkers, ← hx, hstate, hfifo]
  dsimp only
  rw [← hstate, decoder]

/-- The report of a marker raises it, whatever it fires. -/
theorem raised_reportMarker (v : VoiceNo) (id : Byte) (s : State) :
    Raised (markerEvent v id (s.voice v).owner) (reportMarker v id s) := by
  have raised := raised_raise (markerEvent v id (s.voice v).owner) s
  unfold reportMarker
  dsimp only
  split
  · exact raised.within ((Within.refl 2 _).fireMarkerCues _)
  · exact raised

theorem reportMarker_orphan (howner : (s.voice v).owner = .orphan) :
    reportMarker v id s = raise (markerEvent v id .orphan) s := by
  unfold reportMarker
  dsimp only
  rw [howner]
  split
  · next h => cases h
  · rfl

theorem reportMarker_inst {i : Nat} {c : CueNum} (hstate : (s.voice v).state = .playing)
    (howner : (s.voice v).owner = .inst i c) : reportMarker v id s =
      (markerCues c id s).foldl (fun u q => fireMarkerCue q u) (raise (markerEvent v id (.inst i c)) s) := by
  unfold reportMarker
  dsimp only
  rw [hstate, howner]
  rfl

/-- The voices that stand before a delivering one are passed over. -/
theorem playVoices_passes {before after : List VoiceNo} (hbefore : v ∉ before)
    (hsilent : ∀ w, w ≠ v → (s.voice w).delivers = false) : playVoices (before ++ after) s = playVoices after s := by
  induction before with
  | nil => rfl
  | cons w before ih =>
    obtain ⟨hw, hbefore⟩ := List.ne_and_not_mem_of_not_mem_cons hbefore
    rw [List.cons_append, playVoices, playVoice_silent (hsilent w (Ne.symm hw)), ih hbefore]
    rfl

/-- The voices' part of a frame in which one voice delivers, whose head is a marker before a frame: the marker is reported
in a state `w` in which it is taken, and where the report moves no voice, the frame after it is taken. -/
theorem playVoices_marker {vs : List VoiceNo} (hnodup : vs.Nodup) (hv : v ∈ vs) (hx : x = s.voice v)
    (hstate : x.state = .playing) (hfifo : x.fifo = .marker id :: .frame smp :: rest) (hbuf : x.buf = [])
    (hsilence : x.silence = 0) (hsilent : ∀ w, w ≠ v → (s.voice w).delivers = false) :
    ∃ w, w.seq = s.seq ∧ w.store = s.store ∧ w.timing = s.timing ∧ (w.voice v).state = .playing ∧
      (w.voice v).owner = x.owner ∧ Raised (markerEvent v id x.owner) (playVoices vs s).1 ∧
      ((reportMarker v id w).stream = w.stream →
        (playVoices vs s).1.seq = (reportMarker v id w).seq ∧ ((playVoices vs s).1.voice v).fifo = rest) := by
  obtain ⟨f, reports⟩ := reportMarkers_marker hx hstate hfifo hbuf hsilence (rest.length + 1)
  obtain ⟨w, hw⟩ : ∃ w, w = s.setVoice v { x with fifo := .frame smp :: rest, fetch := f } := ⟨_, rfl⟩
  have turns : (s.voice v).fifo.length + (s.voice v).buf.length = rest.length + 1 + 1 := by
    rw [← hx, hfifo, hbuf]
    rfl
  have played : playVoice v s = takeFrame v (dropMarkers v (reportMarkers v (rest.length + 1) (reportMarker v id w))) := by
    rw [playVoice, turns, reports, hw]
  have voice : w.voice v = { x with fifo := .frame smp :: rest, fetch := f } := by rw [hw, State.voice_setVoice_self]
  refine ⟨w, by rw [hw]; rfl, by rw [hw]; rfl, by rw [hw]; rfl, by rw [voice]; exact hstate, by rw [voice], ?_, ?_⟩
  · obtain ⟨before, after, rfl⟩ := List.append_of_mem hv
    have raised := raised_reportMarker v id w
    rw [voice] at raised
    rw [playVoices_passes (fun hb => (List.disjoint_of_nodup_append hnodup) hb List.mem_cons_self) hsilent, playVoices, played]
    exact raised.within (((Within.refl 2 _).reportMarkers _).dropMarkers.takeFrame.playVoices _)
  · intro hstream
    obtain ⟨u, hu⟩ : ∃ u, u = reportMarker v id w := ⟨_, rfl⟩
    rw [← hu] at played hstream ⊢
    have voices : ∀ q, u.voice q = w.voice q := fun q => by rw [State.voice, hstream]; rfl
    have head : HasHead (u.voice v) smp rest := .inl (by rw [voices, voice])
    obtain ⟨g, takes⟩ := takeFrame_sounds ((voices v).trans voice).symm hbuf hsilence (.inl rfl)
      (.inl ⟨.inl hstate, rfl, rfl, rfl⟩)
    rw [head.reportMarkers, head.dropMarkers, takes] at played
    rw [playVoices_one hnodup hv played hsilent fun q hq => by
      rw [State.voice_setVoice_ne _ _ _ _ hq, voices, hw, State.voice_setVoice_ne _ _ _ _ hq]]
    exact ⟨rfl, by rw [State.voice_setVoice_self]⟩

end Marker

end Sys2Proof.Machine
end

section
/-! The frame of one voice that delivers to a stem, and its marker. -/

namespace Sys2Proof.Proofs

open Sys2Proof.Machine

/-- Settles O53: the frame's end over one delivery to a stem, and the report of a marker with the cue it fires. -/
theorem voiceFrame : Obligations.VoiceFrame := by
  unfold Obligations.VoiceFrame
  intro live first s v x smp rest hreset hx hbuf hsilence hsilent
  refine ⟨fun hhead k out st hsounds => ?_, fun id hfifo hstate => ?_⟩
  · have sounds : Sounds x smp (.stem k) st out := hsounds
    have head : HasHead x smp rest := hhead.imp_right fun ⟨h0, h1, h2, _⟩ => ⟨h0, h1, h2⟩
    obtain ⟨r, f, runs, voice, others, hmix, hseq, hfades, hsat⟩ :=
      exec_audioFrame_sounds live first hreset hx hbuf hsilence hsilent head sounds
    refine ⟨_, runs, (feeds_stem s v k out).frameSent hmix live, ?_, fun u hu => ?_, fun j => ?_, ?_, ?_⟩
    · rw [frameEnd_voice, voice]
    · rw [frameEnd_voice, others u hu]
    · rw [frameEnd_stemSat, hsat]
      by_cases hj : j = k
      · have sum : stemSum [{ voice := v, dest := .stem k, sample := out }] j = out := by simp [stemSum, hj]
        rw [sum]
        simp only [hj, true_and]
      · have hk : ¬ k = j := Ne.symm hj
        have sum : stemSum [{ voice := v, dest := .stem k, sample := out }] j = 0 := by simp [stemSum, hk]
        rw [sum, if_neg (by decide), if_neg fun h => hj h.1]
    · rw [frameEnd_seq, hseq]
    · rw [frameEnd_fades, hfades]
  · obtain ⟨hnodup, hmem⟩ := frameOrder_spec first
    obtain ⟨w, seq, store, timing, state, owner, raised, reported⟩ :=
      playVoices_marker (s := runGates s) hnodup (hmem v) hx hstate hfifo hbuf hsilence hsilent
    -- what the report leaves, the frame leaves
    have leaves : (reportMarker v id w).stream = w.stream →
        (frameEnd s (playVoices (frameOrder first) (runGates s)).2 live
          (playVoices (frameOrder first) (runGates s)).1).seq = (reportMarker v id w).seq ∧
        ((frameEnd s (playVoices (frameOrder first) (runGates s)).2 live
          (playVoices (frameOrder first) (runGates s)).1).voice v).fifo = rest := fun hstream => by
      rw [frameEnd_seq, frameEnd_voice]
      exact reported hstream
    refine ⟨_, exec_audioFrame live first hreset rfl, fun howner => ?_, fun i c howner => ?_⟩
    · rw [howner] at raised owner
      rw [reportMarker_orphan owner] at leaves
      obtain ⟨hseq, hrest⟩ := leaves rfl
      exact ⟨raised.frameEnd s _ live, hseq.trans seq, hrest⟩
    · rw [howner] at raised owner
      have cues : markerCues c id w = s.store.cues.filter fun d => d.trigger == .marker c id := by
        rw [markerCues, store]
        rfl
      rw [reportMarker_inst state owner, cues] at leaves
      refine ⟨raised.frameEnd s _ live, fun hnone => ?_, fun q hq hwait hlen hfree => ?_⟩
      · have none : s.store.cues.filter (fun d => d.trigger == .marker c id) = [] :=
          List.filter_eq_nil_iff.mpr fun d hd => by simpa using hnone d hd
        rw [none] at leaves
        obtain ⟨hseq, hrest⟩ := leaves rfl
        exact ⟨hseq.trans seq, hrest⟩
      · have room : (raise (markerEvent v id (.inst i c)) w).seq.instances.length < 24 := by
          rw [raise_seq, seq]
          exact hlen
        have free : ∀ j ∈ (raise (markerEvent v id (.inst i c)) w).seq.instances,
            j.id ≠ (raise (markerEvent v id (.inst i c)) w).seq.nextId := by
          rw [raise_seq, seq]
          exact hfree
        have fires : fireMarkerCue q (raise (markerEvent v id (.inst i c)) w) =
            createInst q .marker (raise (markerEvent v id (.inst i c)) w) := by
          rw [fireMarkerCue, if_pos (hasRoom_of_lt room), makeRoom_eq_self room, fireCue_waiting hwait]
        rw [hq, List.foldl_cons, List.foldl_nil, fires, createInst_eq, takeInstId_eq free] at leaves
        obtain ⟨hseq, hrest⟩ := leaves rfl
        refine ⟨?_, hrest⟩
        rw [hseq, raise_seq, raise_seq, raise_timing, seq, timing]
        rfl

end Sys2Proof.Proofs
end
